-- ==== Sys2Proof/Word.lean ====
section
/-! DEFINITION. The plain words of the BDY-9640: bytes, 64-bit words, handles, tags (R8 to R11), and the widths of
fabric time. -/
namespace Sys2Proof

/-- One byte of device memory (R9). -/
abbrev Byte := BitVec 8
/-- One register, one bundle header or one slot word: 64 bits (R12, R207). -/
abbrev W64 := BitVec 64
/-- A 32-bit counter, semaphore or immediate (R221, R235). -/
abbrev W32 := BitVec 32
/-- A handle: INDEX in bits [11:0], GEN in bits [15:12] (R215). -/
abbrev Handle := BitVec 16
/-- A command tag (R207). -/
abbrev Tag := BitVec 24

/-- Picks in one shed (R11). -/
def shedPicks : Nat := 8192

end Sys2Proof
end

