-- ==== Sys2Proof/Syntax.lean ====
section
/-! DEFINITION. Syntax: the slot commands of a bundle (R213, R214) and `Instr`, one constructor per row of the spec's
table of operations and events. -/
namespace Sys2Proof

/-- MLOAD (R122, R214). -/
structure MLoad where
  w : Handle
  wkdim : BitVec 3
  wndim : BitVec 3
  kt : BitVec 4
  nt : BitVec 4
  cm1 : BitVec 6
  bc : Bool
  deriving DecidableEq, Repr

/-- MSTREAM (R123, R214). -/
structure MStream where
  a : Handle
  d : Handle
  akdim : BitVec 3
  amdim : BitVec 3
  dndim : BitVec 3
  dmdim : BitVec 3
  m0 : BitVec 4
  mrows : BitVec 4
  accm : BitVec 3
  epi : BitVec 4
  sat : Bool
  deriving DecidableEq, Repr

/-- MDRAIN (R124, R214). -/
structure MDrain where
  d : Handle
  dndim : BitVec 3
  dmdim : BitVec 3
  m0 : BitVec 4
  mode : BitVec 2
  epi : BitVec 4
  sat : Bool
  deriving DecidableEq, Repr

/-- The fields of a vector slot word beside its OP (R187, R214). -/
structure Vec where
  slotB : Bool
  fn : BitVec 6
  d : Handle
  a : Handle
  b : Handle
  x : BitVec 6
  deriving DecidableEq, Repr

/-- The vector families (R188): OP 0x0 to 0x7, VSMX split by its function. -/
inductive VOp where
  | vbin | vun | vred | smstep | smnorm | smrecomp | vint | dropout | causal | convert
  deriving DecidableEq, Repr

/-- XPOSE (R214). -/
structure XPose where
  dst : Handle
  src : Handle
  da : BitVec 3
  db : BitVec 3
  rb : Bool
  sid : BitVec 8
  deriving DecidableEq, Repr

/-- CADD (R214). -/
structure CAdd where
  cd : BitVec 4
  cs : BitVec 4
  ct : BitVec 4
  usect : Bool
  imm : W32
  deriving DecidableEq, Repr

/-- CMP (R214). -/
structure CmpF where
  kd : BitVec 3
  cs : BitVec 4
  ct : BitVec 4
  usect : Bool
  imm : W32
  rel : BitVec 3
  deriving DecidableEq, Repr

/-- The target of a WAITPICK (R214): an immediate pick, or the counters that hold its high and low halves. -/
inductive PickSrc where
  | imm (target : BitVec 56)
  | ctrs (ch cl : BitVec 4)
  deriving DecidableEq, Repr

/-- STATREAD (R176, R214). -/
structure StatRead where
  mode : Bool
  dst : Handle
  ref : Handle
  cdim : BitVec 3
  clr : Bool
  deriving DecidableEq, Repr

/-- QGRAD (R178, R214). -/
structure QGradF where
  q : Handle
  x : Handle
  g : Handle
  cdim : BitVec 3
  deriving DecidableEq, Repr

/-- FULL (R285, R214). -/
structure FullF where
  prog : BitVec 8
  p : Handle
  g : Handle
  s : Handle
  pass : BitVec 2
  deriving DecidableEq, Repr

/-- CKPT (R371, R214). -/
structure CkptF where
  ch : BitVec 4
  cl : BitVec 4
  list : Handle
  deriving DecidableEq, Repr

/-- A slot command: what one slot word of a bundle says (R214). -/
inductive SlotCmd where
  | mload (f : MLoad)
  | mstream (f : MStream)
  | mpair (claim : BitVec 2)
  | mdrain (f : MDrain)
  | vec (op : VOp) (f : Vec)
  | move (dst src : Handle)
  | fill (dst : Handle) (val : W32)
  | copy (dst src : Handle)
  | xpose (f : XPose)
  | throwTo (src : Handle) (fc : BitVec 4) (len : BitVec 40)
  | catchAt (dst : Handle) (fc : BitVec 4) (len : BitVec 40)
  | cset (cd : BitVec 4) (imm : W32)
  | cadd (f : CAdd)
  | cmp (f : CmpF)
  | loop (cnt idx : BitVec 4) (idxen : Bool)
  | endloop
  | skipif (k : BitVec 3) (sense : Bool) (n : BitVec 8)
  | run (page : BitVec 6) (word : BitVec 9) (pgen : BitVec 8)
  | waitsem (sem : BitVec 6) (n : W32)
  | signal (sem : BitVec 6) (loom : BitVec 7) (stream : BitVec 4) (add : W32)
  | waitpick (src : PickSrc)
  | fence (crec : Bool)
  | statcfg (sth sgh : Handle) (clear : Bool)
  | statread (f : StatRead)
  | qgrad (f : QGradF)
  | full (f : FullF)
  | ckptCut (f : CkptF)
  | ckptVote (f : CkptF)
  | swatch (sw : BitVec 16) (out : Handle)
  deriving DecidableEq, Repr

/-- Where a slot command comes from: its logical loom, its stream and the tag of its bundle (R227, R244). -/
structure Src where
  loom : Nat
  stream : Nat
  tag : Tag
  deriving DecidableEq, Repr

/-- What a time budget runs on (R242, R243): a command issued and not retired, or a stream's held command. -/
inductive BudgetRef where
  | cmd (id : Nat)
  | hold (loom stream : Nat)
  deriving DecidableEq, Repr

/-- What reads memory when an error is met (R225, R260, R261): a command issued and not retired, the fetch of a stream's
next bundle, or what no command makes: a host port, the checkpoint engine, a load of instruction memory. -/
inductive MemReader where
  | cmd (id : Nat)
  | fetch (loom stream : Nat)
  | other
  deriving DecidableEq, Repr

/-! ### What arrives from outside -/

/-- A slot header (R315). -/
structure SlotHdr where
  pick : W64
  flow : BitVec 20
  first : Bool
  last : Bool
  detour : Bool
  empty : Bool
  seq : W32
  tseq : W32
  valid : BitVec 15
  tlen : BitVec 40
  cdl : W64
  txn : W64
  deriving DecidableEq, Repr

/-- A flow record (R316): KIND 1 CREDIT, 2 DELIVERED, 3 FAILED, 4 EXPIRED; `arg` is the LEN of a CREDIT, the reason of
a FAILED or an EXPIRED. -/
structure FlowRec where
  kind : BitVec 8
  cidx : BitVec 8
  flow : BitVec 20
  tseq : W32
  arg : BitVec 40
  deriving DecidableEq, Repr

/-- What C1 carries (R313): the announcement of slot index 0 (key, hops, sequence number), a delay request, a delay
response, and the timestamps t1 and t4 of an earlier exchange, in FRAC units. -/
structure TimeCell where
  announce : Option (BitVec 136 × BitVec 8 × W32) := none
  request : Bool := false
  response : Bool := false
  stamps : Option (Int × Int) := none
  deriving DecidableEq, Repr

/-- A link-management message of C3: the bolt hash (R321), the switch shed of a failed lane
(R312), and a rekey: an encapsulation key or its ciphertext, and the shed of the new keys (R341). -/
inductive LinkMsg where
  | boltHash (h : BitVec 256)
  | laneSwitch (lane : BitVec 4) (shed : BitVec 48)
  | kemKey (bytes : List Byte)
  | kemText (bytes : List Byte)
  | keyShed (shed : BitVec 48)
  deriving DecidableEq, Repr

/-- What the FEC of one logical lane found in a slot (R312, R344): corrected and uncorrectable codewords, corrected symbols. -/
structure FecCount where
  lane : Nat
  ce : Nat
  ue : Nat
  syms : Nat
  deriving DecidableEq, Repr

/-- A slot as it arrives on a port (R313 to R316): its header, its payload as the link carries it, C1, the acknowledgement and
the flow records of C2; of C3 the tag (R340), the 64 bits of the partner's bolt hash that slot index 0 carries (R322) and the
link-management messages; and what the FEC found. -/
structure RxSlot where
  hdr : SlotHdr
  payload : List Byte
  time : TimeCell := {}
  lack : W64
  recs : List FlowRec
  tag : BitVec 128
  hash : Option W64
  msgs : List LinkMsg := []
  fec : List FecCount := []
  deriving DecidableEq, Repr

/-- Why a port leaves service (R336). -/
inductive PortFail where
  | absent | slow | faulty | hostile
  deriving DecidableEq, Repr

/-- What the handshake of R339 brings from the partner: its identity and port, its nonce and certificate chain (step 1), its
encapsulation key or its ciphertext with the secret that the two ends then share (step 2), and its signature (step 3);
`chainOk` and `sigOk` say whether the signatures of the chain and of step 3 verify; and the step at which the partner broke
off, if it did. -/
structure Handshake where
  ident : BitVec 128
  port : BitVec 5
  nonce : BitVec 256
  chain : List Byte
  kem : List Byte
  secret : BitVec 256
  chainOk : Bool
  sigOk : Bool
  failed : Option Nat
  deriving DecidableEq, Repr

/-- The error that a read meets (R261): whether it lies in a line of a beam die's cache, and whether ECC corrects it. -/
structure MemError where
  line : Bool
  correctable : Bool
  deriving DecidableEq, Repr

/-- A throw of a flow, by its TSEQ (R316). -/
structure ThrowId where
  flow : BitVec 20
  tseq : W32
  deriving DecidableEq, Repr

/-- A key exchange between the ends of a port (R341): the bytes sent for it, the secret they give, and the shed of the switch. -/
structure KeyChange where
  port : Nat
  kem : List Byte
  secret : BitVec 256
  shed : BitVec 48
  deriving DecidableEq, Repr

/-- A frame that is neither RoCE nor a neighbour's question (R346): the priority and the time of a priority flow control frame. -/
structure OtherFrame where
  port : Nat
  pause : Option (BitVec 3 × BitVec 16)
  deriving DecidableEq, Repr

/-- What a credit's life runs out on (R325): the oldest credit of a catcher of a flow, or a held THROW of a stream. -/
inductive CreditRef where
  | credit (flow : BitVec 20) (cidx : BitVec 8)
  | waiting (loom stream : Nat)
  deriving DecidableEq, Repr

/-- One member's part of a collective (R333, R334): its rank, the bit patterns of its ranges with the entries of their blocks
where its IN is block-scaled (R90), their format where they are floating-point numbers (R151), and element 0 of its IN. -/
structure CollPart where
  rank : Nat
  elems : List Nat
  scales : List Nat := []
  fp32 : Bool := false
  elem0 : Nat
  deriving DecidableEq, Repr

/-- A flow entry of a woven schedule (R319). -/
structure FlowEntry where
  flow : Nat
  collective : Bool
  source : Bool
  transit : Bool
  catcher : Bool
  srcLoom : Nat
  catchLoom : Nat
  ncatch : Nat
  cidx : Nat
  inPort : Nat
  altIn : Nat
  outMask : Nat
  hopoff : Nat
  altOut : Nat
  altOff : Nat
  revPort : Nat
  lat : Nat
  dlat : Nat
  acklat : Nat
  creditLife : Nat
  cbase : Nat
  cstep : Nat
  deriving DecidableEq, Repr

/-- A window entry (R320): first slot index, length in picks, KIND 1 SWATCH or 2 HBM_RETRAIN. -/
structure Window where
  start : Nat
  length : Nat
  kind : Nat
  deriving DecidableEq, Repr

/-- A woven schedule (R317): its index in the image, SCHED_ID, its bolt size and hash, the slot table entries that are not
IDLE as (8192 * port + slot index, entry), its flows and windows, and the neighbours it expects as (port, identity, port). -/
structure Schedule where
  index : Nat
  schedId : Nat
  boltSize : Nat
  hash : BitVec 256
  slots : List (Nat × Nat)
  flows : List FlowEntry
  windows : List Window
  neighbours : List (Nat × BitVec 128 × Nat)
  deriving DecidableEq, Repr

/-- What the configuration image sets for a host port (R422). -/
structure HostPortCfg where
  mode : Nat
  mac : Nat
  gid : BitVec 128
  pfcPrio : Nat
  pfcEn : Bool
  ecnEn : Bool
  deriving DecidableEq, Repr

/-- The decoded sections of a configuration image (R422), whose inner layout the spec leaves to the image's compiler. -/
structure ConfigData where
  bootHold : Bool
  soakSkip : Bool
  capW : Nat
  slack : Nat
  waitLimit : Nat
  forcePaced : Bool
  beamMode : List Nat
  ownPriority : Nat
  holdoverLimit : Nat
  asym : List (BitVec 32)
  trainTimeout : Nat
  laneBerLimit : Nat
  encrypt : Bool
  injAllow : Bool
  selBoot : Nat
  schedules : List Schedule
  anchors : List (BitVec 512)
  swatchKeys : List (BitVec 512)
  hostPorts : List HostPortCfg
  rate : Nat
  allow : List W64
  spareThreshold : Option Nat
  watch : List (Nat × Nat × W64)
  /-- Every field is in range and every reserved bit is 0, as far as the image's bytes show it (check 6). -/
  rangeOk : Bool
  deriving DecidableEq, Repr

/-- What TRAIN finds (R425): the temperature of each stack, and the rows of each that it repairs where HBM_REPAIR is invalid (R417). -/
structure TrainResult where
  temps : List Int
  rows : List Nat := []
  deriving DecidableEq, Repr

/-- What SOAK finds (R426): the two droop thresholds of each loom in mV, by loom, and the equalisation of the lanes of each port. -/
structure SoakResult where
  droop : List (Nat × Nat)
  eq : List (List Nat) := []
  deriving DecidableEq, Repr

/-- The opcodes of a RoCE packet as R347 sorts them. -/
inductive RoceOp where
  | writeFirst | writeMiddle | writeLast | writeOnly | readRequest | other
  deriving DecidableEq, Repr

/-- A RoCE packet that arrives (R347): its destination queue pair, PSN, opcode, address, key and length, its payload,
whether its ICRC checks, and whether it is marked ECN-CE; the bytes of its frame and the 802.1Q tags on it (R346). -/
structure RocePkt where
  qpn : BitVec 24
  psn : BitVec 24
  op : RoceOp
  va : W64
  rkey : BitVec 32
  len : Nat
  payload : List Byte
  icrcOk : Bool
  ecn : Bool
  frameLen : Nat := 0
  tags : Nat := 0
  deriving DecidableEq, Repr

/-- An acknowledgement that arrives (R350, R351): the code of a NAK, and whether the packet is marked ECN-CE. -/
structure RoceAck where
  nak : Option Nat
  ecn : Bool := false
  deriving DecidableEq, Repr

/-- The transports of the management plane (R455). -/
inductive Endpoint where
  | i3c | sideband
  deriving DecidableEq, Repr

/-- A frame on the sideband port (R454): whether it holds a UDP datagram, the addresses and ports it carries, the 4-byte
header of its payload, and how many bytes follow that header. -/
structure SidebandFrame where
  udp : Bool
  mac : BitVec 48
  ip : BitVec 128
  fromPort : BitVec 16
  toPort : BitVec 16
  version : Byte
  length : BitVec 16
  packet : Nat
  deriving DecidableEq, Repr

/-- How a request reaches the device (R453, R454): over I3C, or in a frame of the sideband port. -/
inductive Channel where
  | i3c
  | sideband (f : SidebandFrame)
  deriving DecidableEq, Repr

/-- The transport of a request. -/
def Channel.ep : Channel → Endpoint
  | .i3c => .i3c
  | .sideband _ => .sideband

/-- The PLDM base commands (R456). -/
inductive PldmBase where
  | getTid | getTypes | getCommands (type : BitVec 6) | getVersion (type : BitVec 6)
  /-- The two reads of the PDR repository of type 2 (R456), which have no row of their own: its size, and one record. -/
  | getPdrInfo
  | getPdr (record : BitVec 32)
  deriving DecidableEq, Repr

/-- The kinds of a staged transfer (R460): SWATCH brings an HBM address. -/
inductive XferKind where
  | cert | swatch (addr : W64) | auth
  deriving DecidableEq, Repr

/-- Events that only the clocked hardware can count (R478): `n` more of event `code` in a counter slot, with the
context it belongs to. -/
structure CntEvent where
  slot : Nat
  code : Nat
  ctx : Nat
  n : Nat
  deriving DecidableEq, Repr

/-- The commands of the block: one constructor per row of spec/opcode_table.json, in the table's order. -/
inductive Instr where
  /-- JOB_START. R35: a JOB_CTL write with JOB_START. -/
  | jobStart
  /-- JOB_RELEASE. R36: a JOB_CTL write with JOB_RELEASE. -/
  | jobRelease
  /-- RELEASE_COMPLETE. R510: the release completes. -/
  | releaseComplete
  /-- REGISTER_WRITE. R12: a write of `len` bytes at a control-window offset, from the host or (`priv`) from management. -/
  | registerWrite (priv : Bool) (off : BitVec 28) (len : Nat) (val : W64)
  /-- PPS_IN_EDGE. R47: a rising edge on PPS_IN. -/
  | ppsInEdge
  /-- TOD_ARM. R62: a TOD_CTL write with ARM. -/
  | todArm
  /-- ANNOUNCE_CELL_SEND. R46: the device sends its announce cells. -/
  | announceCellSend
  /-- ANNOUNCE_CELL_RECEIVE. R46: an announce cell with a valid tag arrives. -/
  | announceCellReceive (port : Nat) (key : BitVec 136) (hops : BitVec 8) (seq : W32)
  /-- GRANDMASTER_LOST. R49: eight sheds without a cell from the grandmaster. -/
  | grandmasterLost
  /-- DELAY_EXCHANGE. R50: an exchange of four timestamps with the parent, in units of 2^-16 picks. -/
  | delayExchange (t1 t2 t3 t4 : Int) (tagOk : Bool)
  /-- PARENT_LOST. R56: sixteen consecutive exchanges have been missed. -/
  | parentLost
  /-- HOLDOVER_LIMIT_EXPIRY. R57: HOLDOVER_ELAPSED reaches HOLDOVER_LIMIT. -/
  | holdoverLimitExpiry
  /-- UNSYNC_RESYNC. R58: a device in UNSYNC finds a path to a grandmaster. -/
  | unsyncResync (port : Nat) (time : Nat)
  /-- PPS_OUT_PULSE. R61: a second begins. -/
  | ppsOutPulse
  /-- BUNDLE_ISSUE. R210: the next bundle of a stream issues, or a held one goes on. -/
  | bundleIssue (loom stream : Nat)
  /-- BUNDLE_SIGNAL_SET. R212: the signal set of the oldest bundle is performed. -/
  | bundleSignalSet (loom stream : Nat)
  /-- COMMAND_RETIRE. R237: a command retires. -/
  | commandRetire (id : Nat)
  /-- TIME_BUDGET_EXPIRY. R243: a command passes its budget. -/
  | timeBudgetExpiry (what : BudgetRef)
  /-- MLOAD. R122. -/
  | mload (src : Src) (f : MLoad)
  /-- MLOAD_COMPLETE. R127: the plane is complete. -/
  | mloadComplete (id : Nat)
  /-- MORDANT_FRAME_ARRIVAL. R91: the next mordant frame of a command arrives. -/
  | mordantFrameArrival (id : Nat)
  /-- MSTREAM. R123. -/
  | mstream (src : Src) (f : MStream)
  /-- ROW_GROUP_ENTER. R128: the next row group of an MSTREAM enters. -/
  | rowGroupEnter (id : Nat)
  /-- MPAIR. R118. -/
  | mpair (src : Src) (claim : BitVec 2)
  /-- MDRAIN. R124. -/
  | mdrain (src : Src) (f : MDrain)
  /-- MDRAIN_START. R130: every update of the accumulation is complete. -/
  | mdrainStart (id : Nat)
  /-- EPILOGUE_ROW. R179: a row group runs through the epilogue and is written. -/
  | epilogueRow (id : Nat)
  /-- WATCH_PARTIAL_MERGE. R174: the oldest partial of a context merges. -/
  | watchPartialMerge (loom ctx : Nat)
  /-- STATCFG. R175. -/
  | statcfg (src : Src) (sth sgh : Handle) (clear : Bool)
  /-- STATREAD. R176. -/
  | statread (src : Src) (f : StatRead)
  /-- QGRAD. R178. -/
  | qgrad (src : Src) (f : QGradF)
  /-- VBIN. R188. -/
  | vbin (src : Src) (f : Vec)
  /-- VUN. R188. -/
  | vun (src : Src) (f : Vec)
  /-- VRED. R188. -/
  | vred (src : Src) (f : Vec)
  /-- SMSTEP. R188. -/
  | smstep (src : Src) (f : Vec)
  /-- SMNORM. R188. -/
  | smnorm (src : Src) (f : Vec)
  /-- SMRECOMP. R188. -/
  | smrecomp (src : Src) (f : Vec)
  /-- VINT. R188. -/
  | vint (src : Src) (f : Vec)
  /-- DROPOUT. R188. -/
  | dropout (src : Src) (f : Vec)
  /-- CAUSAL. R188. -/
  | causal (src : Src) (f : Vec)
  /-- CONVERT. R188. -/
  | convert (src : Src) (f : Vec)
  /-- MOVE. R274. -/
  | move (src : Src) (dst from_ : Handle)
  /-- FILL. R275. -/
  | fill (src : Src) (dst : Handle) (val : W32)
  /-- COPY. R276. -/
  | copy (src : Src) (dst from_ : Handle)
  /-- XPOSE. R277. -/
  | xpose (src : Src) (f : XPose)
  /-- MOVER_READ_FAULT. R281: the failing frame that a mover command reads arrives. -/
  | moverReadFault (id : Nat)
  /-- CSET. R221. -/
  | cset (src : Src) (cd : BitVec 4) (imm : W32)
  /-- CADD. R221. -/
  | cadd (src : Src) (f : CAdd)
  /-- CMP. R221. -/
  | cmp (src : Src) (f : CmpF)
  /-- LOOP. R222. -/
  | loop (src : Src) (cnt idx : BitVec 4) (idxen : Bool)
  /-- ENDLOOP. R222. -/
  | endloop (src : Src)
  /-- SKIPIF. R223. -/
  | skipif (src : Src) (k : BitVec 3) (sense : Bool) (n : BitVec 8)
  /-- RUN. R225. -/
  | run (src : Src) (page : BitVec 6) (word : BitVec 9) (pgen : BitVec 8)
  /-- WAITSEM. R235. -/
  | waitsem (src : Src) (sem : BitVec 6) (n : W32)
  /-- SIGNAL. R235. -/
  | signal (src : Src) (sem : BitVec 6) (loom : BitVec 7) (stream : BitVec 4) (add : W32)
  /-- WAITPICK. R60. -/
  | waitpick (src : Src) (p : PickSrc)
  /-- WAITPICK_RELEASE. R60: the target pick of a held WAITPICK comes. -/
  | waitpickRelease (loom stream : Nat)
  /-- FENCE. R233. -/
  | fence (src : Src) (crec : Bool)
  /-- FULL. R285. -/
  | full (src : Src) (f : FullF)
  /-- FULL_START. R286: the oldest held FULL of a die starts. -/
  | fullStart (die : Nat)
  /-- CKPT_CUT. R378. -/
  | ckptCut (src : Src) (f : CkptF)
  /-- CKPT_VOTE. R372. -/
  | ckptVote (src : Src) (f : CkptF)
  /-- CKPT_LATE_REJECT. R371: a held CKPT meets its pick with earlier commands unretired. -/
  | ckptLateReject (loom stream : Nat)
  /-- VOTE_DECIDE. R374: the gather ends with its records (VSTEP, two lanes, INVALID) or a fault. -/
  | voteDecide (recs : List (Nat × Nat × Nat × Bool)) (failure : Option (BitVec 16 × Nat))
  /-- CAPTURE_END. R380: the capture ends. -/
  | captureEnd
  /-- COPY_ON_WRITE. R381: a write meets an undrained image granule. -/
  | copyOnWrite (buf granule : Nat)
  /-- DRAIN_GRANULE_SEND. R384: the next granule is sent. -/
  | drainGranuleSend
  /-- CLOSING_RECORD_ACK. R384: the closing record is acknowledged. -/
  | closingRecordAck
  /-- DRAIN_FAIL. R386: the drain fails. -/
  | drainFail (reason : BitVec 4)
  /-- BUDDY_GRANULE_RECEIVE. R385: a granule or the closing record arrives. -/
  | buddyGranuleReceive (granule : Nat) (closing : Bool) (bytes : List Byte)
  /-- BUDDY_SEND. R385: a BUDDY_CTL write with SEND. -/
  | buddySend (flow : BitVec 20)
  /-- RESTORE_GO. R387: an RST_CTL write with GO. -/
  | restoreGo
  /-- RESTORE_COMPLETE. R388: the restore completes. -/
  | restoreComplete
  /-- REJOIN. R376: a VOTE_CTL write with REJOIN. -/
  | rejoin
  /-- SPARE_CMD. R403: a SPARE_CMD write with GO. -/
  | spareCmd (loom : BitVec 7)
  /-- SPARE_REMAP. R23: the shed boundary of a pending substitution. -/
  | spareRemap
  /-- HEALTH_SUSPECT. R402: a HEALTH write of SUSPECT. -/
  | healthSuspect
  /-- CAP_ARM. R392: a CAP_START write with ARM. -/
  | capArm
  /-- SWATCH. R398. -/
  | swatch (src : Src) (sw : BitVec 16) (out : Handle)
  /-- SWATCH_START. R399: a held SWATCH starts. -/
  | swatchStart (loom stream : Nat)
  /-- SWATCH_COMPLETE. R400: the program of a running swatch has ended. -/
  | swatchComplete (loom stream : Nat)
  /-- QUARANTINE. R397: an SWS_CTL write with QUARANTINE. -/
  | quarantine (entry : BitVec 8)
  /-- DESC_COMMIT. R219. -/
  | descCommit (slot : Nat) (index : BitVec 12)
  /-- DESC_INSTALL. R219: a waiting commit installs. -/
  | descInstall (slot : Nat)
  /-- DESC_READ. R219. -/
  | descRead (slot : Nat) (index : BitVec 12)
  /-- CLEAR_POISON. R219. -/
  | clearPoison (slot : Nat) (index : BitVec 12)
  /-- DOORBELL. R229. -/
  | doorbell (loom stream : Nat) (tail : W32) (added : BitVec 16)
  /-- RING_CTL_WRITE. R228. -/
  | ringCtlWrite (loom stream : Nat) (log2size : BitVec 5) (enable : Bool)
  /-- STOP. R511: a CCTL write with STOP. -/
  | stop (slot : Nat)
  /-- RESUME. R232: a CCTL write with RESUME. -/
  | resume (slot : Nat)
  /-- RESUME_EFFECT. R232: an accepted RESUME takes effect. -/
  | resumeEffect (loom stream : Nat)
  /-- SEMADD. R235. -/
  | semadd (loom stream : Nat) (sem : BitVec 6) (add : W32)
  /-- STREAM_SLICE. R234: the firmware slices at a shed boundary. -/
  | streamSlice (loom ctx : Nat)
  /-- IMEM_LOAD_GO. R226: an IMLD_CTL write with GO. -/
  | imemLoadGo (loom : Nat)
  /-- IMEM_FORCED_LOAD. R226: an IMLD_CTL write with GO and FORCE by Grembedun. -/
  | imemForcedLoad (loom : Nat)
  /-- IMEM_LOAD_START. R226: no stream of the loom is inside a program. -/
  | imemLoadStart (loom : Nat)
  /-- IMEM_LOAD_COMPLETE. R226: the last word is written. -/
  | imemLoadComplete (loom : Nat)
  /-- HT_COMMIT. R256. -/
  | htCommit (die : Nat) (index : BitVec 10)
  /-- HT_INVALIDATE. R256. -/
  | htInvalidate (die : Nat) (index : BitVec 10)
  /-- HT_INSTALL_DONE. R256: the waiting install completes. -/
  | htInstallDone (die : Nat)
  /-- BEAM_MODE_SWITCH. R271: a BEAM_MODE write. -/
  | beamModeSwitch (die : Nat) (cache : BitVec 6)
  /-- BEAM_SWITCH_COMPLETE. R271: the running switch completes. -/
  | beamSwitchComplete (die : Nat)
  /-- SCRUB_PASS. R262: the scrubber reads a word, of memory or of a line of a beam die's cache, and meets an error. -/
  | scrubPass (addr : Nat) (err : MemError)
  /-- MEMORY_READ_ERROR. R261, R225: a read of a command, or a fetch, meets an error. -/
  | memoryReadError (what : MemReader) (addr : Nat) (err : MemError)
  /-- HBM_RETRAIN. R263: an HBM retraining window of so many picks opens. -/
  | hbmRetrain (die : Nat) (window temp : Nat)
  /-- CHANNEL_SPARE. R265: the copy of a channel that has reached its threshold begins, or completes. -/
  | channelSpare (stack channel : Nat)
  /-- BANK_CLOSE. R268: a command to RETAIN or DARK reaches a bank. -/
  | bankClose (bank : Nat)
  /-- BANK_STATE_CHANGE. R268: a bank reaches its new state. -/
  | bankStateChange (bank : Nat)
  /-- LATE_BANK_ACCESS. R268: an access reaches a closed bank. -/
  | lateBankAccess (id : Nat) (addr : Nat)
  /-- FP_COMMIT. R308. -/
  | fpCommit (prog : BitVec 6)
  /-- FP_READ. R308. -/
  | fpRead (prog : BitVec 6)
  /-- FP_INVALIDATE. R308. -/
  | fpInvalidate (prog : BitVec 6)
  /-- TALLY_CLEAR. R308. -/
  | tallyClear (die : Nat)
  /-- SLOT_TRANSMIT. R313. -/
  | slotTransmit (port : Nat)
  /-- SLOT_RECEIVE. R327. -/
  | slotReceive (port : Nat) (m : RxSlot)
  /-- SLOT_RETRANSMIT. R327. -/
  | slotRetransmit (port : Nat)
  /-- THROW. R324. -/
  | throwTo (src : Src) (from_ : Handle) (fc : BitVec 4) (len : BitVec 40)
  /-- THROW_ADMIT. R326: a held THROW of a stream issues and is admitted. -/
  | throwAdmit (loom stream : Nat)
  /-- CATCH. R325. -/
  | catchAt (src : Src) (dst : Handle) (fc : BitVec 4) (len : BitVec 40)
  /-- CREDIT. R325: A CREDIT flow record arrives at the source and is queued for its catcher. -/
  | credit (flow : BitVec 20) (cidx : BitVec 8) (len : BitVec 40)
  /-- DELIVERED. R330: A DELIVERED record arrives at the sender and the THROW retires when every catcher has reported. -/
  | delivered (flow : BitVec 20) (cidx : BitVec 8) (tseq : W32)
  /-- FAILED. R329: A FAILED record at a catcher faults its CATCH with THROW_REJECTED. -/
  | throwFailed (flow : BitVec 20) (tseq : W32) (reason : BitVec 8)
  /-- EXPIRED. R329: An EXPIRED record at a catcher faults its CATCH with THROW_DEADLINE. -/
  | throwExpired (which : ThrowId)
  /-- CREDIT_LIFE_EXPIRY. R325: A credit unused for CREDIT_LIFE picks expires and EXPIRED is sent, or a THROW waiting that long is rejected. -/
  | creditLifeExpiry (what : CreditRef)
  /-- THROW_DEADLINE_EXPIRY. R330: At DEADLINE, a THROW lacking DELIVERED faults with THROW_DEADLINE. -/
  | throwDeadlineExpiry (id : Nat)
  /-- CATCH_DEADLINE_EXPIRY. R329: A CATCH incomplete at CDL, or with no FIRST slot by its timeout, faults with THROW_DEADLINE. -/
  | catchDeadlineExpiry (id : Nat)
  /-- CATCH_DELIVERY_COMPLETE. R329: When every byte of the throw is written, the CATCH retires and DELIVERED is sent. -/
  | catchDeliveryComplete (id : Nat)
  /-- COLLECTIVE_COMPLETE. R333: The collective combines its members' ranges and writes OUT. -/
  | collectiveComplete (id : Nat) (parts : List CollPart) (digests : List (BitVec 256))
  /-- COLLECTIVE_DEADLINE_EXPIRY. R334: A collective whose OUT is incomplete at DEADLINE faults and poisons OUT. -/
  | collectiveDeadlineExpiry (id : Nat)
  /-- LANE_FAIL. R312: A lane with too many FEC errors is declared failed and a switch shed is agreed. -/
  | laneFail (port lane : Nat) (shed : Nat)
  /-- LANE_SPARE_SWITCH. R312: At the agreed shed, both ends move the failed lane to lane 8. -/
  | laneSpareSwitch (port : Nat)
  /-- PORT_TRAINING_COMPLETE. R428: Link training completes and the port moves to neighbour discovery and AUTH. -/
  | portTrainingComplete (port : Nat) (delay : BitVec 16)
  /-- AUTH_HANDSHAKE. R339: Nonces, certificates, ML-KEM keys and signatures are exchanged to set up the link keys. -/
  | authHandshake (port : Nat) (h : Handshake)
  /-- PORT_QUARANTINED. R336: A port leaves IN_SERVICE for ABSENT, SLOW, FAULTY or QUARANTINED and detours engage. -/
  | portQuarantined (port : Nat) (why : PortFail)
  /-- REAUTH_RETRY. R337: A quarantined port retries authentication after a backoff that doubles up to 1,024 s. -/
  | reauthRetry (port : Nat) (h : Handshake)
  /-- ABSENT_RETRY. R336: An ABSENT port retries training every second. -/
  | absentRetry (port : Nat) (trained : Option (BitVec 16))
  /-- RESTORE. R338: RESTORE in PCTL retrains a SLOW, FAULTY or ABSENT port and returns it to service. -/
  | portRestore (port : Nat)
  /-- SCHEDULE_CHECK. R321: A port is checked for bolt hash, neighbour identity and HOPOFF, and enters MISMATCH on failure. -/
  | scheduleCheck (port : Nat) (hash : BitVec 256)
  /-- SCHED_SEL. R323: A SCHED_SEL write requests a schedule switch at a later shed. -/
  | schedSel (sel : BitVec 2) (shed : BitVec 48)
  /-- SCHEDULE_SWITCH. R323: At the switch shed, the selected schedule becomes active. -/
  | scheduleSwitch
  /-- REKEY. R341: Every 262,144 sheds, the ends exchange new keys and switch them at an agreed boundary. -/
  | rekey (k : KeyChange)
  /-- ROCE_WRITE_RECEIVE. R354: An RDMA WRITE packet is checked against the region and the allow list and executed in PSN order. -/
  | roceWriteReceive (port : Nat) (p : RocePkt)
  /-- ROCE_READ_REQUEST. R358: An RDMA READ request is checked and answered with data that includes earlier writes. -/
  | roceReadRequest (port : Nat) (p : RocePkt)
  /-- ROCE_ACK_RECEIVE. R350: An ACK or NAK arrives for requester traffic, acknowledging data or moving the queue pair to ERROR. -/
  | roceAckReceive (qp : BitVec 14) (psn : BitVec 24) (a : RoceAck)
  /-- ROCE_ACK_TIMEOUT. R350: A request unacknowledged within its timeout is resent, or the queue pair enters ERROR after its retries. -/
  | roceAckTimeout (qp : BitVec 14)
  /-- CNP_RECEIVE. R351: A received CNP lowers the queue pair's send rate. -/
  | cnpReceive (qp : BitVec 14)
  /-- NEIGHBOUR_SOLICITATION. R346: The port answers ARP and IPv6 neighbour solicitations for its own address. -/
  | neighbourSolicitation (port : Nat) (target : BitVec 128)
  /-- FRAME_DROP. R346: Any other frame is dropped and counted in DROPPED; or it is a priority flow control frame: the priority and
the quanta that it names. -/
  | frameDrop (f : OtherFrame)
  /-- QP_MODIFY. R348: A QP_CMD MODIFY moves a queue pair through its state machine. -/
  | qpModify (qp : BitVec 14)
  /-- QP_QUERY. R365: A QP_CMD QUERY copies a queue pair context into QP_STAGE. -/
  | qpQuery (qp : BitVec 14)
  /-- QP_RESET. R348: A QP_CMD RESET returns a queue pair to RESET and discards its requests. -/
  | qpReset (qp : BitVec 14)
  /-- MR_COMMIT. R353: MR_CMD commits a memory region. -/
  | mrCommit (index : BitVec 8)
  /-- MR_INVALIDATE. R353: MR_CMD with INVALIDATE removes a region once its requests complete. -/
  | mrInvalidate (index : BitVec 8)
  /-- RECORD_MIRROR. R360: A completion or fault record is mirrored to host memory by RDMA WRITE, or counted as dropped. -/
  | recordMirror (entry : BitVec 6)
  /-- FAULT_RECORD_WRITE. R505: The ring writer takes queued fault records and writes them into the fault-record ring. -/
  | faultRecordWrite (q : Nat)
  /-- FR_CTL_WRITE. R509: An FR_CTL write enables the fault ring with its size, or clears EN when no job is active. -/
  | frCtlWrite (log2n : BitVec 5) (en : Bool)
  /-- POWER_GOOD_RISE. R491: When PWR_GOOD rises and the rails are in range, the device starts FUSE. -/
  | powerGoodRise
  /-- POWER_GOOD_FALL. R492: PWR_GOOD falling, or VIN sagging below 10 V, cuts every core rail and the device goes to OFF. -/
  | powerGoodFall
  /-- FUSE. R417: The fuse controller loads the fuses and sets grade, roles and identity, or stops with CONFIG_INVALID. -/
  | fusePhase
  /-- VERIFY. R419: The ROM verifies the firmware image and derives the identity key, or stays in recovery. -/
  | verifyPhase (sigOk : Bool)
  /-- CONFIG. R423: Grembedun checks the configuration image and loads the configured values. -/
  | configPhase (cfg : ConfigData) (sigOk : Bool) (sect off : Nat)
  /-- TRAIN. R425: The dies are powered, HBM is repaired and trained, and memories are zero-filled. -/
  | trainPhase (failed : List Nat) (r : TrainResult)
  /-- SOAK. R426: A full-load pattern sets droop thresholds and lane equalisation, or falls back to CAL_LIGHT. -/
  | soakPhase (failed : Option Nat) (r : SoakResult)
  /-- LINK. R428: The Weaven ports train, discover their neighbours and authenticate. -/
  | linkPhase
  /-- TIME. R429: The device elects a grandmaster and disciplines its counter until LOCKED or GRANDMASTER. -/
  | timePhase
  /-- WEAVE. R430: The device installs the boot schedule and checks each authenticated port. -/
  | weavePhase
  /-- RELEASE. R431: The device reports READY and logs its phase durations. -/
  | releasePhase (durations : List Nat)
  /-- PWR_DEVICE_PARKED. R437: A device command to PARKED runs TRAIN and the later phases, or makes a service park. -/
  | pwrDeviceParked (count : BitVec 9)
  /-- PWR_DEVICE_READY. R437: A device command to READY returns the looms that a service park gated to ON. -/
  | pwrDeviceReady (count : BitVec 9)
  /-- PWR_DEVICE_MGMT. R437: A device command to MGMT powers off the compute, beam and link dies and HBM. -/
  | pwrDeviceMgmt (count : BitVec 9)
  /-- PWR_DEVICE_SHUTDOWN. R437: A device command to SHUTDOWN closes the event log and sets SHUTDOWN_OK. -/
  | pwrDeviceShutdown (count : BitVec 9)
  /-- PWR_LOOM_ON. R438: A loom command to ON returns looms from GATED or DARK. -/
  | pwrLoomOn (index count : BitVec 9)
  /-- PWR_LOOM_GATED. R439: A loom command to GATED stops the loom's streams and gates the loom once it is quiet. -/
  | pwrLoomGated (index count : BitVec 9)
  /-- PWR_LOOM_DARK. R439: A loom command to DARK stops the loom's streams and cuts its rail once it is quiet. -/
  | pwrLoomDark (index count : BitVec 9)
  /-- LOOM_QUIET. R439: Once no command of a commanded loom is in flight, the loom changes power state. -/
  | loomQuiet (loom : Nat)
  /-- PWR_BANK_ON. R438: A bank command to ON reopens banks, zero-filling those that were DARK. -/
  | pwrBankOn (index count : BitVec 9)
  /-- PWR_BANK_RETAIN. R268: A bank command to RETAIN closes banks and keeps their contents. -/
  | pwrBankRetain (index count : BitVec 9)
  /-- PWR_BANK_DARK. R269: A bank command to DARK closes banks and drops their contents, unless a resident entry covers them. -/
  | pwrBankDark (index count : BitVec 9)
  /-- CAP_CONTROL. R443: At each shed boundary, Grembedun compares average power with CAP_W and moves the cap ceiling. -/
  | capControl (watts : Nat)
  /-- DROOP_DETECT. R444: A droop detector fires and the loom clock is halved, held and ramped back. -/
  | droopDetect (loom : Nat)
  /-- DROOP_EXCESS. R445: A loom delivering less than 75% of its reference cycles in a shed raises DROOP_EXCESS. -/
  | droopExcess (loom : Nat) (share : Nat)
  /-- SENSOR_READ. R446: Every 100 µs, Grembedun reads the 96 sensors and acts on their WARN, THROTTLE and TRIP limits. -/
  | sensorRead (temps : List Int)
  /-- THERMAL_CEILING_UPDATE. R447: At shed boundaries, the thermal ceiling falls while a sensor is at THROTTLE and rises when it cools. -/
  | thermalCeilingUpdate
  /-- THERMAL_BACKSTOP. R447: A sensor at TRIP + 5 °C makes the regulator dies cut every core rail without firmware. -/
  | thermalBackstop (sensor : Nat)
  /-- LOCKSTEP_MISMATCH. R451: A lockstep mismatch resets Grembedun's cores, which restart from SRAM or flash, or stay held. -/
  | lockstepMismatch (pc : W64) (sram : List (Nat × Byte)) (sigOk : Bool)
  /-- ENTDAA. R453: The I3C port takes a dynamic address by ENTDAA. -/
  | entdaa (addr : BitVec 7)
  /-- SETDASA. R453: The I3C port takes a dynamic address by SETDASA from its static address. -/
  | setdasa (static addr : BitVec 7)
  /-- SET_ENDPOINT_ID. R455: Set Endpoint ID assigns an MCTP EID to a transport endpoint. -/
  | setEndpointId (via : Channel) (eid : BitVec 8)
  /-- PLDM_BASE_COMMAND. R456: GetTID, GetPLDMTypes, GetPLDMCommands and GetPLDMVersion return base information. -/
  | pldmBaseCommand (via : Channel) (cmd : PldmBase)
  /-- SET_EVENT_RECEIVER. R458: SetEventReceiver names the receiver of platform events. -/
  | setEventReceiver (via : Channel) (eid : BitVec 8)
  /-- SENSOR_READING_REQUEST. R457: A type 2 request returns a sensor value or state. -/
  | sensorReadingRequest (via : Channel) (sensor : BitVec 16)
  /-- REG_READ. R459: REG_READ reads one control-window register over management. -/
  | regRead (via : Channel) (off : BitVec 28)
  /-- REG_WRITE. R459: REG_WRITE writes one register with Grembedun-only rights. -/
  | regWrite (via : Channel) (off : BitVec 28) (val : W64)
  /-- TOD_ARM_COMMAND. R459: TOD_ARM writes TOD_SEC and then ARM. -/
  | todArmCommand (via : Channel) (seconds : BitVec 48)
  /-- LOG_READ. R459: LOG_READ returns event log entries from SEQ onward. -/
  | logRead (via : Channel) (seq : W64) (count : Nat)
  /-- LOG_HEAD. R459: LOG_HEAD returns the newest SEQ and CHAIN. -/
  | logHead (via : Channel)
  /-- XFER_OPEN. R460: XFER_OPEN opens a staged transfer and returns a handle. -/
  | xferOpen (via : Channel) (kind : XferKind) (len : Nat)
  /-- XFER_DATA. R460: XFER_DATA writes staged bytes. -/
  | xferData (via : Channel) (handle off : Nat) (bytes : List Byte)
  /-- XFER_IDLE_TIMEOUT. R460: An open transfer that receives nothing for 10 s is discarded. -/
  | xferIdleTimeout
  /-- XFER_CLOSE_CERT. R471: XFER_CLOSE with CERT checks and logs the identity certificate chain. -/
  | xferCloseCert (via : Channel) (handle : Nat) (chainOk : Bool)
  /-- XFER_CLOSE_SWATCH. R474: XFER_CLOSE with SWATCH verifies a signed swatch and installs it in the store. -/
  | xferCloseSwatch (via : Channel) (handle : Nat) (key : Option (BitVec 512))
  /-- XFER_CLOSE_AUTH. R461: XFER_CLOSE with AUTH verifies a signed fuse command and burns FW_SVN_MIN or KEY_REVOKE bits. -/
  | xferCloseAuth (via : Channel) (handle : Nat) (sigOk : Bool)
  /-- ATTEST. R472: ATTEST queues an attestation report request. -/
  | attest (via : Channel) (nonce : BitVec 256)
  /-- ATTEST_SIGNED. R473: Grembedun forms the report body and signs it with the identity key. -/
  | attestSigned
  /-- ATTEST_GET. R459: ATTEST_GET returns part of a signed report, or BUSY while it is being signed. -/
  | attestGet (via : Channel) (handle off : Nat)
  /-- OWNER_BURN. R459: OWNER_BURN burns OWNER_HASH when it is still zero. -/
  | ownerBurn (via : Channel) (hash : BitVec 256)
  /-- SWATCH_CANDIDATE. R475: SWATCH_CANDIDATE installs the captured candidate as a store entry in STATE 2. -/
  | swatchCandidate (via : Channel) (swid : W64)
  /-- SWATCH_STATE. R475: SWATCH_STATE removes, restores or quarantines a store entry. -/
  | swatchState (via : Channel) (entry : BitVec 8) (state : BitVec 2)
  /-- REQUEST_UPDATE. R462: RequestUpdate opens the single firmware update session. -/
  | requestUpdate (via : Channel)
  /-- REQUEST_FIRMWARE_DATA. R462: Grembedun requests component data, checks the header, erases the region and programs it. -/
  | requestFirmwareData (via : Channel) (component : BitVec 16) (bytes : List Byte)
  /-- VERIFY_COMPLETE. R462: At VerifyComplete, the signature over the bytes in flash is verified. -/
  | verifyComplete (via : Channel) (sigOk : Bool)
  /-- ACTIVATE_FIRMWARE. R464: ActivateFirmware continues bring-up, reruns CONFIG or defers to the next power cycle. -/
  | activateFirmware (via : Channel)
  /-- CANCEL_UPDATE. R463: CancelUpdate ends the session and leaves an erased region invalid. -/
  | cancelUpdate (via : Channel)
  /-- LOG_ENTRY_WRITE. R467: Grembedun writes a chained entry into the flash event log. -/
  | logEntryWrite
  /-- COUNTER_SNAPSHOT. R480: At each shed boundary, the collector latches every counter and writes a snapshot entry. -/
  | counterSnapshot (events : List CntEvent)
  /-- COUNTER_CFG_WRITE. R479: A counter CFG write, or ZERO, takes effect after the next shed boundary's latch. -/
  | counterCfgWrite (slot : BitVec 8) (counter : BitVec 3) (val : W64)
  /-- CLEAR_ALL. R479: CLEAR_ALL zeroes every counter at the next shed boundary. -/
  | clearAll
  /-- SNAPSHOT_ABANDONED. R480: An entry not written by the next boundary is abandoned and LOST counts it. -/
  | snapshotAbandoned
  /-- TRACE_RECORD_WRITE. R485: The collector writes buffered trace records into the trace ring, or drops them when a buffer is full. -/
  | traceRecordWrite (die : Nat)
  /-- CNT_ACCESS_WRITE. R482: A privileged write to CNT_ACCESS sets or clears user access to counters and rings. -/
  | cntAccessWrite (priv : Bool) (user : Bool)
  /-- PPS_PRESENT_EXPIRY. R45: When 2 s pass with no PPS_IN edge, PPS_PRESENT clears and the device is no longer grandmaster-capable. -/
  | ppsPresentExpiry
  /-- HOST_PORT_LINK_UP. R345: A host Ethernet port's link comes up after auto-negotiation and training, or goes down, and HPSTAT LINK_UP follows. -/
  | hostPortLinkUp (port : Nat) (up : Bool)
  /-- RAILS_IN_RANGE. R491: When the rails come within range after PWR_GOOD has already risen, the device leaves OFF and starts FUSE at that instant. -/
  | railsInRange
  /-- POWER_TRANSITION_COMPLETE. R438: A timed power transition, such as loom DARK to ON with bobbin zero-fill, bank DARK to ON with zero-fill, or device to MGMT, finishes: the state changes and PWR_STAT DONE sets. -/
  | powerTransitionComplete
  deriving DecidableEq, Repr

end Sys2Proof
end

