-- ==== Sys2Proof/Decode.lean ====
section
/-! DEFINITION. Decode: the commands that the table spells by bits. -/
namespace Sys2Proof

/-- The command of a word by the table's bits: its rows give no bits, so no word spells one (log entry 23). -/
def decodeTableWord (_nbits _w : Nat) : Option Instr := none

end Sys2Proof
end

