-- ==== Sys2Proof/Machine/Bits.lean ====
section
/-! DEFINITION. Bits, bytes and byte order: the helpers that every chapter uses (R8 to R11, R64, R215). -/
namespace Sys2Proof.Machine

/-- The descriptor index of a handle (R215). -/
def handleIndex (h : Handle) : Nat := h.toNat % 4096
/-- The generation of a handle (R215). -/
def handleGen (h : Handle) : Nat := h.toNat / 4096

/-- The shed that a pick lies in (R11). -/
def shedOf (pick : Nat) : Nat := pick / shedPicks

/-- The number of steps of size `b` needed to cover `a` (the ceiling of the quotient). -/
def ceilDiv (a b : Nat) : Nat := (a + b - 1) / b

/-- The value whose bytes, least significant first (R9), are `bs`. -/
def leValue : List Byte → Nat
  | [] => 0
  | b :: bs => b.toNat + 256 * leValue bs

/-- The `n` bytes of `v`, least significant first (R9). -/
def leBytes : Nat → Nat → List Byte
  | 0, _ => []
  | n + 1, v => BitVec.ofNat 8 v :: leBytes n (v / 256)

/-- The value in bits [hi:lo] of `w` (R9). -/
def bitsOf (w hi lo : Nat) : Nat := (w >>> lo) % 2 ^ (hi + 1 - lo)

/-- `w` with bits [hi:lo] replaced by `v` (the low bits of `v` that fit). -/
def setBits (w hi lo v : Nat) : Nat :=
  w - (bitsOf w hi lo) * 2 ^ lo + (v % 2 ^ (hi + 1 - lo)) * 2 ^ lo

/-- Bit `i` of `w`. -/
def bitAt (w i : Nat) : Bool := w.testBit i

/-- A Boolean as a bit. -/
def bit (b : Bool) : Nat := if b then 1 else 0

/-- The 32-bit pattern `v` read as a signed integer (R64). -/
def toSigned (bits v : Nat) : Int :=
  if v % 2 ^ bits < 2 ^ (bits - 1) then (v % 2 ^ bits : Nat) else (v % 2 ^ bits : Nat) - (2 ^ bits : Nat)

/-- The low `bits` bits of `z` in two's complement (R73). -/
def ofSigned (bits : Nat) (z : Int) : Nat := (z % (2 ^ bits : Nat)).toNat

end Sys2Proof.Machine
end

