-- ==== Sys2Proof/Machine/Float.lean ====
section
/-! DEFINITION. Number formats, roundings and conversions (R63 to R77, R166, R170): exact values, one rounding each,
and the sticky-flag conditions that a rounding or conversion meets. -/
namespace Sys2Proof.Machine

/-- The five sticky flags of one engine (R93). -/
structure Flags where
  ovf : Bool := false
  unf : Bool := false
  inx : Bool := false
  inv : Bool := false
  long : Bool := false
  deriving DecidableEq, Repr

/-- Flags gathered from two sources: a flag that either sets (R93). -/
def Flags.or (a b : Flags) : Flags :=
  { ovf := a.ovf || b.ovf, unf := a.unf || b.unf, inx := a.inx || b.inx, inv := a.inv || b.inv,
    long := a.long || b.long }

/-- INV alone (R70). -/
def Flags.invalid (b : Bool) : Flags := { inv := b }

/-- The five-bit group of the FLAGS register: bit 0 OVF, 1 UNF, 2 INX, 3 INV, 4 LONG (R96). -/
def Flags.toBits (f : Flags) : Nat := bit f.ovf + 2 * bit f.unf + 4 * bit f.inx + 8 * bit f.inv + 16 * bit f.long

/-- The exact value of a number: NaN, an infinity, or a signed fraction `num / den` with `den` positive. The sign of
a zero is kept (R70). -/
inductive FVal where
  | nan
  | inf (neg : Bool)
  | fin (neg : Bool) (num den : Nat)
  deriving DecidableEq, Repr

/-- Plus zero. -/
def FVal.zero : FVal := .fin false 0 1

/-- The exact value of an integer. -/
def FVal.ofInt (z : Int) : FVal := .fin (z < 0) z.natAbs 1

/-- `m * 2 ^ k` with sign `neg`. -/
def FVal.scaled (neg : Bool) (m : Nat) (k : Int) : FVal :=
  if 0 ≤ k then .fin neg (m <<< k.toNat) 1 else .fin neg m (1 <<< (-k).toNat)

/-- A floating-point format by its precision (hidden bit counted) and the width of its exponent field (R69). -/
structure FFmt where
  prec : Nat
  ebits : Nat
  deriving DecidableEq, Repr

/-- BF16 (R69). -/
def bf16 : FFmt := ⟨8, 8⟩
/-- FP32 (R69). -/
def fp32 : FFmt := ⟨24, 8⟩
/-- binary64 (R69). -/
def fp64 : FFmt := ⟨53, 11⟩

/-- The exponent bias of a format (R69). -/
def FFmt.bias (f : FFmt) : Nat := 2 ^ (f.ebits - 1) - 1
/-- The bits of a format. -/
def FFmt.width (f : FFmt) : Nat := f.prec + f.ebits
/-- The encoding of plus infinity. -/
def FFmt.infCode (f : FFmt) : Nat := (2 ^ f.ebits - 1) * 2 ^ (f.prec - 1)
/-- The canonical NaN (R70). -/
def FFmt.nanCode (f : FFmt) : Nat := f.infCode + 2 ^ (f.prec - 2)
/-- The sign bit of a format, as a number. -/
def FFmt.signBit (f : FFmt) : Nat := 2 ^ (f.width - 1)

/-- The value that an encoding stands for (R69). -/
def FFmt.decode (f : FFmt) (code : Nat) : FVal :=
  let neg := code.testBit (f.width - 1)
  let mag := code % 2 ^ (f.width - 1)
  let e := mag >>> (f.prec - 1)
  let fr := mag % 2 ^ (f.prec - 1)
  if e = 2 ^ f.ebits - 1 then (if fr = 0 then .inf neg else .nan)
  else if e = 0 then .scaled neg fr (1 - (f.bias : Int) - (f.prec - 1 : Nat))
  else .scaled neg (fr + 2 ^ (f.prec - 1)) ((e : Int) - (f.bias : Int) - (f.prec - 1 : Nat))

/-- How a rounding chooses: to nearest with ties to even (R70), stochastic on the magnitude with a 16-bit `u`
(R170), or away from zero (the upward roundings of R172 and R177, whose operands are not negative). -/
inductive RMode where
  | rne
  | stoch (u : Nat)
  | up
  deriving DecidableEq, Repr

/-- Whether a quotient `n / d` with whole part `t` and remainder `r` rounds up to `t + 1`. -/
def RMode.roundsUp (m : RMode) (t r d : Nat) : Bool :=
  match m with
  | .rne => d < 2 * r || (2 * r == d && t % 2 == 1)
  | .stoch u => u * d < r * 65536
  | .up => 0 < r

/-- The floor of the base-2 logarithm of the positive fraction `num / den`. -/
def ratLog2 (num den : Nat) : Int :=
  let e := (Nat.log2 num : Int) - (Nat.log2 den : Int)
  let ok := if 0 ≤ e then den <<< e.toNat ≤ num else den ≤ num <<< (-e).toNat
  if ok then e else e - 1

/-- An encoding together with the flags of the rounding that made it. -/
structure FRes where
  code : Nat
  fl : Flags := {}
  deriving DecidableEq, Repr

/-- One rounding of an exact value to a format (R70, R71, R170): overflow gives an infinity with OVF, a non-zero value
rounded to zero sets UNF, and a result that differs from the value sets INX. -/
def FFmt.round (f : FFmt) (m : RMode) (v : FVal) : FRes :=
  match v with
  | .nan => { code := f.nanCode }
  | .inf neg => { code := f.infCode + bit neg * f.signBit }
  | .fin neg num den =>
    if num = 0 then { code := bit neg * f.signBit }
    else
      let emin : Int := 1 - (f.bias : Int)
      let e := max (ratLog2 num den) emin
      let q := e - (f.prec - 1 : Nat)
      let n := if 0 ≤ q then num else num <<< (-q).toNat
      let d := if 0 ≤ q then den <<< q.toNat else den
      let t := n / d
      let r := n % d
      let t' := if m.roundsUp t r d then t + 1 else t
      let mag := if t' < 2 ^ (f.prec - 1) then t'
        else (e + (f.bias : Int)).toNat * 2 ^ (f.prec - 1) + (t' - 2 ^ (f.prec - 1))
      if f.infCode ≤ mag then
        { code := f.infCode + bit neg * f.signBit, fl := { ovf := true, inx := true } }
      else
        { code := mag + bit neg * f.signBit, fl := { unf := mag = 0, inx := r ≠ 0 } }

/-- Negation of a value. -/
def FVal.neg : FVal → FVal
  | .nan => .nan
  | .inf n => .inf (!n)
  | .fin n a b => .fin (!n) a b

/-- Magnitude of a value. -/
def FVal.abs : FVal → FVal
  | .nan => .nan
  | .inf _ => .inf false
  | .fin _ a b => .fin false a b

/-- Whether a value is a NaN. -/
def FVal.isNan : FVal → Bool
  | .nan => true
  | _ => false

/-- Whether a value is a zero of either sign. -/
def FVal.isZero : FVal → Bool
  | .fin _ n _ => n == 0
  | _ => false

/-- The exact sum; the flag says that a NaN was made from operands none of which is one (R70, R94). -/
def FVal.add (x y : FVal) : FVal × Bool :=
  match x, y with
  | .nan, _ => (.nan, false)
  | _, .nan => (.nan, false)
  | .inf a, .inf b => if a = b then (.inf a, false) else (.nan, true)
  | .inf a, _ => (.inf a, false)
  | _, .inf b => (.inf b, false)
  | .fin s a b, .fin t c d =>
    if s = t then (.fin s (a * d + c * b) (b * d), false)
    else if c * b < a * d then (.fin s (a * d - c * b) (b * d), false)
    else if a * d < c * b then (.fin t (c * b - a * d) (b * d), false)
    else (.fin false 0 1, false)

/-- The exact difference. -/
def FVal.sub (x y : FVal) : FVal × Bool := x.add y.neg

/-- The exact product; infinity times zero makes a NaN (R70). -/
def FVal.mul (x y : FVal) : FVal × Bool :=
  match x, y with
  | .nan, _ => (.nan, false)
  | _, .nan => (.nan, false)
  | .inf a, .inf b => (.inf (a != b), false)
  | .inf a, .fin t c _ => if c = 0 then (.nan, true) else (.inf (a != t), false)
  | .fin s a _, .inf b => if a = 0 then (.nan, true) else (.inf (s != b), false)
  | .fin s a b, .fin t c d => (.fin (s != t) (a * c) (b * d), false)

/-- The exact quotient; 0/0 and infinity over infinity make a NaN (R70). -/
def FVal.div (x y : FVal) : FVal × Bool :=
  match x, y with
  | .nan, _ => (.nan, false)
  | _, .nan => (.nan, false)
  | .inf _, .inf _ => (.nan, true)
  | .inf a, .fin t _ _ => (.inf (a != t), false)
  | .fin s _ _, .inf b => (.fin (s != b) 0 1, false)
  | .fin s a b, .fin t c d =>
    if c = 0 then (if a = 0 then (.nan, true) else (.inf (s != t), false))
    else (.fin (s != t) (a * d) (b * c), false)

/-- `x < y` of IEEE 754: false when either is a NaN. -/
def FVal.lt (x y : FVal) : Bool :=
  match x, y with
  | .nan, _ => false
  | _, .nan => false
  | .inf a, .inf b => a && !b
  | .inf a, _ => a
  | _, .inf b => !b
  | .fin s a b, .fin t c d =>
    match s, t with
    | false, false => a * d < c * b
    | true, true => c * b < a * d
    | true, false => a ≠ 0 || c ≠ 0
    | false, true => false

/-- `x = y` of IEEE 754: zeros of either sign are equal, a NaN equals nothing. -/
def FVal.eqv (x y : FVal) : Bool := !x.isNan && !y.isNan && !x.lt y && !y.lt x

/-- The sign of a value, a zero's included (R188 COPYSIGN). -/
def FVal.isNeg : FVal → Bool
  | .nan => false
  | .inf n => n
  | .fin n _ _ => n

/-- MIN of R188: the canonical NaN if either is NaN; −0 is below +0. -/
def FVal.min (x y : FVal) : FVal :=
  if x.isNan || y.isNan then .nan
  else if x.lt y then x else if y.lt x then y
  else if x.isNeg then x else y

/-- MAX of R188: the canonical NaN if either is NaN; +0 is above −0. -/
def FVal.max (x y : FVal) : FVal :=
  if x.isNan || y.isNan then .nan
  else if x.lt y then y else if y.lt x then x
  else if x.isNeg then y else x

/-- One rounding of an exact result, with INV where the operation made the NaN. -/
def FFmt.roundOp (f : FFmt) (r : FVal × Bool) : FRes :=
  let o := f.round .rne r.1
  { o with fl := o.fl.or (.invalid r.2) }

/-- A rounded addition of two encodings' values (R70). -/
def FFmt.addV (f : FFmt) (x y : FVal) : FVal × Flags :=
  let o := f.roundOp (x.add y)
  (f.decode o.code, o.fl)

/-- The element formats and their codes (R63). -/
inductive EFmt where
  | int8 | int4 | bf16 | fp32 | f64 | int32
  deriving DecidableEq, Repr

/-- The format that a code names; the codes 0x6 to 0xF are reserved (R63). -/
def EFmt.ofCode : Nat → Option EFmt
  | 0 => some .int8
  | 1 => some .int4
  | 2 => some .bf16
  | 3 => some .fp32
  | 4 => some .f64
  | 5 => some .int32
  | _ => none

/-- Bits of one element (R63). -/
def EFmt.bits : EFmt → Nat
  | .int8 => 8
  | .int4 => 4
  | .bf16 => 16
  | .fp32 => 32
  | .f64 => 64
  | .int32 => 32

/-- INT8 and INT4 are the narrow, block-scaled formats (R63, R78). -/
def EFmt.isNarrow : EFmt → Bool
  | .int8 => true
  | .int4 => true
  | _ => false

/-- The largest magnitude a conversion to a narrow format gives (R74). -/
def EFmt.limit : EFmt → Nat
  | .int4 => 7
  | _ => 127

/-- The floating format of a code, where it is one. -/
def EFmt.float? : EFmt → Option FFmt
  | .bf16 => some Machine.bf16
  | .fp32 => some Machine.fp32
  | .f64 => some Machine.fp64
  | _ => none

/-- The exact value of an element's code before any scale (R64, R69). -/
def EFmt.value (e : EFmt) (code : Nat) : FVal :=
  match e.float? with
  | some f => f.decode code
  | none => .ofInt (toSigned e.bits code)

/-- An integer result under the SAT field (R73): clamped to the symmetric range with SAT, wrapped without; the flag is
OVF. -/
def satWrap (bits : Nat) (sat : Bool) (z : Int) : Int × Bool :=
  let m : Int := 2 ^ (bits - 1)
  if sat then
    if m - 1 < z then (m - 1, true) else if z < -(m - 1) then (-(m - 1), true) else (z, false)
  else (toSigned bits (ofSigned bits z), z < -m || m - 1 < z)

/-- The floor of the fraction `num / den` with sign `neg`. -/
def floorFrac (neg : Bool) (num den : Nat) : Int :=
  if neg then -((num + den - 1) / den : Nat) else (num / den : Nat)

/-- The integer nearest to a fraction, ties to even (R75). -/
def nearestEven (neg : Bool) (num den : Nat) : Int :=
  let t := num / den
  let r := num % den
  let q : Nat := if RMode.rne.roundsUp t r den then t + 1 else t
  if neg then -(q : Int) else q

/-- The stochastic rounding of R76: one more than the floor exactly when the fraction times 65,536 exceeds `u`. -/
def stochInt (neg : Bool) (num den : Nat) (u : Nat) : Int :=
  let fl := floorFrac neg num den
  let f : Nat := if neg then (den - num % den) % den else num % den
  if u * den < f * 65536 then fl + 1 else fl

/-- The conversion to INT8 or INT4 under a scale (R74): the code, the flags, and whether it clamped. -/
def toNarrow (lim : Nat) (stoch : Option Nat) (x scale : FVal) : Int × Flags :=
  match (x.div scale).1 with
  | .nan => (0, { inv := true })
  | .inf neg => ((if neg then -(lim : Int) else lim), { ovf := true, inx := false })
  | .fin neg num den =>
    let clamp : Bool := lim * den < num
    let n := if clamp then lim else num
    let d := if clamp then 1 else den
    let q := match stoch with
      | none => nearestEven neg n d
      | some u => stochInt neg n d u
    (q, { ovf := clamp, unf := n ≠ 0 && q = 0, inx := q.natAbs * d ≠ n })

/-- Round to nearest, ties to even, of a value to an integer: NaN gives 0 with INV (R193); an infinity is given as
the sign of a value beyond every range. -/
def roundInt (bits : Nat) (x : FVal) : Int × Flags :=
  match x with
  | .nan => (0, { inv := true })
  | .inf neg => ((if neg then -(2 ^ bits : Nat) else (2 ^ bits : Nat)), {})
  | .fin neg num den =>
    let q := nearestEven neg num den
    (q, { inx := q.natAbs * den ≠ num, unf := num ≠ 0 && q = 0 })

/-- A BF16 encoding is a valid scale when it is a positive normal value, 0x0080 to 0x7F7F (R84). -/
def scaleValid (code : Nat) : Bool := 0x80 ≤ code && code ≤ 0x7F7F

end Sys2Proof.Machine
end

