-- ==== Sys2Proof/Machine/SMap.lean ====
section
/-! DEFINITION. A sparse table: pairs of a key and a value, keys strictly rising, no value equal to what an unlisted
key reads as. Memory and every indexed group of state uses it, so equal contents are equal data. -/
namespace Sys2Proof.Machine

/-- A sparse table by natural-number key. -/
abbrev SMap (α : Type) := List (Nat × α)

/-- The value at key `k`; an unlisted key reads as `d k`. -/
def smGet {α : Type} (d : Nat → α) : SMap α → Nat → α
  | [], k => d k
  | (a, v) :: rest, k => if a = k then v else smGet d rest k

/-- An entry put in its place by key. -/
def smPut {α : Type} : SMap α → Nat → α → SMap α
  | [], k, v => [(k, v)]
  | (a, x) :: rest, k, v => if a = k then (k, v) :: rest else if k < a then (k, v) :: (a, x) :: rest else (a, x) :: smPut rest k v

/-- The table with key `k` reading as `v`; a value equal to the default removes the entry. -/
def smSet {α : Type} [DecidableEq α] (d : Nat → α) (m : SMap α) (k : Nat) (v : α) : SMap α :=
  if v = d k then m.filter (fun p => p.1 != k) else smPut m k v

/-- Keys above `lo` strictly rising and no entry equal to its default. -/
def smWfFrom {α : Type} [DecidableEq α] (d : Nat → α) : Option Nat → SMap α → Bool
  | _, [] => true
  | lo, (a, x) :: rest =>
    (match lo with | none => true | some l => decide (l < a)) && decide (x ≠ d a) && smWfFrom d (some a) rest

/-- The canonical form of a sparse table. -/
def smWf {α : Type} [DecidableEq α] (d : Nat → α) (m : SMap α) : Bool := smWfFrom d none m

end Sys2Proof.Machine
end

