-- ==== Sys2Proof/Machine/State.lean ====
section
/-! DEFINITION. State: every register, table, queue, memory and pin that the spec gives the device, as plain data, and
`State.reset`. -/
namespace Sys2Proof.Machine

/-- Reasons for which a step could stop. No command of this block stops: a fault of the device is a fault record in
the state (R502 to R508). -/
inductive Fault where
  /-- Raised by no meaning: every device fault is recorded and the machine goes on. Safe. -/
  | none
  deriving DecidableEq, Repr

/-- Reasons for which a command is given no meaning. -/
inductive Refusal where
  /-- Raised by an arm of `exec` whose command has no meaning yet. Safe. -/
  | notModelled (mnemonic : String)
  deriving DecidableEq, Repr

/-! ### Command streams (R221 to R237) -/

/-- The state of a stream (R231). -/
inductive SState where
  | idle | running | held | faulted | stopped
  deriving DecidableEq, Repr

/-- The value SSTATE shows for a state (R231). -/
def SState.code : SState → Nat
  | .idle => 0
  | .running => 1
  | .held => 2
  | .faulted => 3
  | .stopped => 4

/-- One open loop (R222): the first bundle of its body, its count, its iteration and its index counter. -/
structure LoopFrame where
  body : Nat
  count : Nat
  iter : Nat
  idx : Option Nat
  deriving DecidableEq, Repr

/-- Where a stream stands in an instruction-memory program (R225): the word to fetch and the generation entered under. -/
structure ProgPos where
  pc : Nat
  pgen : Nat
  deriving DecidableEq, Repr

/-- What a bundle's end does once its slots have issued (R210, R222, R225). -/
structure BundleEnd where
  tag : Tag
  le : Bool
  pb : Bool
  endloop : Bool
  scalar : Option SlotCmd
  snap : List W32
  cmps : BitVec 8
  /-- The word after the bundle, in the ring or in instruction memory. -/
  next : Nat
  ring : Bool
  deriving DecidableEq, Repr

/-- What a slot command knows when it issues: its stream, slot and tag, its bundle's header and its slot word, its
bundle's number, the counters as they stood when the bundle began to issue (R211), and the iteration of each open loop,
outermost first. -/
structure IssueCtx where
  loom : Nat
  stream : Nat
  slot : Nat
  tag : Tag
  hdr : Nat := 0
  word : Nat := 0
  snap : List W32
  iters : List Nat
  bno : Nat
  inProg : Bool
  deriving DecidableEq, Repr

/-- One thing a stream still has to issue (R210): a slot command, or a bundle's end. -/
inductive IssueItem where
  | slot (i : IssueCtx) (c : SlotCmd)
  | fin (e : BundleEnd) (bno : Nat)
  deriving DecidableEq, Repr

/-- A trace record (R484) as it is built: the times in delivered loom cycles are free values (log entry 17). -/
structure TraceRec where
  pick : Nat
  frac : Nat
  issue : Nat
  first : Nat
  last : Nat
  retire : Nat
  tag : Nat
  loom : Nat
  stream : Nat
  mask : Nat
  forced : Bool
  faulted : Bool := false
  nodata : Bool
  held : Bool
  gap : Bool := false
  iters : List Nat
  code : Nat := 0
  deriving DecidableEq, Repr

/-- A bundle that has begun to issue and has not retired (R212). -/
structure BundleRec where
  bno : Nat
  tag : Tag
  signal : BitVec 8
  /-- Every slot has issued. -/
  issued : Bool
  ring : Bool
  /-- The ring word after the bundle, for a ring bundle. -/
  endOff : Nat
  /-- The bundle carries RUN and its program has not ended. -/
  running : Bool
  /-- The trace record of a selected bundle (R483). -/
  trace : Option TraceRec := none
  deriving DecidableEq, Repr

/-- Why a stream is held (R210, R239): arrays, a fulling engine of another context or of its own, a SWATCH that waits
for quiet contexts, WAITSEM, WAITPICK, CKPT, a THROW that waits for credit, or another state. -/
inductive HoldKind where
  | arrays | fulling | fullingOwn | swatchWait | waitsem | waitpick | ckpt | credit | other
  deriving DecidableEq, Repr

/-- A stream (R227). -/
structure StreamSt where
  enabled : Bool := false
  state : SState := .idle
  /-- Whether FAULTED shows: the record of the first fault is in the ring (R506). -/
  faultShown : Bool := false
  base : Nat := 0
  log2 : Nat := 0
  head : Nat := 0
  tail : Nat := 0
  retired : Nat := 0
  pending : Nat := 0
  ctrs : SMap W32 := []
  cmps : BitVec 8 := 0
  sems : SMap W32 := []
  loops : List LoopFrame := []
  prog : Option ProgPos := none
  /-- Bundles of a SKIPIF still to skip (R223). -/
  skip : Nat := 0
  queue : List IssueItem := []
  /-- Bundles begun and not retired, oldest first. -/
  bundles : List BundleRec := []
  /-- Accepted doorbells not yet fetched through: the tail and the bundles left (R229). -/
  bells : List (Nat × Nat) := []
  bno : Nat := 0
  stopReq : Bool := false
  resumeReq : Bool := false
  hold : Option (HoldKind × Nat) := none
  /-- Picks of the present hold spent sliced out, and the pick at which the stream was last sliced out (R234, R243). -/
  heldOut : Nat := 0
  slicedAt : Nat := 0
  /-- A forced load stops its program at the next bundle boundary (R226). -/
  reload : Bool := false
  /-- The fault that stopped a swatch program (R400). -/
  fault : Option (Nat × Nat × Nat × Nat) := none
  /-- The pick at which the last bundle began to issue (R234). -/
  begun : Option Nat := none
  /-- PICK and FRAC at which the bundle that waits for its wait set was decoded (R484). -/
  decoded : Option (Nat × Nat) := none
  deriving DecidableEq, Repr

/-! ### Commands issued and not retired (R217, R237, R242) -/

/-- One byte written: address, the bits that change, and their value (a nibble merge changes four, R68). -/
structure BWrite where
  addr : Nat
  mask : Byte
  val : Byte
  deriving DecidableEq, Repr

/-- The engines that hold sticky flags (R93). -/
inductive FlagGroup where
  | array | vector | quant | full
  deriving DecidableEq, Repr

/-- A fault that a command meets after issue: its code, its detail words and the handle that the record names. -/
structure LateFault where
  code : Nat
  dw0 : Nat := 0
  dw1 : Nat := 0
  dw2 : Nat := 0
  deriving DecidableEq, Repr

/-- A merge into one statistics record (R173): channel address, MAXABS code, CLIP, VANISH, COUNT, NAN_SEEN. -/
structure StatMerge where
  addr : Nat
  maxabs : Nat
  clip : Nat
  vanish : Nat
  count : Nat
  nan : Bool
  deriving DecidableEq, Repr

/-- A partial of a watched entry (R174). -/
structure WatchPart where
  ctx : Nat
  /-- The command it comes from. -/
  cmd : Nat
  entry : Nat
  count : Nat
  sse : Nat
  /-- The command has retired, so the partial may merge in its turn. -/
  ready : Bool
  deriving DecidableEq, Repr

/-- What a command writes when it retires: its output, of which rows may stand after a late fault (R281), and the records
that only a retirement changes (R177, R288). -/
structure Plan where
  writes : List BWrite := []
  records : List BWrite := []
  quant : Flags := {}
  own : Flags := {}
  /-- The words of the digest message (R367), each after its destination's number (twice it for an element, one more
  for a frame) and its index there. -/
  words : List (Nat × Nat × Nat) := []
  /-- The elements that a vector command covers, which its skeins hold (R185). -/
  elems : Nat := 0
  stats : List StatMerge := []
  /-- The watched accumulators of the context are cleared at the end (R175, R176). -/
  unwatch : Bool := false
  /-- Counts for MVSTAT and MVSTAT2 (R279): blocks, vanish, degenerate, clip, invalid source entries. -/
  mv : Option (Nat × Nat × Nat × Nat × Nat) := none
  /-- A pass two of FULL: its update index and the two lanes of its tally (R304). -/
  tally : Option (Nat × Nat × Nat) := none
  deriving DecidableEq, Repr

/-- A tensor operand as resolved (R217): its handle, its descriptor words, its table entry and die. -/
structure Operand where
  handle : Handle
  words : List W64
  w0 : W64
  w1 : W64
  /-- The mordant handle of a block-scaled operand was resolved with it; its table entry. -/
  mord : Bool := false
  m0 : W64 := 0
  m1 : W64 := 0
  deriving DecidableEq, Repr

/-- The epilogue configuration a command read at issue (R156). -/
structure EpiCfg where
  act : Nat
  rnd : Bool
  stats : Bool
  scl : Option Operand
  bias : Option Operand
  qsc : Option Operand
  stat : Option Operand
  lo : Nat
  hi : Nat
  step : Nat
  seed : Nat
  deriving DecidableEq, Repr

/-- An open accumulation (R115); its elements are kept under its number. -/
structure Acc where
  aid : Nat
  fmt : EFmt
  nt : Nat
  cm1 : Nat
  bc : Bool
  rows : Nat
  nextKt : Nat
  bsize : Nat
  kExt : Nat
  nExt : Nat
  deriving DecidableEq, Repr

/-- The drain side of a matrix command: where and how rows are written. -/
structure Drain where
  d : Operand
  dndim : Nat
  dmdim : Nat
  m0 : Nat
  sat : Bool
  /-- None for RAW and TOTAL64, which bypass the epilogue (R155). -/
  epi : Option EpiCfg
  /-- RAW writes block sums, TOTAL64 binary64 totals (R114, R124). -/
  raw : Bool
  /-- The scale of every scale position of D, after the check of R163. -/
  scales : List Nat
  /-- NT * Nt: the column of D that the tile's column 0 is written at (R117). -/
  n0 : Nat
  /-- Frames of D already written (R164). -/
  framesDone : List Nat := []
  deriving DecidableEq, Repr

/-- A collective as its THROW admitted it (R331, R332): the member loom's flow and rank, the operation (0 to 4), FP32
or binary64, SCOPE, STEPCHK, the members, the step, the ranges, the resolved OUT and this member's own part. -/
structure Coll where
  flow : Nat
  start : Nat
  step : Nat
  op : Nat
  fp32 : Bool
  scope : Bool
  stepchk : Bool
  nmemb : Nat
  rank : Nat
  /-- SHAKE256 of the header's bytes 0 to 27 and 32 to 63 (R334). -/
  digest : Nat
  ranges : List (Nat × Nat)
  out : Operand
  mine : CollPart
  members : List Nat
  deriving DecidableEq, Repr

/-- The phase of a command that takes several events. -/
inductive Phase where
  /-- Computed at issue; lands when the command retires. -/
  | plain
  /-- MLOAD: the half and plane it loads, its operand and dimensions, the tile's columns, the frames still to come and
  those read (R127). -/
  | mload (half plane : Nat) (op : Operand) (kdim ndim : Nat) (cols : List (List Nat))
      (need : List Nat) (got : List (Nat × List Nat))
  /-- MSTREAM: the half and plane it reserved, its accumulation, its operand, rows, drain, the frames in the buffer,
  rows fed, and finished rows that wait for the epilogue (R113, R114, R128). -/
  | mstream (half plane accm aid : Nat) (op : Operand) (kdim mdim m0 mrows : Nat) (drain : Option Drain)
      (got : List (Nat × List Nat)) (fed : Nat) (rows : List (Nat × List Nat))
  /-- MDRAIN: its half, mode and accumulation, its rows, whether it has started and the rows left (R130). -/
  | mdrain (half mode : Nat) (acc : Acc) (drain : Option Drain) (started : Bool) (rows : List (Nat × List Nat))
  /-- FULL: the die whose engine runs it (R286), and the pick from which it is shown in pass two. -/
  | full (die : Nat) (turn : Option Nat)
  /-- An admitted THROW (R326): its flow, throw number, DEADLINE, and the catchers that have not reported. -/
  | throwing (flow tseq deadline : Nat) (need : List Nat)
  /-- An issued CATCH (R325, R329): its flow, LEN, the pick by which a FIRST slot must come, the CDL of its throw once a
  slot has told it, and the bytes written. -/
  | catching (flow len timeout tseq : Nat) (dst : Operand) (cdl : Option Nat) (got : Nat)
  /-- A collective THROW (R331): its header and its DEADLINE. -/
  | collective (h : Coll) (deadline : Nat)
  /-- CKPT and SWATCH run by their own events. -/
  | own
  deriving DecidableEq, Repr

/-- A command issued and not retired. -/
structure Cmd where
  id : Nat
  loom : Nat
  stream : Nat
  slot : Nat
  tag : Tag
  bno : Nat
  iters : List Nat
  c : SlotCmd
  issuePick : Nat
  /-- The budget in picks (R242); none for THROW and CATCH. -/
  budget : Option Nat
  /-- N_c, its completion bound in loom cycles (R242). -/
  cycles : Nat := 0
  /-- Destination handles, the command's own destination field first (R504). -/
  dsts : List Handle
  /-- The destination that a record names where it is not the first of them: the statistics buffer of a FULL that stores no binding
  (R504). -/
  faultOn : Option Handle := none
  /-- Every handle the command names (R217). -/
  names : List Handle
  /-- Every handle whose buffer the command writes (R238). -/
  wrote : List Handle
  /-- First and last device addresses of what it reads and of what it writes. -/
  reads : List (Nat × Nat) := []
  writes : List (Nat × Nat) := []
  /-- The table entries it resolved, as 1024 * die + entry. -/
  entries : List Nat
  plan : Plan := {}
  /-- The frames still to arrive and what each raises (R91, R85). -/
  frames : List (Option LateFault) := []
  phase : Phase := .plain
  /-- It drains after a fault of its stream (R236). -/
  draining : Bool := false
  /-- The address of the digest record it reserved (R366). -/
  digest : Option Nat := none
  /-- It belongs to a swatch program (R399). -/
  sw : Bool := false
  deriving DecidableEq, Repr

/-! ### Matrix arrays (R105 to R119, R138 to R140) -/

/-- A weight plane (R105, R106). -/
structure Plane where
  loaded : Bool := false
  w : Handle := 0
  /-- The handles that W named when it was resolved: its own, and its mordant handle (R107, R217). -/
  names : List Handle := []
  fmt : EFmt := .int8
  kt : Nat := 0
  nt : Nat := 0
  cm1 : Nat := 0
  bc : Bool := false
  bsize : Nat := 0
  kExt : Nat := 0
  nExt : Nat := 0
  /-- Weight codes of each existing column, in increasing depth; a position not listed holds 0 (R103). -/
  cols : List (List Nat) := []
  /-- Scale codes of each column, by block of the pass. -/
  scales : List (List Nat) := []
  deriving DecidableEq, Repr

/-- The running reduction of one output element (R138 to R140). -/
structure AccCell where
  chunk : Nat := 0
  held : Nat := 0
  total : Nat := 0
  count : Nat := 0
  first : Bool := true
  deriving DecidableEq, Repr

/-- What holds a half of the arrays (R118): the context. -/
abbrev Claim := Option Nat

/-- The array state of a loom. A FULL claim uses half 0's planes and accumulation. -/
structure LoomSt where
  own0 : Claim := none
  own1 : Claim := none
  full : Bool := false
  /-- Planes, index 2 * half + plane. -/
  planes : SMap Plane := []
  /-- The plane that the most recent MLOAD of each half loaded. -/
  recent0 : Option Nat := none
  recent1 : Option Nat := none
  acc0 : Option Acc := none
  acc1 : Option Acc := none
  /-- Rows of accumulations, by accumulation number: the elements of a row's columns as far as a plane has had them inside
  its N extent, then one element that stands for every column beyond (R103). -/
  cells : SMap (List (List AccCell)) := []
  /-- Contexts whose claim is released once their matrix commands from an identity on have drained (R133). -/
  dropping : List (Nat × Nat) := []
  /-- Watched accumulators: N and the binary64 SSE, by entry (R174). -/
  watch : SMap (Nat × Nat) := []
  /-- Partials waiting to merge, in issue order. -/
  parts : List WatchPart := []
  /-- The load of instruction memory that is waiting or writing. -/
  imPages : List Nat := []
  /-- Its source, as IMLD_SRC stood when it was requested. -/
  imSrc : Nat := 0
  deriving DecidableEq, Repr

/-- Why RUNs of a loom are held, and the fulling engine of a die: the running FULL and the streams held for it. -/
structure FullEng where
  running : Option Nat := none
  waiting : List (Nat × Nat) := []
  deriving DecidableEq, Repr

/-! ### Fault records (R502 to R506) -/

/-- The severity of a record (R502). -/
inductive Severity where
  | advisory | context | device | bolt
  deriving DecidableEq, Repr

/-- The value of a severity (R502). -/
def Severity.code : Severity → Nat
  | .advisory => 0
  | .context => 1
  | .device => 2
  | .bolt => 3

/-- The command that a record names (R503). -/
structure CmdName where
  loom : Nat
  stream : Nat
  slot : Nat
  tag : Tag
  iters : List Nat
  deriving DecidableEq, Repr

/-- A fault record as raised (R503); PHASE and SEQ are set at its write. -/
structure FaultRec where
  pick : Nat
  code : Nat
  sev : Severity
  cmd : Option CmdName := none
  loom : Option Nat := none
  sec : Bool := false
  handle : Option Handle := none
  dw0 : Nat := 0
  dw1 : Nat := 0
  dw2 : Nat := 0
  /-- The trace record of the faulting bundle, recorded with this record's write (R484). -/
  trace : Option TraceRec := none
  /-- The record has been logged and sent before it is written, since the ring was about to be lost (R458, R468). -/
  reported : Bool := false
  deriving DecidableEq, Repr

/-- Record queues and the ring writer (R413, R506). -/
structure FaultSt where
  /-- One queue for each compute die and each host die. -/
  queues : SMap (List FaultRec) := []
  /-- Records held until the ring is first enabled. -/
  held : List FaultRec := []
  /-- Records written at the present pick (at most 8). -/
  written : Nat := 0
  deriving DecidableEq, Repr

/-! ### Fabric time (R41 to R62) -/

/-- What a port's last announce cell offered (R46): key, hops, sequence number, and the shed it came in. -/
structure Announce where
  key : Nat
  hops : Nat
  seq : Nat
  shed : Nat
  deriving DecidableEq, Repr

/-- The pick counter and the servo's memory; what registers show of it is in the TIME block. -/
structure TimeSt where
  pick : Nat := 0
  frac : Nat := 0
  /-- What a rate correction has gathered below one FRAC unit, in units of 2^-32 picks (R53, R62). -/
  sub : Nat := 0
  /-- What is left of a period of the local clock in which two picks begin, in units of 2^-32 picks (R53; log entry 7). -/
  rest : Nat := 0
  /-- The first pick that the counter showed in the present shed (R59). -/
  shedAt : Nat := 0
  /-- FRAC units of the parent's time that a held counter still waits for (R53). -/
  holdTo : Option Nat := none
  /-- The one step of R53 has been made. -/
  synced : Bool := false
  /-- Consecutive good exchanges (R54), and the pick of the last valid one (R56). -/
  good : Nat := 0
  lastGood : Nat := 0
  /-- The span of 1,024 picks of the last exchange that a failed tag or a quarantine cut short (R51). -/
  cutAt : Option Nat := none
  lastPps : Option Nat := none
  /-- TOD_SEC is applied at the next PPS_IN edge (R62). -/
  armed : Bool := false
  /-- The second that the last PPS_IN edge marked (R47). -/
  todSecond : Option Nat := none
  ann : SMap (Option Announce) := []
  /-- The best key known and its hop count (R46). -/
  best : Option (Nat × Nat) := none
  /-- The shed in which the best key last changed (R46). -/
  stableSince : Nat := 0
  /-- The shed of the last cell that carried the best key with a new sequence number (R49). -/
  lastKeyShed : Nat := 0
  announceSeq : Nat := 0
  /-- The shed whose announce cells have been sent (R46). -/
  announced : Option Nat := none
  /-- The pick of the last pulse driven on PPS_OUT (R61). -/
  ppsOut : Option Nat := none
  deriving DecidableEq, Repr

/-! ### Digests, votes, checkpoints, swatches and spares (R366 to R409) -/

/-- The GATHER that a vote runs on its die's collective engine (R373): START and DEADLINE, MYRANK, the member list, and the 32 bytes
that this member hands in (R372). -/
structure VoteGather where
  start : Nat
  deadline : Nat
  rank : Nat
  members : List Nat
  record : List Byte
  deriving DecidableEq, Repr

/-- A latched vote that awaits its decision (R372, R373). -/
structure VoteRun where
  cmd : Nat
  vstep : Nat
  lo : Nat
  hi : Nat
  invalid : Bool
  gather : VoteGather
  deriving DecidableEq, Repr

/-- One buffer of a designated set (R379). -/
structure DesigBuf where
  handle : Handle
  desc : List W64
  w0 : W64
  w1 : W64
  /-- First granule of the buffer in the image, and how many it takes (R383). -/
  first : Nat
  count : Nat
  /-- An HBM buffer is marked for copy-on-write; any other was copied at capture. -/
  hbm : Bool
  /-- The shadow granule at which its capture copy begins (R382). -/
  copy : Nat
  /-- The shadow granule that holds the copy-on-write copy of a granule of the buffer (R381, R382). -/
  copied : SMap (Option Nat)
  deriving DecidableEq, Repr

/-- A checkpoint being captured or drained (R378 to R386). -/
structure CkptRun where
  cmd : Nat
  bufs : List DesigBuf
  total : Nat
  /-- The closing record has been sent. -/
  closing : Bool := false
  /-- The pick since which the checkpoint engine's next throw waits for credit (R325, R386). -/
  since : Option Nat := none
  deriving DecidableEq, Repr

/-- A candidate capture that is active (R392, R393). -/
structure CapRun where
  startPick : Nat
  /-- The stream's counters at the range start, and the context's EPICFG, CLAMP and GEN. -/
  ctrs : List W32
  epi : List W64
  clamp : W64
  gen : W64
  /-- Program words recorded so far. -/
  prog : List Nat := []
  /-- Handles in the order first named, with their descriptor words and scratch offset. -/
  handles : List (Handle × List W64 × Nat) := []
  written : List Handle := []
  /-- An MLOAD of the range has issued; the layer records of its passes one (R394), and of every FULL. -/
  loaded : Bool := false
  passOnes : List Handle := []
  layers : List Handle := []
  /-- Scratch contents recorded: offset and byte. -/
  data : SMap Byte := []
  scratch : Nat := 0
  cycles : Nat := 0
  /-- The first command identity of the range, and the digest words of its retired commands. -/
  firstCmd : Nat
  words : List (Nat × List (Nat × Nat × Nat)) := []
  /-- The bundle of CAP_END has issued; the image is written when the last command has retired. -/
  closing : Option Nat := none
  deriving DecidableEq, Repr

/-- A swatch held for quiet contexts, or running (R398 to R400): the loom and the stream of its SWATCH, the command's
identity, the store entry, OUT, the header's values, and the stream, descriptors and key that stand in for the job's
while the program's commands issue and run. -/
structure SwatchRun where
  loom : Nat
  stream : Nat
  running : Bool := false
  cmd : Nat := 0
  entry : Nat := 0
  /-- STATE of the entry when the SWATCH issued, against which it completes (R475); 0 once another image stands in the entry. -/
  entered : Nat := 0
  swid : Nat := 0
  out : Option Operand := none
  skey : Nat := 0
  expect : Nat := 0
  /-- The program's stream: its counters, loops and queue. -/
  st : StreamSt := {}
  descs : SMap (List W64) := []
  seed : W64 := 0
  /-- The program's words. -/
  prog : List W64 := []
  /-- Context registers of the loom as they stood, to restore. -/
  saved : List (Nat × W64) := []
  /-- The digest words of retired commands, by command. -/
  words : List (Nat × List (Nat × Nat × Nat)) := []
  deriving DecidableEq, Repr

/-- A register access that stalls for a pending substitution (R23): a write, a read by management, or the read of `len`
bytes by an RDMA READ request with its PSN. -/
inductive Stalled where
  | write (priv : Bool) (off len val : Nat)
  | read (ep : Endpoint) (off : Nat)
  /-- A RoCE packet of a queue pair that waits, with all that come after it; `granted` says that it passed R354 when it arrived. -/
  | packet (qp : Nat) (p : RocePkt) (granted : Bool)
  deriving DecidableEq, Repr

/-- A running SEND of the held image (R385): its flow, the next granule, and the pick since which that throw waits for credit. -/
structure SendRun where
  flow : Nat
  next : Nat := 0
  since : Option Nat := none
  deriving DecidableEq, Repr

/-- The resilience engines' memory. -/
structure ResSt where
  /-- VOTEs that have latched and are not decided, in the order of their latches (R373). -/
  votes : List VoteRun := []
  /-- A fault of severity CONTEXT or higher since the last latch, JOB_START or restore (R372). -/
  invalidSeen : Bool := false
  /-- A restore has completed since the vote that set EXPELLED or VOTE_HOLD (R376). -/
  restored : Bool := false
  ckpt : Option CkptRun := none
  cap : Option CapRun := none
  swatches : List SwatchRun := []
  /-- Store entries that have passed, by loom, since SUSPECT was set (R402). -/
  passed : List (Nat × Nat) := []
  /-- The position whose substitution is pending (R23, R403). -/
  remap : Option Nat := none
  /-- Accesses that stall for a pending substitution, in order of arrival (R23). -/
  stalled : List Stalled := []
  sending : Option SendRun := none
  deriving DecidableEq, Repr

/-! ### Weaven (R309 to R344) -/

/-- A data slot to send, or kept until it is acknowledged (R327). -/
structure TxSlot where
  hdr : SlotHdr
  payload : List Byte
  /-- The pick from which the detour counts (R327): that of its arrival in transit, that of its own flow slot at the source. -/
  base : Nat := 0
  deriving DecidableEq, Repr

/-- The memory of a Weaven port beside its registers. -/
structure PortSt where
  /-- Keys are agreed with the partner: those of the two directions, and whether this end has the lower identity (R339, R340). -/
  keyed : Bool := false
  txKey : Nat := 0
  rxKey : Nat := 0
  lower : Bool := false
  /-- A rekey agreed: the shed of the new keys, and the keys (R341). -/
  newKeys : Option (Nat × Nat × Nat) := none
  /-- TXN of the next slot sent, and the highest TXN accepted under the present keys (R315, R340). -/
  txn : Nat := 0
  rxTxn : Option Nat := none
  /-- PICK of the last slot received intact (LACK, R316), and the pick at which it came (R336). -/
  lack : Nat := 0
  heard : Nat := 0
  /-- Data slots sent and not acknowledged. -/
  kept : List TxSlot := []
  /-- Data slots to send at their pick: on the flow's own slots, and in STANDBY slots. -/
  due : List (Nat × TxSlot) := []
  standby : List (Nat × TxSlot) := []
  /-- Flow records that wait for a C2 cell, link-management messages that wait for a C3 cell. -/
  recs : List FlowRec := []
  msgs : List LinkMsg := []
  /-- The announcement for the slot with index 0 (R46, R313): key, hops, sequence number. -/
  announce : Option (Nat × Nat × Nat) := none
  /-- The delay exchange (R50, R313, R314): the pick at which the partner's last request arrived and that at which it was
  answered; when the last own request left, and t1 and t4 to send, in FRAC units; slots sent since the counter was held and
  since a request arrived in a hold. -/
  reqAt : Option Nat := none
  ansAt : Option Nat := none
  askedAt : Option Int := none
  stamps : Option (Int × Int) := none
  heldSlots : Nat := 0
  heldReq : Nat := 0
  /-- The partner has answered a delay request since the last announce cell came: it has chosen this port (R48). -/
  served : Bool := false
  /-- Sheds in which slots failed their tag (R336). -/
  badTags : List Nat := []
  /-- By logical lane, in the present shed: uncorrectable codewords and corrected symbols; and the consecutive sheds over
  LANE_BER_LIMIT before it (R312). -/
  laneUe : SMap Nat := []
  laneSyms : SMap Nat := []
  laneOver : SMap Nat := []
  /-- Slots of the present shed that came late or not at all, all of them and by flow (R336, R344). -/
  missed : Nat := 0
  missFlow : SMap Nat := []
  /-- The partner's bolt hash as it came (R321), and whether the check of R321 is pending. -/
  partnerHash : Option (BitVec 256) := none
  pendingCheck : Bool := false
  /-- Checks 2 and 3 of R321 have passed with the active schedule; the port is in MISMATCH for a bolt hash (R321, R322). -/
  checked : Bool := false
  hashMis : Bool := false
  /-- The port has passed R321 and enters service at the next shed boundary: the shed of the pass. -/
  passed : Option Nat := none
  /-- A lane switch agreed: logical lane and shed (R312). -/
  laneSwitch : Option (Nat × Nat) := none
  /-- The shed of the last rekey. -/
  keyShed : Nat := 0
  /-- The equalisation from which the port's lanes train (R426). -/
  eq : List Nat := []
  /-- The pick at which training began (R336); the pick of the last slot sent, with what was left of a hold; the pick at which
  the port last left service; and the pick and the wait in seconds of its next training or authentication (R336, R337). -/
  trainAt : Nat := 0
  sent : Option (Nat × Option Nat) := none
  leftAt : Nat := 0
  retryAt : Nat := 0
  backoff : Nat := 0
  /-- Eligible slots since the last injection, and the data slots held back by REORDER, each with whether its exchange partner had
  already gone in its place (R342). -/
  injSeen : Nat := 0
  injHeld : List (TxSlot × Bool) := []
  deriving DecidableEq, Repr

/-- A credit held at a source (R325): catcher, LEN, pick of arrival. -/
structure Credit where
  cidx : Nat
  len : Nat
  arrived : Nat
  deriving DecidableEq, Repr

/-- A throw of the checkpoint engine (R384, R385): of a SEND or of a drain, of a granule or of the closing record; its bytes; the
catchers that have not sent DELIVERED; and DEADLINE. -/
structure EngineThrow where
  send : Bool
  closing : Bool
  data : SMap Byte
  need : List Nat
  deadline : Nat
  deriving DecidableEq, Repr

/-- A throw that its source is sending (R326): the command's identity, or what stands for it in a throw of the checkpoint engine,
which has no command; throw number, first slot sequence number, slots, LEN, the entry its bytes are read through; by port the
pick from which its slots count; the flow slots that an earlier throw holds there (port and pick), the pick of its last slot,
NOMINAL and CDL. -/
structure ThrowRun where
  cmd : Nat
  tseq : Nat
  seq0 : Nat
  n : Nat
  len : Nat
  w0 : W64
  from_ : SMap Nat
  skip : List (Nat × Nat) := []
  pLast : Nat
  nominal : Nat
  cdl : Nat
  engine : Option EngineThrow := none
  deriving DecidableEq, Repr

/-- A throw that the checkpoint engine is catching (R385): its number, LEN, CDL, and the bytes that have come. -/
structure EngineCatch where
  tseq : Nat
  len : Nat
  cdl : Nat
  got : Nat := 0
  data : SMap Byte := []
  deriving DecidableEq, Repr

/-- A flow at its source and at its catcher. -/
structure FlowSt where
  credits : List Credit := []
  seq : Nat := 0
  tseq : Nat := 0
  /-- By out port, the first pick that no throw of the flow holds (R326). -/
  free : SMap Nat := []
  throws : List ThrowRun := []
  /-- The next SEQ a catcher expects, the slots delivered so far, and slots held ahead (R328). -/
  expect : Nat := 0
  delivered : Nat := 0
  ahead : List TxSlot := []
  /-- CATCHes whose credit no throw has met yet, in order, none where a FAILED has taken the place of its throw; the throw
  number that the first of them meets; and the CATCH that the present throw is written into (R328, R329). -/
  posted : List (Option Nat) := []
  headTseq : Nat := 0
  cur : Option Nat := none
  /-- A slot of the throw being caught came with DETOUR. -/
  detoured : Bool := false
  /-- The LEN of the credit that the checkpoint engine has posted and no throw has met, and the throw it is catching (R384, R385). -/
  lent : Option Nat := none
  eng : Option EngineCatch := none
  deriving DecidableEq, Repr

/-- The part that a loom of this device hands to a collective over looms (R332 to R334): loom, flow, DEADLINE, the part, its header's
digest, and the looms whose own command has met it. -/
structure LocalPart where
  loom : Nat
  flow : Nat
  deadline : Nat
  part : CollPart
  digest : Nat
  /-- START of its header, and the looms that its MLIST names. -/
  start : Nat
  members : List Nat
  met : List Nat := []
  deriving DecidableEq, Repr

/-- The fabric's memory beside its registers. -/
structure WvnSt where
  schedules : List Schedule := []
  active : Option Schedule := none
  ports : SMap PortSt := []
  flows : SMap FlowSt := []
  anchors : List (BitVec 512) := []
  /-- The shed from which data slots run, after a resynchronisation (R58). -/
  dataFrom : Nat := 0
  trainTimeout : Nat := 0
  laneBerLimit : Nat := 0
  injAllow : Bool := false
  /-- Parts of collectives over looms of this device (R332, R333), in order of arrival. -/
  local_ : List LocalPart := []
  deriving DecidableEq, Repr

/-! ### Outputs -/

/-- A slot as a port sends it (R311, R313 to R316, R340): header, payload, C1, LACK and flow records, the tag, the hash word of
slot index 0, link-management messages, and the bytes that each physical lane carries. -/
structure WireSlot where
  hdr : SlotHdr
  payload : List Byte
  time : TimeCell
  lack : W64
  recs : List FlowRec
  tag : BitVec 128
  hash : Option W64
  msgs : List LinkMsg
  lanes : List (Nat × List Byte)
  deriving DecidableEq, Repr

/-- Where a queue pair's packets go (R349): its port, the QPN, GID and MAC address of its partner, the priority and DSCP, and the VLAN
identifier of the tag, when one is sent. -/
structure PeerAddr where
  port : Nat
  qpn : BitVec 24
  gid : BitVec 128
  mac : BitVec 48
  prio : BitVec 3
  dscp : BitVec 6
  vid : Option (BitVec 12)
  deriving DecidableEq, Repr

/-- What a queue pair sends (R347, R350 to R352, R358). -/
inductive RoceMsg where
  | ack (qp psn : Nat)
  | nak (qp psn code : Nat)
  | readResponse (qp psn : Nat) (bytes : List Byte)
  | rdmaWrite (qp psn va rkey : Nat) (bytes : List Byte)
  | resend (qp psn : Nat)
  | cnp (qp : Nat)
  deriving DecidableEq, Repr

/-- What the device sends on its pins and links, in the order it sends it (log entry 18). -/
inductive OutMsg where
  | granule (flow index : Nat) (bytes : List Byte)
  | slot (port : Nat) (w : WireSlot)
  | handshake (port step : Nat) (bytes : List Byte)
  | ppsOut
  | roce (peer : PeerAddr) (m : RoceMsg)
  | neighbour (port : Nat)
  | reply (ep : Endpoint) (code : Nat) (data : List Byte)
  | event (ep : Endpoint) (cls : Nat) (data : List Byte)
  /-- A UDP datagram of the sideband port: source MAC, IP address and port, and its payload (R454). -/
  | datagram (mac : BitVec 48) (ip : BitVec 128) (port : Nat) (payload : List Byte)
  /-- An MCTP packet that the I3C port holds for the controller (R453). -/
  | i3cPacket (packet : List Byte)
  /-- The in-band interrupt of the I3C port, and the provisional ID it shows under ENTDAA (R453). -/
  | inBand
  | provisionalId (id : BitVec 48)
  deriving DecidableEq, Repr

/-! ### Host ports (R345 to R365) -/

/-- What a requester message of a queue pair carries (R360, R361, R384). -/
inductive OutKind where
  | mirror (entry : Nat) | granule (g : Nat) | closing
  /-- A message of a drain that has ended. -/
  | past
  deriving DecidableEq, Repr

/-- A requester message not yet acknowledged: its oldest unacknowledged and its last PSN, the pick of its last sending and the tries made again. -/
structure OutReq where
  first : Nat
  last : Nat
  kind : OutKind
  sentAt : Nat := 0
  tries : Nat := 0
  deriving DecidableEq, Repr

/-- A queue pair (R348 to R352): its context words, the next send and expected PSN, whether the NAK of the present gap
has been sent, its unacknowledged messages, the WRITE being received, the last CNP, and its rate. -/
structure QpSt where
  ctx : List W64 := List.replicate 8 0
  spsn : Nat := 0
  epsn : Nat := 0
  gapNaked : Bool := false
  out : List OutReq := []
  /-- Next address, key and bytes left of a WRITE of several packets. -/
  cur : Option (Nat × Nat × Nat) := none
  /-- The bytes of a control-window word that the packets so far leave incomplete (R355). -/
  carry : List Byte := []
  cnpAt : Option Nat := none
  rate : Nat := 0
  deriving DecidableEq, Repr

/-- A memory region (R353). -/
structure Region where
  base : Nat
  len : Nat
  key : Nat
  read : Bool
  write : Bool
  deriving DecidableEq, Repr

/-- A message that priority flow control holds back: its queue pair, port and priority, and its packets (R346). -/
structure HeldMsg where
  qp : Nat
  port : Nat
  prio : Nat
  pkts : Nat
  msg : OutMsg
  deriving DecidableEq, Repr

/-- The host ports' memory beside their registers. -/
structure HostSt where
  qps : SMap QpSt := []
  regions : SMap (Option Region) := []
  /-- The next record of each MIRROR entry. -/
  mirNext : SMap Nat := []
  /-- Granules of the drain acknowledged. -/
  acked : SMap Bool := []
  /-- The rate-reduction parameters of R351. -/
  rateParam : Nat := 0
  /-- The ports accept RoCE traffic (R357). -/
  live : Bool := false
  /-- The pick until which priority flow control pauses a priority, by 8 * port + priority, and what waits for it, in order (R346). -/
  pausedTo : SMap Nat := []
  paused : List HeldMsg := []
  deriving DecidableEq, Repr

/-! ### Power, bring-up and configuration memory (R410 to R449, R487 to R501) -/

/-- A power command that runs (R436): KIND, STATE, its targets not yet done, and the word written to PWR_CMD. -/
structure PwrRun where
  kind : Nat
  state : Nat
  todo : List Nat
  word : Nat := 0
  deriving DecidableEq, Repr

/-- The memory of the power controllers. -/
structure PwrSt where
  run : Option PwrRun := none
  /-- The cap ceiling in MHz, consecutive sheds below 97% of the cap, and at 800 MHz above it (R443). -/
  capMhz : Nat := 1600
  below : Nat := 0
  stuck : Nat := 0
  /-- Whether detail 1, detail 2 of POWER_CAP has been raised for the present fall. -/
  said : Bool := false
  saidStuck : Bool := false
  /-- Thermal ceilings by die, and sheds since the last rise (R447). -/
  thermMhz : SMap Nat := []
  cool : SMap Nat := []
  /-- Looms whose DROOP_EXCESS of the present shed has been raised (R445). -/
  excessShed : SMap Nat := []
  /-- The sheds whose boundary the cap controller and the thermal limits have acted on (R443, R447). -/
  capAt : Option Nat := none
  thermAt : Option Nat := none
  servicePark : Bool := false
  /-- Banks closed to new accesses, and the first command identity that issued after each closed (R268). -/
  closed : List Nat := []
  closedAt : SMap Nat := []
  deriving DecidableEq, Repr

/-- A fuse field in two copies, each with whether its CRC passes (R416). -/
structure FuseField where
  a : Nat
  aOk : Bool
  b : Nat
  bOk : Bool
  deriving DecidableEq, Repr

/-- The fuses (R416). -/
structure Fuses where
  rev : FuseField
  grade : FuseField
  roles : FuseField
  uid : FuseField
  seed : FuseField
  trim : FuseField
  repair : FuseField
  svnMin : Nat
  svnMinB : Nat
  revoke : Nat
  revokeB : Nat
  owner : FuseField
  deriving DecidableEq, Repr

/-- Bring-up's memory: rails and pins, where it stopped, and what VERIFY and CONFIG recorded. -/
structure BootSt where
  pwrGood : Bool := true
  railsOk : Bool := true
  /-- The device is not in OFF. -/
  on : Bool := true
  /-- The phase that DEV_STATE shows is running; a stopped phase waits for its remedy. -/
  running : Bool := true
  recovery : Bool := false
  /-- CONFIG has ended, and the values it loaded. -/
  configEnded : Bool := false
  cfg : Option ConfigData := none
  trainDone : Bool := false
  hold : Bool := false
  soakSkip : Bool := false
  svn : Nat := 0
  keyIdx : Nat := 0
  fwDigest : Nat := 0
  /-- The digest of Grembedun's part of the image (R450), and the identity key pair, public and private (R469). -/
  sramDigest : Nat := 0
  identity : Option (List Byte × List Byte) := none
  cfgDigest : Nat := 0
  ownerPk : Nat := 0
  swatchKeys : List (BitVec 512) := []
  spareThreshold : Nat := 1024
  /-- The trims in force (R417, R426, R427): the two droop thresholds of each loom, how far above them in mV the detectors fire, and
  the equalisation from which each port's lanes train. -/
  droop : List (Nat × Nat) := []
  droopGuard : Nat := 0
  laneEq : List (List Nat) := []
  /-- HBM_REPAIR as TRAIN has applied it, and the digest of the firmware from which it has loaded the treadle cores (R425). -/
  repair : Option Nat := none
  treadle : Option Nat := none
  /-- The sensors whose trip has been taken and that have not cooled below TRIP since (R447). -/
  thermTrip : List Nat := []
  /-- THERMTRIP_N is asserted; it stays so until PWR_GOOD falls (R499). -/
  thermTripN : Bool := false
  deriving DecidableEq, Repr

/-! ### Management (R450 to R475) -/

/-- An event log entry that is not yet in flash (R465). -/
structure LogEntry where
  pick : Nat
  code : Nat
  sev : Nat
  data : List Byte
  deriving DecidableEq, Repr

/-- A staged transfer (R460). -/
structure Xfer where
  kind : XferKind
  len : Nat
  handle : Nat
  /-- The pick of its last data (R460). -/
  at_ : Nat := 0
  bytes : SMap Byte := []
  deriving DecidableEq, Repr

/-- An attestation request: its handle, nonce, and its report once formed and signed (R472, R473). -/
structure Attest where
  handle : Nat
  nonce : Nat
  report : Option (List Byte) := none
  deriving DecidableEq, Repr

/-- The update session (R462): its endpoint, the component being written, the header bytes seen, bytes programmed,
whether the region is erased, and whether VerifyComplete succeeded. -/
structure Update where
  ep : Endpoint
  component : Option Nat := none
  head : List Byte := []
  got : Nat := 0
  erased : Bool := false
  failed : Bool := false
  verified : Bool := false
  deriving DecidableEq, Repr

/-- Grembedun's memory. -/
structure MgmtSt where
  i3cAddr : Option Nat := none
  eids : SMap Nat := []
  receiver : Option (Endpoint × Nat) := none
  xfer : Option Xfer := none
  nextHandle : Nat := 1
  attests : List Attest := []
  update : Option Update := none
  /-- Regions that the update path has left invalid, by component (R463). -/
  badRegion : List Nat := []
  /-- The copy of Grembedun's part of the firmware in the SRAM of HD0, at most 2 MiB (R450). -/
  sram : List Byte := []
  /-- The firmware region has been written since VERIFY (R451). -/
  fwWritten : Bool := false
  /-- The event log: entries not yet in flash, entries lost, the newest SEQ and CHAIN in flash. -/
  logBuf : List LogEntry := []
  logLost : Nat := 0
  logSeq : Option Nat := none
  logChain : List Byte := []
  /-- Picks of lockstep mismatches, and whether the cores are held in reset (R451). -/
  mismatches : List Nat := []
  heldReset : Bool := false
  /-- The certificate chain whose newest complete copy is in the log and the SEQ at which that copy begins; the chain in use
  since the last LINK phase; and a copy being written: the chain, and its parts still to write (R471). -/
  chain : List Byte := []
  chainSeq : Option Nat := none
  linkChain : List Byte := []
  certNew : List Byte := []
  certSeq : Option Nat := none
  certQ : List (List Byte) := []
  deriving DecidableEq, Repr

/-! ### Counters and traces (R476 to R486) -/

/-- Counters' memory. -/
structure CntSt where
  /-- Counts by 8 * slot + counter. -/
  vals : SMap Nat := []
  /-- Configuration words that take effect at the next boundary, and counters to zero there. -/
  pend : SMap (Option W64) := []
  zero : List Nat := []
  zeroAll : Bool := false
  /-- Shed boundaries since RUN was last set, and boundaries abandoned since the last entry. -/
  seq : Nat := 0
  skipped : Nat := 0
  /-- A latched snapshot not yet written: its SEQ, the shed of its boundary, and its words. -/
  latched : Option (Nat × Nat × List Nat) := none
  /-- The last shed boundary taken. -/
  lastShed : Option Nat := none
  /-- Trace records buffered on each compute die, and dies whose next record has GAP. -/
  traces : SMap (List TraceRec) := []
  gaps : List Nat := []
  traceSeq : Nat := 0
  /-- Whether SNAP_BASE and TR_BASE have been written since reset: until then each is undefined (R15). -/
  snapSet : Bool := false
  traceSet : Bool := false
  deriving DecidableEq, Repr

/-- The machine. -/
structure State where
  pending : List Instr := []
  /-- Registers by control-window offset; an unlisted one holds its Reset column (R15). -/
  regs : SMap W64 := []
  /-- Device memory, one canonical list of bytes (R26); an unlisted byte reads as 0. -/
  mem : List Host.Cell := []
  /-- Instruction memory: 64-bit words by 32768 * loom + word (R224). -/
  imem : SMap W64 := []
  /-- 8-byte words that fail every read until a write covers them (R262), by address. -/
  badWords : SMap Bool := []
  /-- Corrected reads of each 64-byte HBM row since its repair; 8 or more make it due (R264). -/
  rowErrs : SMap Nat := []
  /-- Errors of each HBM channel, by 32 * stack + channel: corrected, uncorrectable, and whether SPARE_EXHAUSTED has been raised
  for it (R265). -/
  chanErrs : SMap (Nat × Nat × Bool) := []
  /-- The channel of each HBM stack that is being copied into the stack's reserve (R265). -/
  sparing : SMap (Option Nat) := []
  /-- The end of the retraining window in which a compute die has last retrained a stack (R263). -/
  trainedTo : SMap Nat := []
  time : TimeSt := {}
  /-- Streams by 16 * loom + stream. -/
  streams : SMap StreamSt := []
  /-- The stream resident on each context and the shed since which it is, by CTX slot (R234). -/
  resident : SMap (Option (Nat × Nat)) := []
  cmds : List Cmd := []
  nextId : Nat := 0
  /-- The descriptor store: sixteen words for each index (R216, R217). -/
  descs : SMap (List W64) := []
  /-- Descriptor commits waiting to install, by CTX slot, in arrival order (R219). -/
  descWait : List (Nat × Nat × List W64) := []
  /-- The table change of each die waiting to complete: entry and the new words (R256). -/
  htWait : SMap (Option (Nat × W64 × W64)) := []
  /-- Fulling programs (R292, R308): instruction words of a valid program. -/
  fprogs : SMap (Option (List W32)) := []
  /-- The program change waiting: program number and its words, none to invalidate. -/
  fpWait : Option (Nat × Option (List W32)) := none
  fullEng : SMap FullEng := []
  looms : SMap LoomSt := []
  faults : FaultSt := {}
  res : ResSt := {}
  wvn : WvnSt := {}
  host : HostSt := {}
  pwr : PwrSt := {}
  boot : BootSt := {}
  fuses : Fuses
  /-- The configuration memory (R414); an erased byte reads 0xFF (log entry 6). -/
  flash : SMap Byte := []
  mgmt : MgmtSt := {}
  cnt : CntSt := {}
  outbox : List OutMsg := []
  /-- The commands being issued and the streams shown are a swatch program's (R399); false between commands. -/
  swMode : Bool := false
  /-- The model's own counter for free values (log entry 1). -/
  freeCtr : Nat := 0
  deriving DecidableEq, Repr

/-- A fuse field whose two copies are whole. -/
def FuseField.whole (v : Nat) : FuseField := { a := v, aOk := true, b := v, bOk := true }

/-- The fuses of a tested BDY-9640 that no owner has burned (R416, R424; log entry 5): physical looms 0 to 19 of each die
ACTIVE, 20 and 21 SPARE (R20); OWNER_HASH zero. -/
def Fuses.tested : Fuses :=
  { rev := .whole 1, grade := .whole 0
    roles := .whole ((List.range 4).foldl (fun n d => n + (2 ^ 40 + 2 ^ 42) * 2 ^ (44 * d)) 0)
    uid := .whole 1, seed := .whole 1, trim := .whole 0, repair := .whole 0
    svnMin := 0, svnMinB := 0, revoke := 0, revokeB := 0, owner := .whole 0 }

/-- The device right after reset: power-good has risen, the rails are in range, and FUSE runs (R410, R491); every
register holds its Reset column (R15), memory lists nothing, and no command waits. -/
def State.reset : State := { fuses := Fuses.tested }

end Sys2Proof.Machine
end

