-- ==== Sys2Proof/Machine/Slots.lean ====
section
/-! DEFINITION. Slot words and bundle headers: their layouts (R207, R214), which words fail decode (R208, R213), and the
word that a command has. -/
namespace Sys2Proof.Machine

/-! ### Slot words (R214) -/

/-- The OP of a vector family (R188). -/
def vopCode : VOp → BitVec 4
  | .vbin => 0
  | .vun => 1
  | .vred => 2
  | .smstep | .smnorm | .smrecomp => 3
  | .vint => 4
  | .dropout => 5
  | .causal => 6
  | .convert => 7

/-- The slot that a slot command stands in (R214). -/
def slotOf : SlotCmd → Nat
  | .mload _ | .mstream _ | .mpair _ | .mdrain _ => 0
  | .vec _ f => if f.slotB then 2 else 1
  | .move _ _ | .fill _ _ | .copy _ _ | .xpose _ | .throwTo _ _ _ | .catchAt _ _ _ => 3
  | .cset _ _ | .cadd _ | .cmp _ | .loop _ _ _ | .endloop | .skipif _ _ _ | .run _ _ _ => 4
  | .waitsem _ _ | .signal _ _ _ _ | .waitpick _ | .fence _ => 5
  | .statcfg _ _ _ | .statread _ | .qgrad _ => 6
  | .full _ | .ckptCut _ | .ckptVote _ | .swatch _ _ => 7

/-- A Boolean as one bit. -/
def bit1 (b : Bool) : BitVec 1 := BitVec.ofBool b

/-- The slot word of a command (R214), its fields from the highest bit down. -/
def slotWord : SlotCmd → W64
  | .mload f => 0#23 ++ bit1 f.bc ++ f.cm1 ++ f.nt ++ f.kt ++ f.wndim ++ f.wkdim ++ f.w ++ 1#4
  | .mstream f => bit1 f.sat ++ f.epi ++ f.accm ++ f.mrows ++ f.m0 ++ f.dmdim ++ f.dndim ++ f.amdim ++ f.akdim ++ f.d ++ f.a ++ 2#4
  | .mpair claim => 0#58 ++ claim ++ 3#4
  | .mdrain f => 0#27 ++ bit1 f.sat ++ f.epi ++ f.mode ++ f.m0 ++ f.dmdim ++ f.dndim ++ f.d ++ 4#4
  | .vec op f => f.x ++ f.b ++ f.a ++ f.d ++ f.fn ++ vopCode op
  | .move dst src => 0#28 ++ src ++ dst ++ 1#4
  | .fill dst val => 0#12 ++ val ++ dst ++ 2#4
  | .copy dst src => 0#28 ++ src ++ dst ++ 3#4
  | .xpose f => 0#13 ++ f.sid ++ bit1 f.rb ++ f.db ++ f.da ++ f.src ++ f.dst ++ 4#4
  | .throwTo src fc len => len ++ fc ++ src ++ 5#4
  | .catchAt dst fc len => len ++ fc ++ dst ++ 6#4
  | .cset cd imm => 0#24 ++ imm ++ cd ++ 1#4
  | .cadd f => 0#15 ++ f.imm ++ bit1 f.usect ++ f.ct ++ f.cs ++ f.cd ++ 2#4
  | .cmp f => 0#12 ++ f.rel ++ f.imm ++ bit1 f.usect ++ f.ct ++ f.cs ++ 0#1 ++ f.kd ++ 3#4
  | .loop cnt idx idxen => 0#51 ++ bit1 idxen ++ idx ++ cnt ++ 4#4
  | .endloop => 0#60 ++ 5#4
  | .skipif k sense n => 0#48 ++ n ++ bit1 sense ++ k ++ 6#4
  | .run page word pgen => 0#37 ++ pgen ++ word ++ page ++ 7#4
  | .waitsem sem n => 0#22 ++ n ++ sem ++ 1#4
  | .signal sem loom stream add => 0#11 ++ add ++ stream ++ loom ++ sem ++ 2#4
  | .waitpick (.imm target) => target ++ 0#4 ++ 3#4
  | .waitpick (.ctrs ch cl) => 0#48 ++ cl ++ ch ++ 1#4 ++ 3#4
  | .fence crec => 0#59 ++ bit1 crec ++ 4#4
  | .statcfg sth sgh clear => 0#27 ++ bit1 clear ++ sgh ++ sth ++ 1#4
  | .statread f => 0#23 ++ bit1 f.clr ++ f.cdim ++ f.ref ++ f.dst ++ bit1 f.mode ++ 2#4
  | .qgrad f => 0#9 ++ f.cdim ++ f.g ++ f.x ++ f.q ++ 3#4
  | .full f => 0#2 ++ f.pass ++ f.s ++ f.g ++ f.p ++ f.prog ++ 1#4
  | .ckptCut f => 0#34 ++ f.list ++ f.cl ++ f.ch ++ 0#2 ++ 2#4
  | .ckptVote f => 0#34 ++ f.list ++ f.cl ++ f.ch ++ 1#2 ++ 2#4
  | .swatch sw out => 0#28 ++ out ++ sw ++ 3#4

/-- A one-bit field. -/
def bitOf (w : W64) (i : Nat) : Bool := w.extractLsb' i 1 == 1#1

/-- The matrix command of a word, reserved bits aside. -/
def readMatrix (w : W64) : Option SlotCmd :=
  match w.extractLsb' 0 4 with
  | 1#4 => some (.mload { w := w.extractLsb' 4 16, wkdim := w.extractLsb' 20 3, wndim := w.extractLsb' 23 3,
                          kt := w.extractLsb' 26 4, nt := w.extractLsb' 30 4, cm1 := w.extractLsb' 34 6, bc := bitOf w 40 })
  | 2#4 => some (.mstream { a := w.extractLsb' 4 16, d := w.extractLsb' 20 16, akdim := w.extractLsb' 36 3,
                            amdim := w.extractLsb' 39 3, dndim := w.extractLsb' 42 3, dmdim := w.extractLsb' 45 3, m0 := w.extractLsb' 48 4,
                            mrows := w.extractLsb' 52 4, accm := w.extractLsb' 56 3, epi := w.extractLsb' 59 4, sat := bitOf w 63 })
  | 3#4 => some (.mpair (w.extractLsb' 4 2))
  | 4#4 => some (.mdrain { d := w.extractLsb' 4 16, dndim := w.extractLsb' 20 3, dmdim := w.extractLsb' 23 3,
                           m0 := w.extractLsb' 26 4, mode := w.extractLsb' 30 2, epi := w.extractLsb' 32 4, sat := bitOf w 36 })
  | _ => none

/-- The vector family of an OP and FN (R188). -/
def vecFamily (op : BitVec 4) (fn : BitVec 6) : Option VOp :=
  match op with
  | 0#4 => some .vbin
  | 1#4 => some .vun
  | 2#4 => some .vred
  | 3#4 => match fn with
    | 0#6 => some .smstep
    | 1#6 => some .smnorm
    | 2#6 => some .smrecomp
    | _ => none
  | 4#4 => some .vint
  | 5#4 => some .dropout
  | 6#4 => some .causal
  | 7#4 => some .convert
  | _ => none

/-- The vector command of a word. -/
def readVector (slotB : Bool) (w : W64) : Option SlotCmd :=
  (vecFamily (w.extractLsb' 0 4) (w.extractLsb' 4 6)).map fun op =>
    .vec op { slotB := slotB, fn := w.extractLsb' 4 6, d := w.extractLsb' 10 16, a := w.extractLsb' 26 16,
              b := w.extractLsb' 42 16, x := w.extractLsb' 58 6 }

/-- The mover command of a word. -/
def readMover (w : W64) : Option SlotCmd :=
  match w.extractLsb' 0 4 with
  | 1#4 => some (.move (w.extractLsb' 4 16) (w.extractLsb' 20 16))
  | 2#4 => some (.fill (w.extractLsb' 4 16) (w.extractLsb' 20 32))
  | 3#4 => some (.copy (w.extractLsb' 4 16) (w.extractLsb' 20 16))
  | 4#4 => some (.xpose { dst := w.extractLsb' 4 16, src := w.extractLsb' 20 16, da := w.extractLsb' 36 3,
                          db := w.extractLsb' 39 3, rb := bitOf w 42, sid := w.extractLsb' 43 8 })
  | 5#4 => some (.throwTo (w.extractLsb' 4 16) (w.extractLsb' 20 4) (w.extractLsb' 24 40))
  | 6#4 => some (.catchAt (w.extractLsb' 4 16) (w.extractLsb' 20 4) (w.extractLsb' 24 40))
  | _ => none

/-- The scalar command of a word. -/
def readScalar (w : W64) : Option SlotCmd :=
  match w.extractLsb' 0 4 with
  | 1#4 => some (.cset (w.extractLsb' 4 4) (w.extractLsb' 8 32))
  | 2#4 => some (.cadd { cd := w.extractLsb' 4 4, cs := w.extractLsb' 8 4, ct := w.extractLsb' 12 4, usect := bitOf w 16,
                         imm := w.extractLsb' 17 32 })
  | 3#4 => some (.cmp { kd := w.extractLsb' 4 3, cs := w.extractLsb' 8 4, ct := w.extractLsb' 12 4, usect := bitOf w 16,
                        imm := w.extractLsb' 17 32, rel := w.extractLsb' 49 3 })
  | 4#4 => some (.loop (w.extractLsb' 4 4) (w.extractLsb' 8 4) (bitOf w 12))
  | 5#4 => some .endloop
  | 6#4 => some (.skipif (w.extractLsb' 4 3) (bitOf w 7) (w.extractLsb' 8 8))
  | 7#4 => some (.run (w.extractLsb' 4 6) (w.extractLsb' 10 9) (w.extractLsb' 19 8))
  | _ => none

/-- The sync command of a word. -/
def readSync (w : W64) : Option SlotCmd :=
  match w.extractLsb' 0 4 with
  | 1#4 => some (.waitsem (w.extractLsb' 4 6) (w.extractLsb' 10 32))
  | 2#4 => some (.signal (w.extractLsb' 4 6) (w.extractLsb' 10 7) (w.extractLsb' 17 4) (w.extractLsb' 21 32))
  | 3#4 => if bitOf w 4 then some (.waitpick (.ctrs (w.extractLsb' 8 4) (w.extractLsb' 12 4)))
      else some (.waitpick (.imm (w.extractLsb' 8 56)))
  | 4#4 => some (.fence (bitOf w 4))
  | _ => none

/-- The statistics command of a word. -/
def readStatistics (w : W64) : Option SlotCmd :=
  match w.extractLsb' 0 4 with
  | 1#4 => some (.statcfg (w.extractLsb' 4 16) (w.extractLsb' 20 16) (bitOf w 36))
  | 2#4 => some (.statread { mode := bitOf w 4, dst := w.extractLsb' 5 16, ref := w.extractLsb' 21 16,
                             cdim := w.extractLsb' 37 3, clr := bitOf w 40 })
  | 3#4 => some (.qgrad { q := w.extractLsb' 4 16, x := w.extractLsb' 20 16, g := w.extractLsb' 36 16, cdim := w.extractLsb' 52 3 })
  | _ => none

/-- The extension command of a word. -/
def readExtension (w : W64) : Option SlotCmd :=
  match w.extractLsb' 0 4 with
  | 1#4 => some (.full { prog := w.extractLsb' 4 8, p := w.extractLsb' 12 16, g := w.extractLsb' 28 16, s := w.extractLsb' 44 16,
                         pass := w.extractLsb' 60 2 })
  | 2#4 =>
    let f : CkptF := { ch := w.extractLsb' 6 4, cl := w.extractLsb' 10 4, list := w.extractLsb' 14 16 }
    match w.extractLsb' 4 2 with
    | 0#2 => some (.ckptCut f)
    | 1#2 => some (.ckptVote f)
    | _ => none
  | 3#4 => some (.swatch (w.extractLsb' 4 16) (w.extractLsb' 20 16))
  | _ => none

/-- The command of a word in a slot, reserved bits aside. -/
def readSlot (slot : Nat) (w : W64) : Option SlotCmd :=
  match slot with
  | 0 => readMatrix w
  | 1 => readVector false w
  | 2 => readVector true w
  | 3 => readMover w
  | 4 => readScalar w
  | 5 => readSync w
  | 6 => readStatistics w
  | 7 => readExtension w
  | _ => none

/-- A dimension field that holds 6 or 7 (R213). -/
def badDim (d : BitVec 3) : Bool := decide (5 < d.toNat)

/-- How many functions a vector family lists (R188). -/
def vecFns : VOp → Nat
  | .vbin => 12
  | .vun => 17
  | .vred => 6
  | .vint => 10
  | _ => 1

/-- FN or X of a vector word is not one that R187 and R188 list. -/
def vecIllegal (op : VOp) (f : Vec) : Bool :=
  let x := f.x.toNat
  (match op with
    | .smstep => f.fn != 0
    | .smnorm => f.fn != 1
    | .smrecomp => f.fn != 2
    | _ => decide (vecFns op ≤ f.fn.toNat)) ||
  (match op with
    | .vint | .convert => decide (1 < x)
    | .vred => decide (5 < x)
    | .causal => decide (15 < x)
    | _ => x != 0)

/-- Whether a vector family's command reads operand B (R188). -/
def usesB (op : VOp) (fn : Nat) : Bool :=
  match op with
  | .vbin | .vint | .smstep | .smnorm | .smrecomp => true
  | .vred => fn == 4
  | _ => false

/-- A field that a form of a command does not use and that is not zero (R213): CT or IMM, as USECT says, IDX without IDXEN, SID
without RB, LIST of a VOTE; D, M0, EPI and SAT of DISCARD, EPI and SAT of TOTAL64, B of a vector command that takes none, REF and CDIM of
a STATREAD WATCH. DEDUCED (log entry 56): every field of MSTREAM counts as used whatever its ACCM, since the worked bundle of spec/08
decodes a FIRST with a D and an EPI; DNDIM and DMDIM count as used everywhere, since R213 wants them to differ. -/
def unusedSet : SlotCmd → Bool
  | .mdrain f => f.mode == 2 && (f.d != 0 || f.m0 != 0) || (f.mode == 1 || f.mode == 2) && (f.epi != 0 || f.sat)
  | .vec op f => !usesB op f.fn.toNat && f.b != 0
  | .cadd f => if f.usect then f.imm != 0 else f.ct != 0
  | .cmp f => if f.usect then f.imm != 0 else f.ct != 0
  | .loop _ idx idxen => !idxen && idx != 0
  | .xpose f => !f.rb && f.sid != 0
  | .statread f => !f.mode && (f.ref != 0 || f.cdim != 0)
  | .ckptVote f => f.list != 0
  | _ => false

/-- A field that holds a reserved value, or a combination of fields that R213 excludes. -/
def slotReserved : SlotCmd → Bool
  | .mload f => badDim f.wkdim || badDim f.wndim || f.wkdim == f.wndim
  | .mstream f => badDim f.akdim || badDim f.amdim || f.akdim == f.amdim || badDim f.dndim || badDim f.dmdim ||
      f.dndim == f.dmdim || decide (4 < f.accm.toNat)
  | .mdrain f => badDim f.dndim || badDim f.dmdim || f.dndim == f.dmdim || f.mode == 3
  | .vec op f => vecIllegal op f
  | .xpose f => badDim f.da || badDim f.db || f.da == f.db
  | .cmp f => decide (5 < f.rel.toNat)
  | .statread f => badDim f.cdim
  | .qgrad f => badDim f.cdim
  | .full f => decide (63 < f.prog.toNat) || f.pass == 3
  | .swatch sw _ => decide (255 < sw.toNat)
  | _ => false

/-- Whether a command's fields fail decode (R213). -/
def slotIllegal (c : SlotCmd) : Bool := unusedSet c || slotReserved c

/-- A slot word decoded (R213): nothing where its OP is not listed, a reserved bit is set, or a field is reserved. -/
def decodeSlot (slot : Nat) (w : W64) : Option SlotCmd :=
  match readSlot slot w with
  | some c => if slotWord c == w && !slotIllegal c then some c else none
  | none => none

/-! ### Bundle headers (R207, R208) -/

/-- The bits set in a mask of `n` bits. -/
def popCount : Nat → Nat → Nat
  | 0, _ => 0
  | n + 1, m => m % 2 + popCount n (m / 2)

/-- LCHK of a mask (R208). -/
def lchk (mask : Nat) : Nat := popCount 8 mask * 16 + (mask % 16 ^^^ mask / 16 % 16 ^^^ 0xA)

/-- The header of a bundle with only a mask and a tag. -/
def bundleHeader (mask tag : Nat) : Nat := mask + tag * 2 ^ 8 + lchk mask * 2 ^ 56

/-- MASK of a header. -/
def hMask (h : Nat) : Nat := bitsOf h 7 0
/-- TAG of a header. -/
def hTag (h : Nat) : Tag := BitVec.ofNat 24 (bitsOf h 31 8)
/-- LE of a header. -/
def hLe (h : Nat) : Bool := bitAt h 32
/-- PB of a header. -/
def hPb (h : Nat) : Bool := bitAt h 33
/-- TR of a header. -/
def hTr (h : Nat) : Bool := bitAt h 34
/-- WAIT of a header. -/
def hWait (h : Nat) : Nat := bitsOf h 47 40
/-- SIGNAL of a header. -/
def hSignal (h : Nat) : Nat := bitsOf h 55 48
/-- Whether LCHK and the reserved bits of a header hold (R207, R208). -/
def headerOk (h : Nat) : Bool := bitsOf h 63 56 == lchk (hMask h) && bitsOf h 39 35 == 0
/-- Words of the bundle that a header starts (R207). -/
def bundleLen (h : Nat) : Nat := 1 + popCount 8 (hMask h)

/-- The slots that a header's mask names, in increasing order. -/
def maskSlots (h : Nat) : List Nat := (List.range 8).filter fun i => bitAt (hMask h) i

end Sys2Proof.Machine
end

