-- ==== Sys2Proof/Machine/Hash.lean ====
section
/-! DEFINITION. The counter-based generator (R165, R166) and SHAKE256 (the digest function of the digest, swatch and
attestation rules). Words are natural numbers below their width. -/
namespace Sys2Proof.Machine

/-- One round of Philox4x32 (R165). -/
def philoxRound (c : Nat × Nat × Nat × Nat) (k0 k1 : Nat) : Nat × Nat × Nat × Nat :=
  let p0 := 0xD2511F53 * c.1
  let p1 := 0xCD9E8D57 * c.2.2.1
  ((p1 >>> 32) ^^^ c.2.1 ^^^ k0, p1 % 2 ^ 32, (p0 >>> 32) ^^^ c.2.2.2 ^^^ k1, p0 % 2 ^ 32)

/-- `n` rounds with the key schedule between them (R165). -/
def philoxRounds : Nat → Nat × Nat × Nat × Nat → Nat → Nat → Nat × Nat × Nat × Nat
  | 0, c, _, _ => c
  | n + 1, c, k0, k1 =>
    philoxRounds n (philoxRound c k0 k1) ((k0 + 0x9E3779B9) % 2 ^ 32) ((k1 + 0xBB67AE85) % 2 ^ 32)

/-- Philox4x32-10 (R165). -/
def philox (ctr : Nat × Nat × Nat × Nat) (k0 k1 : Nat) : Nat × Nat × Nat × Nat := philoxRounds 10 ctr k0 k1

/-- Output word `i` of four. -/
def word4 (w : Nat × Nat × Nat × Nat) (i : Nat) : Nat :=
  if i = 0 then w.1 else if i = 1 then w.2.1 else if i = 2 then w.2.2.1 else w.2.2.2

/-- The 16-bit random value of element `e` under a stream identifier, step number and job seed (R166). -/
def randomU (e stream step seed : Nat) : Nat :=
  let i := e / 8
  let out := philox (i % 2 ^ 32, (i >>> 32) % 2 ^ 32, step % 2 ^ 32, stream % 2 ^ 32) (seed % 2 ^ 32) ((seed >>> 32) % 2 ^ 32)
  (word4 out ((e % 8) / 2) >>> (16 * (e % 2))) % 2 ^ 16

/-- Rotation of a 64-bit word to the left. -/
def rotl64 (x n : Nat) : Nat := ((x <<< (n % 64)) ||| (x >>> (64 - n % 64))) % 2 ^ 64

/-- One step of the walk over the lanes that rho follows: from lane (x, y) to (y, 2x + 3y). -/
def rhoNext (lane : Nat) : Nat := lane / 5 + 5 * ((2 * (lane % 5) + 3 * (lane / 5)) % 5)

/-- The lanes that `n` steps of the walk visit from `lane` on, each with its rotation: the triangular numbers in turn. -/
def rhoWalk : Nat → Nat → Nat → SMap Nat → SMap Nat
  | 0, _, _, m => m
  | n + 1, t, lane, m => rhoWalk n (t + 1) (rhoNext lane) (smSet (fun _ => 0) m lane (t * (t + 1) / 2 % 64))

/-- The rotations of the rho step by lane x + 5y; lane 0 is not rotated. -/
def rhoTurns : SMap Nat := rhoWalk 24 1 1 []

/-- One shift of the register that iota's constants come from (x^8 + x^6 + x^5 + x^4 + 1). -/
def iotaShift (r : Nat) : Nat := (2 * r % 256) ^^^ (if 128 ≤ r then 0x71 else 0)

/-- The constant of one round, from the register's next seven bits, and the register after them. -/
def iotaWord (r : Nat) : Nat × Nat :=
  (List.range 7).foldl (fun a j =>
    let r := iotaShift a.2
    (if r / 2 % 2 = 1 then a.1 ^^^ 2 ^ (2 ^ j - 1) else a.1, r)) (0, r)

/-- The parity of column x of the lanes. -/
def columnParity (lane : Nat → Nat) (x : Nat) : Nat := (List.range 5).foldl (fun p y => p ^^^ lane (x % 5 + 5 * y)) 0

/-- Lane `i` after theta: each column takes the parity of the column before it and the turned parity of the one after. -/
def thetaLane (lane parity : Nat → Nat) (i : Nat) : Nat := lane i ^^^ parity ((i + 4) % 5) ^^^ rotl64 (parity ((i + 1) % 5)) 1

/-- Lane `i` after rho and pi: lane (x, y) comes from the turned lane (x + 3y, x). -/
def movedLane (lane : Nat → Nat) (i : Nat) : Nat :=
  let src := (i % 5 + 3 * (i / 5)) % 5 + 5 * (i % 5)
  rotl64 (lane src) (smGet (fun _ => 0) rhoTurns src)

/-- Lane `i` after chi: its row's next two lanes mask it. -/
def chiLane (lane : Nat → Nat) (i : Nat) : Nat :=
  let row := i - i % 5
  lane i ^^^ (lane (row + (i + 2) % 5) &&& (lane (row + (i + 1) % 5) ^^^ (2 ^ 64 - 1)))

/-- The lanes that a rule gives, tabulated. -/
def lanes25 (f : Nat → Nat) : List Nat := (List.range 25).map f
/-- Lane `i` of a tabulated array. -/
def laneOf (a : List Nat) (i : Nat) : Nat := a.getD i 0

/-- One round of the Keccak permutation on 25 lanes, with the round's constant. -/
def keccakRound (a : List Nat) (rc : Nat) : List Nat :=
  let p := (List.range 5).map (columnParity (laneOf a))
  let a := lanes25 (thetaLane (laneOf a) (laneOf p))
  let a := lanes25 (movedLane (laneOf a))
  lanes25 fun i => if i = 0 then chiLane (laneOf a) 0 ^^^ rc else chiLane (laneOf a) i

/-- `n` rounds, with the register that gives their constants. -/
def keccakRounds : Nat → Nat → List Nat → List Nat
  | 0, _, a => a
  | n + 1, r, a =>
    let c := iotaWord r
    keccakRounds n c.2 (keccakRound a c.1)

/-- The Keccak-f[1600] permutation: 24 rounds from register value 1. -/
def keccakF (a : List Nat) : List Nat := keccakRounds 24 1 a

/-- The 17 lanes of a 136-byte block. -/
def blockLanes (bs : List Byte) : List Nat := (List.range 17).map fun i => leValue ((bs.drop (8 * i)).take 8)

/-- One block absorbed into the state. -/
def absorbBlock (a : List Nat) (bs : List Byte) : List Nat :=
  let ls := blockLanes bs
  keccakF ((List.range 25).map fun i => a.getD i 0 ^^^ ls.getD i 0)

/-- Absorption of a whole padded message, `n` blocks. -/
def absorb : Nat → List Nat → List Byte → List Nat
  | 0, a, _ => a
  | n + 1, a, bs => absorb n (absorbBlock a (bs.take 136)) (bs.drop 136)

/-- The SHAKE256 padding of a message of `len` bytes. -/
def shakePad (len : Nat) : List Byte :=
  let q := 136 - len % 136
  if q = 1 then [0x9F] else [0x1F] ++ List.replicate (q - 2) 0 ++ [0x80]

/-- The first `n` bytes (at most 136) of SHAKE256 of a message. -/
def shake256 (n : Nat) (msg : List Byte) : List Byte :=
  let p := msg ++ shakePad msg.length
  let a := absorb (p.length / 136) (List.replicate 25 0) p
  ((List.range 17).flatMap fun i => leBytes 8 (a.getD i 0)).take n

/-- Multiplication over GF(2^64) with the polynomial x^64 + x^4 + x^3 + x + 1, by the bits of the second factor
(R302). -/
def gmulBits : Nat → Nat → Nat → Nat → Nat
  | 0, _, _, r => r
  | n + 1, a, b, r =>
    gmulBits n (((a <<< 1) % 2 ^ 64) ^^^ (if 2 ^ 63 ≤ a then 0x1B else 0)) (b / 2) (if b % 2 = 1 then r ^^^ a else r)

/-- The product of two 64-bit words (R302). -/
def gmul (a b : Nat) : Nat := gmulBits 64 a b 0

/-- One lane of the tally, or an output digest, carried on from `h` over a message (R303, R367). -/
def gdigest (key h : Nat) (words : List Nat) : Nat := words.foldl (fun h w => gmul h key ^^^ w) h

end Sys2Proof.Machine
end

