-- ==== Sys2Proof/Config.lean ====
section
/-! DEFINITION. Config: what an implementation fixes and the spec leaves open, each as a constant with no body. No
proof can see a value of one of these. The docstring of each names its log entry. -/
namespace Sys2Proof.Config

/-- A free value of the model: the value of a datum that the spec leaves open, drawn fresh for each value of the
counter `State.freeCtr` (log entry 1). -/
opaque freeValue : Nat → Nat
/-- Whether a row that a faulting or draining command was writing had been written when the fault came
(R133, R205, R281: "elements already written stay written"; which ones is open). First argument: the free counter;
second: the address of the row (log entry 1). -/
opaque rowLanded : Nat → Nat → Bool
/-- The correctly rounded value of an elementary function where the model's enclosure could not decide it: function
number, format width, argument sign, numerator and denominator (R190; log entry 12). -/
opaque roundedFallback : Nat → Nat → Nat → Nat → Nat → Nat
/-- The rate correction that the servo applies after a good exchange, from the offset and the correction in force
(R52 states its aim, not its arithmetic; log entry 13). -/
opaque servoAdjust : Int → Int → Int
/-- The offset that the servo predicts for the next exchange (R51 compares with it; log entry 13). -/
opaque servoPredict : Int → Int → Int
/-- The rate of a queue pair after a congestion notification, from the rate before and the configured parameters
(R351; log entry 14). -/
opaque cnpRate : Nat → Nat → Nat
/-- What the conversion of an infinity to INT32 without SAT leaves, by sign: R73 wraps the exact result, and an infinity has
none (R193; log entry 1). -/
opaque infinityToInt : Bool → Nat
/-- The pick that stands for the last slot of a throw whose flow the schedule gives no slot, by flow and pick of admission (R326: not
defined; log entry 1). -/
opaque noSlotPick : Nat → Nat → Nat
/-- The entry that a collective leaves for a block whose elements came with several, by device address of the entry (R90, R333; log
entry 16). -/
opaque mixedEntry : Nat → Nat
/-- What LDS loads where the pass has no index for its scope, by program word (R295; log entry 1). -/
opaque absentStat : Nat → Nat
/-- The code that an element which an overlapping transfer has already overwritten gives, by device address and bit (R275; log
entry 1). -/
opaque lostCode : Nat → Nat → Nat
/-- The code that elements sharing their bytes leave there, by device address (R218: not defined; log entry 1). -/
opaque sharedCode : Nat → Nat
/-- The bytes of an identity, certificate, signature or random nonce that the spec does not derive: kind and free
counter (R471 to R473; log entry 15). -/
opaque freeBytes : Nat → Nat → List (BitVec 8)
/-- The root that the verification of an SLH-DSA-SHAKE-256s signature recomputes under a public seed, from the message and the signature
(R396; log entry 11). -/
opaque slhRoot (seed : BitVec 256) (msg sig : List (BitVec 8)) : BitVec 256
/-- The bytes of a record of the PDR repository, by sensor ID, kind and thresholds: their layout stands outside the spec (R456; log
entry 15). -/
opaque pdrBytes : Nat → Bool → Option (Int × Int × Int) → List (BitVec 8)
/-- The tag that AES-256-GCM forms under a key and a nonce over some bytes (R340; log entry 49). -/
opaque gcmTag : Nat → Nat → List (BitVec 8) → BitVec 128
/-- The byte at a position of the key stream of AES-256-GCM under a key and a nonce (R340; log entry 49). -/
opaque gcmStream : Nat → Nat → Nat → BitVec 8
/-- The bytes of C1, whose layout R313 does not give (log entry 49). -/
opaque timeCellBytes : TimeCell → List (BitVec 8)
/-- The sixteen bytes of a flow record's place in C2, of which R316 gives the fields and not the layout (log entry 49). -/
opaque recBytes : Option FlowRec → List (BitVec 8)
/-- The bytes of C3, whose layout R313 does not give: the tag, the hash word, link-management messages (log entry 49). -/
opaque integrityBytes : BitVec 128 → Option W64 → List LinkMsg → List (BitVec 8)
/-- The idle fill of the payload cells (R313, R315), by pick and byte (log entry 49). -/
opaque idleFill : Nat → Nat → BitVec 8
/-- Where in its pick a slot leaves or arrives, by pick and port (R50; log entry 49). -/
opaque stampFrac : Nat → Nat → Nat
/-- The payload bit that CORRUPT inverts, by pick and port (R342; log entry 49). -/
opaque corruptBit : Nat → Nat → Nat
/-- Whether the corrected symbols of a lane in one shed exceed LANE_BER_LIMIT, whose unit the spec does not give (R312; log entry 49). -/
opaque laneRateOver : Nat → Nat → Bool
/-- The MCTP packet that carries a management message or a part of it (R453, R454), by message: MCTP's own packet format stands
outside the spec (log entry 59). -/
opaque mctpPacket : Nat → List (BitVec 8) → List (BitVec 8)

/-- Grembedun's part of a firmware image, whose place in it the spec does not give (R418, R450; log entry 61). -/
opaque grembedunPart : List (BitVec 8) → List (BitVec 8)
/-- The two droop thresholds of each loom that the fused TRIM holds, and those of the ROM (R416, R417; log entry 61). -/
opaque trimDroop : Nat → List (Nat × Nat)
opaque romDroop : List (Nat × Nat)
/-- The equalisation seeds of each port's lanes that the fused TRIM holds, and those of the ROM (R416, R417; log entry 61). -/
opaque trimEq : Nat → List (List Nat)
opaque romEq : List (List Nat)

end Sys2Proof.Config
end

