-- ==== Sys2Proof/Machine/Registers.lean ====
section
/-! DEFINITION. The register tables of the spec (R39, R62, R96, R135, R183, R206, R246, R247, R283, R284, R308, R344,
R365, R408, R409, R449, R486, R509): every register with its offset in its block, its fields, their access codes and
their Reset column. A field whose Reset entry is F, C or a dash resets to 0 here (log entries 2 and 3). -/
namespace Sys2Proof.Machine

/-- The access codes of register fields (R12). -/
inductive AccessCode where
  | ro | rw | wo | w1c | w1s | rc
  deriving DecidableEq, Repr

/-- One field of a register: its highest and lowest bit, its access code and its reset value. -/
structure RegField where
  hi : Nat
  lo : Nat
  acc : AccessCode
  reset : Nat
  deriving DecidableEq, Repr

/-- One row of a register table: the offset of its first member in its block, the stride and count of each index,
largest stride first, and its fields that are not reserved. -/
structure RegRow where
  base : Nat
  dims : List (Nat × Nat)
  fields : List RegField
  deriving DecidableEq, Repr

/-- The blocks of the control window (R32). -/
inductive Blk where
  | gctl | fault | pwr | time | cnt | ctx | htab | loom | wvn | host | ful | res
  deriving DecidableEq, Repr

/-- Registers of GCTL, part 0: ID, UID0, UID1, GRADE, SPARE_STAT, DEV_STATE, PICK_MIRROR, JOB_CTL, JOB_SEED, JOB_ID, FUSE_SUM, LMAPi. -/
def gctlRows0 : List RegRow := [
  ⟨0x0, [], [⟨15, 0, .ro, 0x5e77⟩, ⟨31, 16, .ro, 0x0⟩, ⟨39, 32, .ro, 0x0⟩]⟩,
  ⟨0x8, [], [⟨63, 0, .ro, 0x0⟩]⟩,
  ⟨0x10, [], [⟨63, 0, .ro, 0x0⟩]⟩,
  ⟨0x18, [], [⟨7, 0, .ro, 0x0⟩, ⟨15, 8, .ro, 0x0⟩, ⟨23, 16, .ro, 0x0⟩, ⟨31, 24, .ro, 0x0⟩]⟩,
  ⟨0x20, [], [⟨15, 0, .ro, 0x0⟩]⟩,
  ⟨0x28, [], [⟨2, 0, .ro, 0x1⟩, ⟨11, 8, .ro, 0x0⟩, ⟨12, 12, .ro, 0x0⟩, ⟨13, 13, .ro, 0x0⟩, ⟨14, 14, .ro, 0x0⟩]⟩,
  ⟨0x30, [], [⟨63, 0, .ro, 0x0⟩]⟩,
  ⟨0x38, [], [⟨0, 0, .wo, 0x0⟩, ⟨1, 1, .wo, 0x0⟩]⟩,
  ⟨0x40, [], [⟨63, 0, .rw, 0x0⟩]⟩,
  ⟨0x48, [], [⟨63, 0, .rw, 0x0⟩]⟩,
  ⟨0x50, [], [⟨0, 0, .ro, 0x0⟩, ⟨1, 1, .ro, 0x0⟩, ⟨2, 2, .ro, 0x0⟩, ⟨15, 8, .ro, 0x0⟩, ⟨27, 16, .ro, 0x0⟩]⟩,
  ⟨0x80, [(0x8, 16)], [⟨7, 0, .ro, 0x0⟩, ⟨15, 8, .ro, 0x0⟩, ⟨23, 16, .ro, 0x0⟩, ⟨31, 24, .ro, 0x0⟩, ⟨39, 32, .ro, 0x0⟩, ⟨47, 40, .ro, 0x0⟩, ⟨55, 48, .ro, 0x0⟩, ⟨63, 56, .ro, 0x0⟩]⟩]

/-- The GCTL table. -/
def gctlRows : List RegRow := gctlRows0

/-- Registers of TIME, part 0: PICK, NOW, SYNC_STAT, GM_ID_LO, GM_ID_HI, PRIO, OFFSET, PATH_DELAY, FREQ_ADJ, HOLDOVER_LIMIT, HOLDOVER_ELAPSED, TOD_SEC. -/
def timeRows0 : List RegRow := [
  ⟨0x0, [], [⟨63, 0, .ro, 0x0⟩]⟩,
  ⟨0x8, [], [⟨15, 0, .ro, 0x0⟩, ⟨63, 16, .ro, 0x0⟩]⟩,
  ⟨0x10, [], [⟨2, 0, .ro, 0x0⟩, ⟨3, 3, .ro, 0x0⟩, ⟨12, 8, .ro, 0x1f⟩, ⟨20, 16, .ro, 0x0⟩]⟩,
  ⟨0x18, [], [⟨63, 0, .ro, 0x0⟩]⟩,
  ⟨0x20, [], [⟨63, 0, .ro, 0x0⟩]⟩,
  ⟨0x28, [], [⟨7, 0, .rw, 0x0⟩, ⟨15, 8, .ro, 0xff⟩]⟩,
  ⟨0x30, [], [⟨31, 0, .ro, 0x0⟩]⟩,
  ⟨0x38, [], [⟨31, 0, .ro, 0x0⟩]⟩,
  ⟨0x40, [], [⟨31, 0, .ro, 0x0⟩]⟩,
  ⟨0x48, [], [⟨47, 0, .rw, 0x0⟩]⟩,
  ⟨0x50, [], [⟨47, 0, .ro, 0x0⟩]⟩,
  ⟨0x58, [], [⟨47, 0, .rw, 0x0⟩]⟩]

/-- Registers of TIME, part 1: TOD_CTL, EVENTS, GM_CHANGES, DISCARDS, LATE_PICKS, PTIME p. -/
def timeRows1 : List RegRow := [
  ⟨0x60, [], [⟨0, 0, .wo, 0x0⟩, ⟨1, 1, .ro, 0x0⟩, ⟨2, 2, .ro, 0x0⟩]⟩,
  ⟨0x68, [], [⟨0, 0, .w1c, 0x0⟩, ⟨1, 1, .w1c, 0x0⟩, ⟨2, 2, .w1c, 0x0⟩, ⟨3, 3, .w1c, 0x0⟩, ⟨4, 4, .w1c, 0x0⟩, ⟨5, 5, .w1c, 0x0⟩]⟩,
  ⟨0x70, [], [⟨31, 0, .ro, 0x0⟩]⟩,
  ⟨0x78, [], [⟨31, 0, .rc, 0x0⟩]⟩,
  ⟨0x80, [], [⟨31, 0, .rc, 0x0⟩]⟩,
  ⟨0x100, [(0x8, 18)], [⟨31, 0, .rw, 0x0⟩, ⟨33, 32, .ro, 0x0⟩]⟩]

/-- The TIME table. -/
def timeRows : List RegRow := timeRows0 ++ timeRows1

/-- Registers of LOOM, part 0: FLAGS c, LOOM_ID, OWN, PLANES, ACCh, ACCh_KT, EPICFG c.e, WATCH i, CLAMP c, STATCTL c, GEN c, VDROP c. -/
def loomRows0 : List RegRow := [
  ⟨0x100, [(0x8, 4)], [⟨4, 0, .w1c, 0x0⟩, ⟨12, 8, .w1c, 0x0⟩, ⟨20, 16, .w1c, 0x0⟩, ⟨28, 24, .w1c, 0x0⟩]⟩,
  ⟨0x0, [], [⟨6, 0, .ro, 0x0⟩, ⟨12, 8, .ro, 0x0⟩, ⟨17, 16, .ro, 0x0⟩, ⟨18, 18, .ro, 0x0⟩]⟩,
  ⟨0x8, [], [⟨1, 0, .ro, 0x0⟩, ⟨2, 2, .ro, 0x0⟩, ⟨5, 4, .ro, 0x0⟩, ⟨6, 6, .ro, 0x0⟩, ⟨7, 7, .ro, 0x0⟩]⟩,
  ⟨0x10, [], [⟨0, 0, .ro, 0x0⟩, ⟨8, 8, .ro, 0x0⟩, ⟨1, 1, .ro, 0x0⟩, ⟨9, 9, .ro, 0x0⟩, ⟨2, 2, .ro, 0x0⟩, ⟨10, 10, .ro, 0x0⟩, ⟨4, 3, .ro, 0x3⟩, ⟨12, 11, .ro, 0x3⟩]⟩,
  ⟨0x18, [(0x10, 2)], [⟨0, 0, .ro, 0x0⟩, ⟨1, 1, .w1c, 0x0⟩, ⟨2, 2, .ro, 0x0⟩, ⟨8, 3, .ro, 0x0⟩, ⟨18, 9, .ro, 0x0⟩, ⟨20, 19, .ro, 0x0⟩, ⟨63, 32, .ro, 0x0⟩]⟩,
  ⟨0x20, [(0x10, 2)], [⟨63, 0, .ro, 0x0⟩]⟩,
  ⟨0x800, [(0x80, 4), (0x8, 16)], [⟨2, 0, .rw, 0x0⟩, ⟨3, 3, .rw, 0x0⟩, ⟨4, 4, .rw, 0x0⟩, ⟨5, 5, .rw, 0x0⟩, ⟨6, 6, .rw, 0x0⟩, ⟨31, 16, .rw, 0x0⟩, ⟨47, 32, .rw, 0x0⟩, ⟨63, 48, .rw, 0x0⟩]⟩,
  ⟨0xa00, [(0x8, 32)], [⟨27, 0, .rw, 0x0⟩, ⟨29, 28, .rw, 0x0⟩, ⟨31, 31, .rw, 0x0⟩, ⟨59, 32, .rw, 0x0⟩, ⟨61, 60, .rw, 0x0⟩, ⟨63, 63, .rw, 0x0⟩]⟩,
  ⟨0xb00, [(0x8, 4)], [⟨31, 0, .rw, 0xff800000⟩, ⟨63, 32, .rw, 0x7f800000⟩]⟩,
  ⟨0xb20, [(0x8, 4)], [⟨15, 0, .ro, 0x0⟩, ⟨31, 16, .ro, 0x0⟩, ⟨32, 32, .ro, 0x0⟩]⟩,
  ⟨0xb40, [(0x8, 4)], [⟨3, 0, .rw, 0xf⟩]⟩,
  ⟨0xc00, [(0x20, 4)], [⟨15, 0, .rw, 0x0⟩, ⟨39, 16, .rw, 0x0⟩]⟩]

/-- Registers of LOOM, part 1: VDSCALE c, VSTAT c, VRES, PGEN i, IMLD_SRC, IMLD_CTL, IMLD_STAT, MVSTAT c, MVSTAT2 c, MVBUSY, DIG_BASE c, DIG_CTL c. -/
def loomRows1 : List RegRow := [
  ⟨0xc08, [(0x20, 4)], [⟨31, 0, .rw, 0x3f800000⟩]⟩,
  ⟨0xc10, [(0x20, 4)], [⟨8, 0, .ro, 0x0⟩, ⟨19, 16, .ro, 0x0⟩, ⟨20, 20, .ro, 0x0⟩]⟩,
  ⟨0xc80, [], [⟨8, 0, .ro, 0x100⟩, ⟨21, 16, .ro, 0x20⟩]⟩,
  ⟨0x400, [(0x8, 8)], [⟨7, 0, .ro, 0x0⟩, ⟨15, 8, .ro, 0x0⟩, ⟨23, 16, .ro, 0x0⟩, ⟨31, 24, .ro, 0x0⟩, ⟨39, 32, .ro, 0x0⟩, ⟨47, 40, .ro, 0x0⟩, ⟨55, 48, .ro, 0x0⟩, ⟨63, 56, .ro, 0x0⟩]⟩,
  ⟨0x440, [], [⟨63, 0, .rw, 0x0⟩]⟩,
  ⟨0x448, [], [⟨5, 0, .rw, 0x0⟩, ⟨12, 6, .rw, 0x0⟩, ⟨16, 16, .wo, 0x0⟩, ⟨17, 17, .wo, 0x0⟩]⟩,
  ⟨0x450, [], [⟨0, 0, .ro, 0x0⟩, ⟨1, 1, .ro, 0x0⟩, ⟨2, 2, .w1c, 0x0⟩, ⟨3, 3, .w1c, 0x0⟩, ⟨4, 4, .w1c, 0x0⟩]⟩,
  ⟨0x1000, [(0x10, 4)], [⟨31, 0, .rc, 0x0⟩, ⟨47, 32, .rc, 0x0⟩, ⟨63, 48, .rc, 0x0⟩]⟩,
  ⟨0x1008, [(0x10, 4)], [⟨15, 0, .rc, 0x0⟩, ⟨31, 16, .rc, 0x0⟩]⟩,
  ⟨0x1080, [], [⟨3, 0, .ro, 0x0⟩, ⟨7, 4, .ro, 0x0⟩, ⟨11, 8, .ro, 0x0⟩, ⟨15, 12, .ro, 0x0⟩]⟩,
  ⟨0x1400, [(0x20, 4)], [⟨63, 0, .rw, 0x0⟩]⟩,
  ⟨0x1408, [(0x20, 4)], [⟨0, 0, .rw, 0x0⟩, ⟨5, 1, .rw, 0x0⟩, ⟨63, 32, .ro, 0x0⟩]⟩]

/-- The LOOM table. -/
def loomRows : List RegRow := loomRows0 ++ loomRows1

/-- Registers of CTX, part 0: CSTATE, CCTL, BUDGET, LAST_RETIRED, FAULT_INFO, CQ_BASE, CQ_CTL, DESC_COMMIT, DESC_STAT, DSTAGE w, CNT i, CMPS. -/
def ctxRows0 : List RegRow := [
  ⟨0x0, [], [⟨2, 0, .ro, 0x0⟩, ⟨3, 3, .ro, 0x0⟩, ⟨4, 4, .ro, 0x0⟩, ⟨7, 5, .ro, 0x0⟩, ⟨9, 8, .ro, 0x0⟩, ⟨10, 10, .ro, 0x0⟩]⟩,
  ⟨0x8, [], [⟨0, 0, .wo, 0x0⟩, ⟨1, 1, .wo, 0x0⟩, ⟨2, 2, .rw, 0x0⟩]⟩,
  ⟨0x10, [], [⟨23, 0, .rw, 0x0⟩, ⟨47, 24, .rw, 0x0⟩]⟩,
  ⟨0x18, [], [⟨23, 0, .ro, 0x0⟩, ⟨27, 24, .ro, 0x0⟩]⟩,
  ⟨0x20, [], [⟨15, 0, .ro, 0x0⟩, ⟨18, 16, .ro, 0x0⟩, ⟨22, 19, .ro, 0x0⟩, ⟨47, 24, .ro, 0x0⟩]⟩,
  ⟨0x28, [], [⟨63, 0, .rw, 0x0⟩]⟩,
  ⟨0x30, [], [⟨4, 0, .rw, 0x0⟩, ⟨63, 32, .ro, 0x0⟩]⟩,
  ⟨0x40, [], [⟨11, 0, .wo, 0x0⟩, ⟨12, 12, .wo, 0x0⟩, ⟨13, 13, .wo, 0x0⟩]⟩,
  ⟨0x48, [], [⟨11, 0, .ro, 0x0⟩, ⟨15, 12, .ro, 0x0⟩, ⟨16, 16, .ro, 0x1⟩, ⟨17, 17, .ro, 0x0⟩]⟩,
  ⟨0x80, [(0x8, 16)], [⟨63, 0, .rw, 0x0⟩]⟩,
  ⟨0x100, [(0x8, 16)], [⟨31, 0, .ro, 0x0⟩]⟩,
  ⟨0x180, [], [⟨7, 0, .ro, 0x0⟩]⟩]

/-- Registers of CTX, part 1: RING_BASE e, RING_CTL e, DOORBELL e, HEAD e, TAILR e, RETIRED e, QUEUE e, SSTATE e, SEMADD e, SEM e.s. -/
def ctxRows1 : List RegRow := [
  ⟨0x400, [(0x300, 4)], [⟨63, 12, .rw, 0x0⟩]⟩,
  ⟨0x408, [(0x300, 4)], [⟨4, 0, .rw, 0x0⟩, ⟨8, 8, .rw, 0x0⟩]⟩,
  ⟨0x410, [(0x300, 4)], [⟨31, 0, .wo, 0x0⟩, ⟨47, 32, .wo, 0x0⟩]⟩,
  ⟨0x418, [(0x300, 4)], [⟨31, 0, .ro, 0x0⟩]⟩,
  ⟨0x420, [(0x300, 4)], [⟨31, 0, .ro, 0x0⟩]⟩,
  ⟨0x428, [(0x300, 4)], [⟨31, 0, .ro, 0x0⟩]⟩,
  ⟨0x430, [(0x300, 4)], [⟨15, 0, .ro, 0x0⟩, ⟨31, 16, .ro, 0x200⟩]⟩,
  ⟨0x438, [(0x300, 4)], [⟨2, 0, .ro, 0x0⟩, ⟨3, 3, .ro, 0x0⟩]⟩,
  ⟨0x440, [(0x300, 4)], [⟨5, 0, .wo, 0x0⟩, ⟨63, 32, .wo, 0x0⟩]⟩,
  ⟨0x500, [(0x300, 4), (0x8, 64)], [⟨31, 0, .ro, 0x0⟩]⟩]

/-- The CTX table. -/
def ctxRows : List RegRow := ctxRows0 ++ ctxRows1

/-- Registers of HTAB, part 0: ENTRY i.W0, ENTRY i.W1, HT_STAGE0, HT_STAGE1, HT_COMMIT, HT_STAT, BEAM_MODE, BEAM_STAT, BANKS b, HBM_STAT k, HBM_CE k, HBM_UE k. -/
def htabRows0 : List RegRow := [
  ⟨0x0, [(0x10, 1024)], [⟨63, 0, .ro, 0x0⟩]⟩,
  ⟨0x8, [(0x10, 1024)], [⟨63, 0, .ro, 0x0⟩]⟩,
  ⟨0x4000, [], [⟨63, 0, .rw, 0x0⟩]⟩,
  ⟨0x4008, [], [⟨63, 0, .rw, 0x0⟩]⟩,
  ⟨0x4010, [], [⟨9, 0, .wo, 0x0⟩, ⟨10, 10, .wo, 0x0⟩]⟩,
  ⟨0x4018, [], [⟨9, 0, .ro, 0x0⟩, ⟨10, 10, .ro, 0x1⟩, ⟨11, 11, .ro, 0x0⟩, ⟨15, 12, .ro, 0x0⟩]⟩,
  ⟨0x4100, [], [⟨5, 0, .rw, 0x0⟩]⟩,
  ⟨0x4108, [], [⟨5, 0, .ro, 0x0⟩, ⟨6, 6, .ro, 0x0⟩, ⟨7, 7, .w1c, 0x0⟩]⟩,
  ⟨0x4200, [(0x8, 6)], [⟨1, 0, .ro, 0x0⟩, ⟨3, 2, .ro, 0x0⟩, ⟨5, 4, .ro, 0x0⟩, ⟨7, 6, .ro, 0x0⟩, ⟨9, 8, .ro, 0x0⟩, ⟨11, 10, .ro, 0x0⟩, ⟨13, 12, .ro, 0x0⟩, ⟨15, 14, .ro, 0x0⟩, ⟨17, 16, .ro, 0x0⟩, ⟨19, 18, .ro, 0x0⟩, ⟨21, 20, .ro, 0x0⟩, ⟨23, 22, .ro, 0x0⟩, ⟨25, 24, .ro, 0x0⟩, ⟨27, 26, .ro, 0x0⟩, ⟨29, 28, .ro, 0x0⟩, ⟨31, 30, .ro, 0x0⟩, ⟨47, 32, .ro, 0x0⟩]⟩,
  ⟨0x4300, [(0x20, 3)], [⟨7, 0, .ro, 0x0⟩, ⟨15, 8, .ro, 0x0⟩, ⟨16, 16, .ro, 0x0⟩, ⟨21, 17, .ro, 0x0⟩, ⟨22, 22, .ro, 0x0⟩, ⟨39, 24, .ro, 0x0⟩]⟩,
  ⟨0x4308, [(0x20, 3)], [⟨31, 0, .rc, 0x0⟩]⟩,
  ⟨0x4310, [(0x20, 3)], [⟨31, 0, .rc, 0x0⟩]⟩]

/-- Registers of HTAB, part 1: HBM_TRAINS k, SRAM_CE, SRAM_UE, SCRUB. -/
def htabRows1 : List RegRow := [
  ⟨0x4318, [(0x20, 3)], [⟨31, 0, .ro, 0x0⟩]⟩,
  ⟨0x4400, [], [⟨31, 0, .rc, 0x0⟩, ⟨63, 32, .rc, 0x0⟩]⟩,
  ⟨0x4408, [], [⟨31, 0, .rc, 0x0⟩, ⟨63, 32, .rc, 0x0⟩]⟩,
  ⟨0x4410, [], [⟨0, 0, .rw, 0x1⟩]⟩]

/-- The HTAB table. -/
def htabRows : List RegRow := htabRows0 ++ htabRows1

/-- Registers of FUL, part 0: FP_STAGE i, FP_HDR, FP_COMMIT, FP_STAT, FP_VALID, TKEY0, TKEY1, FSTAT d, FTAG d, TALLY_ACC_LO d, TALLY_ACC_HI d, TALLY_CTL d. -/
def fulRows0 : List RegRow := [
  ⟨0x0, [(0x8, 16)], [⟨31, 0, .rw, 0x0⟩, ⟨63, 32, .rw, 0x0⟩]⟩,
  ⟨0x80, [], [⟨5, 0, .rw, 0x0⟩]⟩,
  ⟨0x88, [], [⟨5, 0, .wo, 0x0⟩, ⟨6, 6, .wo, 0x0⟩, ⟨7, 7, .wo, 0x0⟩]⟩,
  ⟨0x90, [], [⟨5, 0, .ro, 0x0⟩, ⟨6, 6, .ro, 0x1⟩, ⟨7, 7, .ro, 0x0⟩, ⟨10, 8, .ro, 0x0⟩, ⟨15, 11, .ro, 0x0⟩]⟩,
  ⟨0x98, [], [⟨63, 0, .ro, 0x0⟩]⟩,
  ⟨0x100, [], [⟨63, 0, .rw, 0x0⟩]⟩,
  ⟨0x108, [], [⟨63, 0, .rw, 0x0⟩]⟩,
  ⟨0x200, [(0x100, 4)], [⟨0, 0, .ro, 0x0⟩, ⟨2, 1, .ro, 0x0⟩, ⟨9, 3, .ro, 0x0⟩, ⟨11, 10, .ro, 0x0⟩, ⟨15, 12, .ro, 0x0⟩, ⟨23, 16, .ro, 0x0⟩]⟩,
  ⟨0x208, [(0x100, 4)], [⟨23, 0, .ro, 0x0⟩]⟩,
  ⟨0x210, [(0x100, 4)], [⟨63, 0, .ro, 0x0⟩]⟩,
  ⟨0x218, [(0x100, 4)], [⟨63, 0, .ro, 0x0⟩]⟩,
  ⟨0x220, [(0x100, 4)], [⟨0, 0, .wo, 0x0⟩]⟩]

/-- Registers of FUL, part 1: FCOUNT d. -/
def fulRows1 : List RegRow := [
  ⟨0x228, [(0x100, 4)], [⟨31, 0, .ro, 0x0⟩]⟩]

/-- The FUL table. -/
def fulRows : List RegRow := fulRows0 ++ fulRows1

/-- Registers of WVN, part 0: WVN_STAT, SCHED_SEL, BOLT_HASH w, THROW_CNT, THROW_FAIL, COLL_STAT d, PSTAT, PCTL, NBR_LO, NBR_HI, NBR_LO, NBR_HI, NBR_PORT, PDELAY. -/
def wvnRows0 : List RegRow := [
  ⟨0x0, [], [⟨4, 0, .ro, 0x0⟩, ⟨6, 5, .ro, 0x0⟩, ⟨7, 7, .ro, 0x0⟩, ⟨11, 8, .ro, 0x0⟩]⟩,
  ⟨0x8, [], [⟨1, 0, .rw, 0x0⟩, ⟨55, 8, .rw, 0x0⟩]⟩,
  ⟨0x10, [(0x8, 4)], [⟨63, 0, .ro, 0x0⟩]⟩,
  ⟨0x30, [], [⟨31, 0, .rc, 0x0⟩, ⟨63, 32, .rc, 0x0⟩]⟩,
  ⟨0x38, [], [⟨31, 0, .rc, 0x0⟩, ⟨63, 32, .rc, 0x0⟩]⟩,
  ⟨0x100, [(0x40, 4)], [⟨0, 0, .ro, 0x0⟩, ⟨7, 1, .ro, 0x0⟩, ⟨9, 8, .ro, 0x0⟩, ⟨39, 16, .ro, 0x0⟩]⟩,
  ⟨0x10000, [(0x1000, 18)], [⟨3, 0, .ro, 0x0⟩, ⟨16, 8, .ro, 0x0⟩, ⟨20, 17, .ro, 0x0⟩, ⟨21, 21, .ro, 0x0⟩, ⟨22, 22, .ro, 0x0⟩]⟩,
  ⟨0x10008, [(0x1000, 18)], [⟨0, 0, .wo, 0x0⟩, ⟨1, 1, .rw, 0x0⟩, ⟨2, 2, .rw, 0x0⟩]⟩,
  ⟨0x10010, [(0x1000, 18)], [⟨63, 0, .ro, 0x0⟩]⟩,
  ⟨0x10018, [(0x1000, 18)], [⟨63, 0, .ro, 0x0⟩]⟩,
  ⟨0x10020, [(0x1000, 18)], [⟨4, 0, .ro, 0x1f⟩]⟩,
  ⟨0x10028, [(0x1000, 18)], [⟨15, 0, .ro, 0x0⟩]⟩]

/-- Registers of WVN, part 1: LANEMAP, FEC, MISSED, BADTAG, QUAR, INJ. -/
def wvnRows1 : List RegRow := [
  ⟨0x10030, [(0x1000, 18)], [⟨3, 0, .ro, 0x0⟩, ⟨7, 4, .ro, 0x1⟩, ⟨11, 8, .ro, 0x2⟩, ⟨15, 12, .ro, 0x3⟩, ⟨19, 16, .ro, 0x4⟩, ⟨23, 20, .ro, 0x5⟩, ⟨27, 24, .ro, 0x6⟩, ⟨31, 28, .ro, 0x7⟩]⟩,
  ⟨0x10038, [(0x1000, 18)], [⟨31, 0, .rc, 0x0⟩, ⟨63, 32, .rc, 0x0⟩]⟩,
  ⟨0x10040, [(0x1000, 18)], [⟨15, 0, .ro, 0x0⟩, ⟨47, 16, .rc, 0x0⟩]⟩,
  ⟨0x10048, [(0x1000, 18)], [⟨31, 0, .rc, 0x0⟩, ⟨63, 32, .rc, 0x0⟩]⟩,
  ⟨0x10050, [(0x1000, 18)], [⟨31, 0, .rc, 0x0⟩, ⟨39, 32, .ro, 0x0⟩, ⟨63, 40, .ro, 0x0⟩]⟩,
  ⟨0x10058, [(0x1000, 18)], [⟨1, 0, .rw, 0x0⟩, ⟨2, 2, .rw, 0x0⟩, ⟨15, 8, .rw, 0x1⟩, ⟨47, 16, .rw, 0x0⟩]⟩]

/-- The WVN table. -/
def wvnRows : List RegRow := wvnRows0 ++ wvnRows1

/-- Registers of HOST, part 0: HOST_CAP, QP_USED, QP_STAGE w, QP_CMD, QP_STAT, MR_STAGE0, MR_STAGE1, MR_STAGE2, MR_CMD, MR_STAT, ALLOW i, MIR_SRC m. -/
def hostRows0 : List RegRow := [
  ⟨0x0, [], [⟨15, 0, .ro, 0x4000⟩, ⟨24, 16, .ro, 0x100⟩]⟩,
  ⟨0x8, [], [⟨15, 0, .ro, 0x0⟩]⟩,
  ⟨0x100, [(0x8, 8)], [⟨63, 0, .rw, 0x0⟩]⟩,
  ⟨0x140, [], [⟨13, 0, .wo, 0x0⟩, ⟨15, 14, .wo, 0x0⟩]⟩,
  ⟨0x148, [], [⟨13, 0, .ro, 0x0⟩, ⟨16, 16, .ro, 0x1⟩, ⟨17, 17, .ro, 0x0⟩, ⟨19, 18, .ro, 0x0⟩]⟩,
  ⟨0x200, [], [⟨63, 0, .rw, 0x0⟩]⟩,
  ⟨0x208, [], [⟨39, 0, .rw, 0x0⟩]⟩,
  ⟨0x210, [], [⟨23, 0, .rw, 0x0⟩, ⟨24, 24, .rw, 0x0⟩, ⟨25, 25, .rw, 0x0⟩]⟩,
  ⟨0x220, [], [⟨7, 0, .wo, 0x0⟩, ⟨8, 8, .wo, 0x0⟩]⟩,
  ⟨0x228, [], [⟨7, 0, .ro, 0x0⟩, ⟨8, 8, .ro, 0x1⟩, ⟨9, 9, .ro, 0x0⟩]⟩,
  ⟨0x400, [(0x8, 32)], [⟨27, 0, .rw, 0x0⟩, ⟨55, 28, .rw, 0x0⟩, ⟨56, 56, .rw, 0x0⟩, ⟨57, 57, .rw, 0x0⟩, ⟨63, 63, .rw, 0x0⟩]⟩,
  ⟨0x600, [(0x20, 64)], [⟨1, 0, .rw, 0x0⟩, ⟨10, 2, .rw, 0x0⟩, ⟨24, 11, .rw, 0x0⟩, ⟨29, 25, .rw, 0x0⟩]⟩]

/-- Registers of HOST, part 1: MIR_ADDR m, MIR_KEY m, MIR_DROPS m, DR_QP t, DR_ADDR t, DR_KEY t, DR_LEN t, HPSTAT, HPCFG, HPMAC, HPGID_LO, HPGID_HI, HPGID_LO, HPGID_HI. -/
def hostRows1 : List RegRow := [
  ⟨0x608, [(0x20, 64)], [⟨63, 0, .rw, 0x0⟩]⟩,
  ⟨0x610, [(0x20, 64)], [⟨31, 0, .rw, 0x0⟩]⟩,
  ⟨0x618, [(0x20, 64)], [⟨31, 0, .rc, 0x0⟩]⟩,
  ⟨0xe00, [(0x20, 16)], [⟨13, 0, .rw, 0x0⟩, ⟨63, 63, .rw, 0x0⟩]⟩,
  ⟨0xe08, [(0x20, 16)], [⟨63, 0, .rw, 0x0⟩]⟩,
  ⟨0xe10, [(0x20, 16)], [⟨31, 0, .rw, 0x0⟩]⟩,
  ⟨0xe18, [(0x20, 16)], [⟨47, 0, .rw, 0x0⟩]⟩,
  ⟨0x10000, [(0x1000, 4)], [⟨0, 0, .ro, 0x0⟩, ⟨1, 1, .ro, 0x0⟩]⟩,
  ⟨0x10008, [(0x1000, 4)], [⟨2, 0, .rw, 0x0⟩, ⟨3, 3, .rw, 0x0⟩, ⟨4, 4, .rw, 0x0⟩]⟩,
  ⟨0x10010, [(0x1000, 4)], [⟨47, 0, .ro, 0x0⟩]⟩,
  ⟨0x10018, [(0x1000, 4)], [⟨63, 0, .ro, 0x0⟩]⟩,
  ⟨0x10020, [(0x1000, 4)], [⟨63, 0, .ro, 0x0⟩]⟩]

/-- Registers of HOST, part 2: HPCNT0, HPCNT1, HPCNT2. -/
def hostRows2 : List RegRow := [
  ⟨0x10028, [(0x1000, 4)], [⟨31, 0, .rc, 0x0⟩, ⟨63, 32, .rc, 0x0⟩]⟩,
  ⟨0x10030, [(0x1000, 4)], [⟨15, 0, .rc, 0x0⟩, ⟨31, 16, .rc, 0x0⟩, ⟨47, 32, .rc, 0x0⟩, ⟨63, 48, .rc, 0x0⟩]⟩,
  ⟨0x10038, [(0x1000, 4)], [⟨31, 0, .rc, 0x0⟩, ⟨47, 32, .rc, 0x0⟩, ⟨63, 48, .rc, 0x0⟩]⟩]

/-- The HOST table. -/
def hostRows : List RegRow := hostRows0 ++ hostRows1 ++ hostRows2

/-- Registers of RES, part 0: RES_STAT, VOTE_CFG, VOTE_CTL, VOTE_RES, VOTE_STEP, VOTE_DT_LO, VOTE_DT_HI, VOTES, VMEMB r, RANK, DKEY, REXP_STEP i. -/
def resRows0 : List RegRow := [
  ⟨0x0, [], [⟨0, 0, .ro, 0x0⟩, ⟨1, 1, .ro, 0x0⟩]⟩,
  ⟨0x8, [], [⟨3, 0, .rw, 0x1⟩, ⟨6, 4, .rw, 0x0⟩, ⟨27, 8, .rw, 0x0⟩]⟩,
  ⟨0x10, [], [⟨0, 0, .wo, 0x0⟩]⟩,
  ⟨0x18, [], [⟨2, 0, .ro, 0x0⟩, ⟨15, 8, .ro, 0x0⟩, ⟨23, 16, .ro, 0x0⟩]⟩,
  ⟨0x20, [], [⟨63, 0, .ro, 0x0⟩]⟩,
  ⟨0x28, [], [⟨63, 0, .ro, 0x0⟩]⟩,
  ⟨0x30, [], [⟨63, 0, .ro, 0x0⟩]⟩,
  ⟨0x38, [], [⟨31, 0, .ro, 0x0⟩]⟩,
  ⟨0x40, [(0x8, 8)], [⟨31, 0, .rw, 0x0⟩]⟩,
  ⟨0x80, [], [⟨31, 0, .rw, 0x0⟩]⟩,
  ⟨0x88, [], [⟨63, 0, .rw, 0x0⟩]⟩,
  ⟨0x100, [(0x20, 8)], [⟨63, 0, .rw, 0x0⟩]⟩]

/-- Registers of RES, part 1: REXP_LO i, REXP_HI i, REXP_CTL i, SHADOW_BASE, SHADOW_LEN, CK_TARGET, CK_STAT, CK_SEQ, CK_PICK, CK_PROG, CK_EVENT, BUDDY_BASE. -/
def resRows1 : List RegRow := [
  ⟨0x108, [(0x20, 8)], [⟨63, 0, .rw, 0x0⟩]⟩,
  ⟨0x110, [(0x20, 8)], [⟨63, 0, .rw, 0x0⟩]⟩,
  ⟨0x118, [(0x20, 8)], [⟨0, 0, .rw, 0x0⟩, ⟨1, 1, .w1c, 0x0⟩, ⟨2, 2, .w1c, 0x0⟩]⟩,
  ⟨0x200, [], [⟨63, 0, .rw, 0x0⟩]⟩,
  ⟨0x208, [], [⟨16, 0, .rw, 0x0⟩]⟩,
  ⟨0x210, [], [⟨0, 0, .rw, 0x0⟩, ⟨4, 1, .rw, 0x0⟩, ⟨27, 8, .rw, 0x0⟩]⟩,
  ⟨0x218, [], [⟨1, 0, .ro, 0x0⟩, ⟨3, 2, .ro, 0x0⟩, ⟨7, 4, .ro, 0x0⟩, ⟨24, 8, .ro, 0x0⟩]⟩,
  ⟨0x220, [], [⟨63, 0, .ro, 0x0⟩]⟩,
  ⟨0x228, [], [⟨63, 0, .ro, 0x0⟩]⟩,
  ⟨0x230, [], [⟨31, 0, .ro, 0x0⟩, ⟨63, 32, .ro, 0x0⟩]⟩,
  ⟨0x238, [], [⟨0, 0, .w1c, 0x0⟩, ⟨1, 1, .w1c, 0x0⟩]⟩,
  ⟨0x240, [], [⟨63, 0, .rw, 0x0⟩]⟩]

/-- Registers of RES, part 2: BUDDY_LEN, BUDDY_STAT, BUDDY_CTL, INLOG i, RST_ADDR, RST_CTL, RST_STAT, SPARE_CMD, SPARE_RES, HEALTH, SWR_BASE, SWR_CTL. -/
def resRows2 : List RegRow := [
  ⟨0x248, [], [⟨39, 0, .rw, 0x0⟩]⟩,
  ⟨0x250, [], [⟨0, 0, .ro, 0x0⟩, ⟨1, 1, .ro, 0x0⟩, ⟨2, 2, .ro, 0x0⟩, ⟨63, 32, .ro, 0x0⟩]⟩,
  ⟨0x258, [], [⟨0, 0, .wo, 0x0⟩, ⟨20, 1, .wo, 0x0⟩]⟩,
  ⟨0x280, [(0x8, 16)], [⟨63, 0, .rw, 0x0⟩]⟩,
  ⟨0x300, [], [⟨63, 0, .rw, 0x0⟩]⟩,
  ⟨0x308, [], [⟨0, 0, .wo, 0x0⟩]⟩,
  ⟨0x310, [], [⟨0, 0, .ro, 0x0⟩, ⟨1, 1, .w1c, 0x0⟩, ⟨2, 2, .w1c, 0x0⟩, ⟨6, 3, .ro, 0x0⟩]⟩,
  ⟨0x400, [], [⟨6, 0, .wo, 0x0⟩, ⟨7, 7, .wo, 0x0⟩]⟩,
  ⟨0x408, [], [⟨6, 0, .ro, 0x0⟩, ⟨8, 8, .ro, 0x0⟩, ⟨9, 9, .w1c, 0x0⟩, ⟨10, 10, .w1c, 0x0⟩, ⟨13, 11, .ro, 0x0⟩]⟩,
  ⟨0x480, [], [⟨0, 0, .w1s, 0x0⟩]⟩,
  ⟨0x500, [], [⟨63, 0, .rw, 0x0⟩]⟩,
  ⟨0x508, [], [⟨4, 0, .rw, 0x0⟩, ⟨63, 32, .ro, 0x0⟩]⟩]

/-- Registers of RES, part 3: SW_WIN, CAP_START, CAP_ITER01, CAP_ITER23, CAP_END, CAP_ADDR, CAP_LEN, CAP_STAT, LSW l, SWS_ADDR i, SWS_LEN i, SWS_ID i. -/
def resRows3 : List RegRow := [
  ⟨0x510, [], [⟨0, 0, .ro, 0x0⟩]⟩,
  ⟨0x600, [], [⟨6, 0, .rw, 0x0⟩, ⟨10, 7, .rw, 0x0⟩, ⟨34, 11, .rw, 0x0⟩, ⟨38, 35, .rw, 0x0⟩, ⟨63, 63, .wo, 0x0⟩]⟩,
  ⟨0x608, [], [⟨31, 0, .rw, 0x0⟩, ⟨63, 32, .rw, 0x0⟩]⟩,
  ⟨0x610, [], [⟨31, 0, .rw, 0x0⟩, ⟨63, 32, .rw, 0x0⟩]⟩,
  ⟨0x618, [], [⟨23, 0, .rw, 0x0⟩]⟩,
  ⟨0x620, [], [⟨63, 0, .rw, 0x0⟩]⟩,
  ⟨0x628, [], [⟨39, 0, .rw, 0x0⟩]⟩,
  ⟨0x630, [], [⟨0, 0, .ro, 0x0⟩, ⟨1, 1, .ro, 0x0⟩, ⟨2, 2, .w1c, 0x0⟩, ⟨3, 3, .w1c, 0x0⟩, ⟨6, 4, .ro, 0x0⟩, ⟨63, 32, .ro, 0x0⟩]⟩,
  ⟨0x800, [(0x8, 128)], [⟨31, 0, .ro, 0x0⟩, ⟨63, 32, .ro, 0x0⟩]⟩,
  ⟨0x10000, [(0x20, 256)], [⟨63, 0, .rw, 0x0⟩]⟩,
  ⟨0x10008, [(0x20, 256)], [⟨39, 0, .rw, 0x0⟩]⟩,
  ⟨0x10010, [(0x20, 256)], [⟨63, 0, .rw, 0x0⟩]⟩]

/-- Registers of RES, part 4: SWS_CTL i. -/
def resRows4 : List RegRow := [
  ⟨0x10018, [(0x20, 256)], [⟨1, 0, .rw, 0x0⟩, ⟨2, 2, .wo, 0x0⟩, ⟨15, 8, .rw, 0x0⟩]⟩]

/-- The RES table. -/
def resRows : List RegRow := resRows0 ++ resRows1 ++ resRows2 ++ resRows3 ++ resRows4

/-- Registers of PWR, part 0: PWR_CMD, PWR_STAT, CAP, POWER, EVENTS, CEIL d, LPWR l, DROOP l, TEMP s, VREG v. -/
def pwrRows0 : List RegRow := [
  ⟨0x0, [], [⟨1, 0, .wo, 0x0⟩, ⟨4, 2, .wo, 0x0⟩, ⟨13, 5, .wo, 0x0⟩, ⟨22, 14, .wo, 0x0⟩]⟩,
  ⟨0x8, [], [⟨0, 0, .ro, 0x1⟩, ⟨1, 1, .ro, 0x0⟩, ⟨4, 2, .ro, 0x0⟩, ⟨13, 5, .ro, 0x0⟩, ⟨14, 14, .ro, 0x0⟩]⟩,
  ⟨0x10, [], [⟨11, 0, .rw, 0x0⟩]⟩,
  ⟨0x18, [], [⟨11, 0, .ro, 0x0⟩, ⟨23, 12, .rc, 0x0⟩]⟩,
  ⟨0x20, [], [⟨0, 0, .w1c, 0x0⟩, ⟨1, 1, .w1c, 0x0⟩, ⟨2, 2, .w1c, 0x0⟩, ⟨3, 3, .w1c, 0x0⟩]⟩,
  ⟨0x40, [(0x8, 4)], [⟨11, 0, .ro, 0x640⟩, ⟨12, 12, .ro, 0x0⟩, ⟨13, 13, .ro, 0x0⟩]⟩,
  ⟨0x100, [(0x8, 128)], [⟨1, 0, .ro, 0x0⟩, ⟨2, 2, .ro, 0x0⟩, ⟨3, 3, .ro, 0x0⟩]⟩,
  ⟨0x800, [(0x8, 128)], [⟨31, 0, .rc, 0x0⟩, ⟨41, 32, .rc, 0x3ff⟩, ⟨63, 48, .rc, 0x0⟩]⟩,
  ⟨0x1000, [(0x8, 96)], [⟨15, 0, .ro, 0x0⟩, ⟨23, 16, .rc, 0x0⟩, ⟨25, 24, .ro, 0x0⟩]⟩,
  ⟨0x1400, [(0x8, 4)], [⟨15, 0, .ro, 0x0⟩, ⟨31, 16, .ro, 0x0⟩]⟩]

/-- The PWR table. -/
def pwrRows : List RegRow := pwrRows0

/-- Registers of CNT, part 0: CNT_ACCESS, CNT_CTL, SNAP_BASE, SNAP_CTL, SNAP_STAT, TR_CTL, TR_BASE, TR_RING, TR_DROPS, WIN_SEL, CFG k.i, VAL k.i. -/
def cntRows0 : List RegRow := [
  ⟨0x0, [], [⟨0, 0, .rw, 0x0⟩]⟩,
  ⟨0x8, [], [⟨0, 0, .rw, 0x0⟩, ⟨1, 1, .wo, 0x0⟩]⟩,
  ⟨0x10, [], [⟨63, 0, .rw, 0x0⟩]⟩,
  ⟨0x18, [], [⟨4, 0, .rw, 0x0⟩, ⟨63, 32, .ro, 0x0⟩]⟩,
  ⟨0x20, [], [⟨31, 0, .rc, 0x0⟩]⟩,
  ⟨0x40, [], [⟨4, 0, .rw, 0xa⟩, ⟨5, 5, .rw, 0x0⟩, ⟨15, 8, .rw, 0x0⟩]⟩,
  ⟨0x48, [], [⟨63, 0, .rw, 0x0⟩]⟩,
  ⟨0x50, [], [⟨4, 0, .rw, 0x0⟩, ⟨63, 32, .ro, 0x0⟩]⟩,
  ⟨0x58, [], [⟨31, 0, .rc, 0x0⟩]⟩,
  ⟨0x60, [], [⟨0, 0, .rw, 0x0⟩, ⟨63, 32, .rw, 0x0⟩]⟩,
  ⟨0x4040, [(0x40, 255), (0x8, 8)], [⟨7, 0, .rw, 0x0⟩, ⟨11, 8, .rw, 0xf⟩, ⟨63, 63, .wo, 0x0⟩]⟩,
  ⟨0x8040, [(0x40, 255), (0x8, 8)], [⟨47, 0, .ro, 0x0⟩]⟩]

/-- Registers of CNT, part 1: WIN w. -/
def cntRows1 : List RegRow := [
  ⟨0xc000, [(0x8, 2048)], [⟨63, 0, .ro, 0x0⟩]⟩]

/-- The CNT table. -/
def cntRows : List RegRow := cntRows0 ++ cntRows1

/-- Registers of FAULT, part 0: FR_BASE, FR_CTL, FR_STAT, SEV_SUM, SEV_CNT0, SEV_CNT1, LAST_DEV, LAST_DEV_PICK, CTXF w. -/
def faultRows0 : List RegRow := [
  ⟨0x0, [], [⟨63, 0, .rw, 0x0⟩]⟩,
  ⟨0x8, [], [⟨4, 0, .rw, 0x0⟩, ⟨5, 5, .rw, 0x0⟩, ⟨63, 32, .ro, 0x0⟩]⟩,
  ⟨0x10, [], [⟨31, 0, .rc, 0x0⟩]⟩,
  ⟨0x18, [], [⟨0, 0, .w1c, 0x0⟩, ⟨1, 1, .w1c, 0x0⟩, ⟨2, 2, .w1c, 0x0⟩, ⟨3, 3, .w1c, 0x0⟩]⟩,
  ⟨0x20, [], [⟨31, 0, .ro, 0x0⟩, ⟨63, 32, .ro, 0x0⟩]⟩,
  ⟨0x28, [], [⟨31, 0, .ro, 0x0⟩, ⟨63, 32, .ro, 0x0⟩]⟩,
  ⟨0x30, [], [⟨15, 0, .ro, 0x0⟩, ⟨17, 16, .ro, 0x0⟩]⟩,
  ⟨0x38, [], [⟨63, 0, .ro, 0x0⟩]⟩,
  ⟨0x100, [(0x8, 8)], [⟨63, 0, .ro, 0x0⟩]⟩]

/-- The FAULT table. -/
def faultRows : List RegRow := faultRows0

/-- The table of a block. -/
def Blk.rows : Blk → List RegRow
  | .gctl => gctlRows
  | .fault => faultRows
  | .pwr => pwrRows
  | .time => timeRows
  | .cnt => cntRows
  | .ctx => ctxRows
  | .htab => htabRows
  | .loom => loomRows
  | .wvn => wvnRows
  | .host => hostRows
  | .ful => fulRows
  | .res => resRows

/-- Whether a local offset is a member of a row. -/
def RegRow.covers (r : RegRow) (off : Nat) : Bool :=
  decide (r.base ≤ off) &&
  match r.dims with
  | [] => off == r.base
  | [(s, n)] => (off - r.base) % s == 0 && decide ((off - r.base) / s < n)
  | (s, n) :: (t, m) :: _ =>
    decide ((off - r.base) / s < n) && ((off - r.base) % s) % t == 0 && decide (((off - r.base) % s) / t < m)

/-- The row that covers a local offset of a block. -/
def Blk.rowAt (b : Blk) (off : Nat) : Option RegRow := b.rows.find? (·.covers off)

/-- The value of a register whose fields all hold their reset values. -/
def RegRow.resetValue (r : RegRow) : Nat := r.fields.foldl (fun v f => setBits v f.hi f.lo f.reset) 0

/-- The block and the local offset that a control-window offset falls in (R32), with the die, slot or loom index of a
replicated block. -/
def blockAt (off : Nat) : Option (Blk × Nat × Nat) :=
  if off < 0x10000 then some (.gctl, 0, off)
  else if off < 0x20000 then some (.fault, 0, off - 0x10000)
  else if off < 0x30000 then some (.pwr, 0, off - 0x20000)
  else if off < 0x40000 then some (.time, 0, off - 0x30000)
  else if off < 0x50000 then some (.cnt, 0, off - 0x40000)
  else if off < 0x100000 then none
  else if off < 0x300000 then some (.ctx, (off - 0x100000) / 0x1000, (off - 0x100000) % 0x1000)
  else if off < 0x400000 then none
  else if off < 0x500000 then some (.htab, (off - 0x400000) / 0x40000, (off - 0x400000) % 0x40000)
  else if off < 0x800000 then none
  else if off < 0xC00000 then some (.loom, (off - 0x800000) / 0x8000, (off - 0x800000) % 0x8000)
  else if off < 0xD00000 then some (.wvn, 0, off - 0xC00000)
  else if off < 0xE00000 then some (.host, 0, off - 0xD00000)
  else if off < 0xF00000 then some (.ful, 0, off - 0xE00000)
  else if off < 0x1000000 then some (.res, 0, off - 0xF00000)
  else none

/-- The register row at a control-window offset. -/
def regRowAt (off : Nat) : Option RegRow :=
  match blockAt off with
  | some (b, _, l) => b.rowAt l
  | none => none

/-- The reset value of the register at a control-window offset (R15). -/
def regReset (off : Nat) : W64 :=
  match regRowAt off with
  | some r => BitVec.ofNat 64 r.resetValue
  | none => 0

end Sys2Proof.Machine
end

