-- ==== Sys2Proof/Machine/Fields.lean ====
section
/-! DEFINITION. The registers and their fields by the names of the spec's register tables: `Reg.<BLOCK>_<NAME>` is an
offset in the control window, `Reg.<BLOCK>_<NAME>_<FIELD>` one field of it. -/
namespace Sys2Proof.Machine

/-- A register field: the offset of its register in the control window and its highest and lowest bit. -/
structure Fld where
  off : Nat
  hi : Nat
  lo : Nat
  deriving DecidableEq, Repr

/-- GCTL ID (R39). -/
def Reg.GCTL_ID : Nat := 0x0
/-- Field VENDOR. -/
def Reg.GCTL_ID_VENDOR : Fld := ⟨Reg.GCTL_ID, 15, 0⟩
/-- Field PART. -/
def Reg.GCTL_ID_PART : Fld := ⟨Reg.GCTL_ID, 31, 16⟩
/-- Field STEPPING. -/
def Reg.GCTL_ID_STEPPING : Fld := ⟨Reg.GCTL_ID, 39, 32⟩
/-- GCTL UID0 (R39). -/
def Reg.GCTL_UID0 : Nat := 0x8
/-- Field UID_LO. -/
def Reg.GCTL_UID0_UID_LO : Fld := ⟨Reg.GCTL_UID0, 63, 0⟩
/-- GCTL UID1 (R39). -/
def Reg.GCTL_UID1 : Nat := 0x10
/-- Field UID_HI. -/
def Reg.GCTL_UID1_UID_HI : Fld := ⟨Reg.GCTL_UID1, 63, 0⟩
/-- GCTL GRADE (R39). -/
def Reg.GCTL_GRADE : Nat := 0x18
/-- Field ACTIVE_LOOMS. -/
def Reg.GCTL_GRADE_ACTIVE_LOOMS : Fld := ⟨Reg.GCTL_GRADE, 7, 0⟩
/-- Field PORTS. -/
def Reg.GCTL_GRADE_PORTS : Fld := ⟨Reg.GCTL_GRADE, 15, 8⟩
/-- Field SPARES. -/
def Reg.GCTL_GRADE_SPARES : Fld := ⟨Reg.GCTL_GRADE, 23, 16⟩
/-- Field GRADE. -/
def Reg.GCTL_GRADE_GRADE : Fld := ⟨Reg.GCTL_GRADE, 31, 24⟩
/-- GCTL SPARE_STAT (R39). -/
def Reg.GCTL_SPARE_STAT : Nat := 0x20
/-- Field STATE. -/
def Reg.GCTL_SPARE_STAT_STATE : Fld := ⟨Reg.GCTL_SPARE_STAT, 15, 0⟩
/-- GCTL DEV_STATE (R39). -/
def Reg.GCTL_DEV_STATE : Nat := 0x28
/-- Field STATE. -/
def Reg.GCTL_DEV_STATE_STATE : Fld := ⟨Reg.GCTL_DEV_STATE, 2, 0⟩
/-- Field PHASE. -/
def Reg.GCTL_DEV_STATE_PHASE : Fld := ⟨Reg.GCTL_DEV_STATE, 11, 8⟩
/-- Field CAL_LIGHT. -/
def Reg.GCTL_DEV_STATE_CAL_LIGHT : Fld := ⟨Reg.GCTL_DEV_STATE, 12, 12⟩
/-- Field JOB_ACTIVE. -/
def Reg.GCTL_DEV_STATE_JOB_ACTIVE : Fld := ⟨Reg.GCTL_DEV_STATE, 13, 13⟩
/-- Field RELEASING. -/
def Reg.GCTL_DEV_STATE_RELEASING : Fld := ⟨Reg.GCTL_DEV_STATE, 14, 14⟩
/-- GCTL PICK_MIRROR (R39). -/
def Reg.GCTL_PICK_MIRROR : Nat := 0x30
/-- Field PICK. -/
def Reg.GCTL_PICK_MIRROR_PICK : Fld := ⟨Reg.GCTL_PICK_MIRROR, 63, 0⟩
/-- GCTL JOB_CTL (R39). -/
def Reg.GCTL_JOB_CTL : Nat := 0x38
/-- Field JOB_START. -/
def Reg.GCTL_JOB_CTL_JOB_START : Fld := ⟨Reg.GCTL_JOB_CTL, 0, 0⟩
/-- Field JOB_RELEASE. -/
def Reg.GCTL_JOB_CTL_JOB_RELEASE : Fld := ⟨Reg.GCTL_JOB_CTL, 1, 1⟩
/-- GCTL JOB_SEED (R39). -/
def Reg.GCTL_JOB_SEED : Nat := 0x40
/-- Field SEED. -/
def Reg.GCTL_JOB_SEED_SEED : Fld := ⟨Reg.GCTL_JOB_SEED, 63, 0⟩
/-- GCTL JOB_ID (R39). -/
def Reg.GCTL_JOB_ID : Nat := 0x48
/-- Field ID. -/
def Reg.GCTL_JOB_ID_ID : Fld := ⟨Reg.GCTL_JOB_ID, 63, 0⟩
/-- GCTL FUSE_SUM (R39). -/
def Reg.GCTL_FUSE_SUM : Nat := 0x50
/-- Field TRIM_OK. -/
def Reg.GCTL_FUSE_SUM_TRIM_OK : Fld := ⟨Reg.GCTL_FUSE_SUM, 0, 0⟩
/-- Field IDENT_OK. -/
def Reg.GCTL_FUSE_SUM_IDENT_OK : Fld := ⟨Reg.GCTL_FUSE_SUM, 1, 1⟩
/-- Field ROLES_OK. -/
def Reg.GCTL_FUSE_SUM_ROLES_OK : Fld := ⟨Reg.GCTL_FUSE_SUM, 2, 2⟩
/-- Field FUSE_REV. -/
def Reg.GCTL_FUSE_SUM_FUSE_REV : Fld := ⟨Reg.GCTL_FUSE_SUM, 15, 8⟩
/-- Field HBM_REPAIRS. -/
def Reg.GCTL_FUSE_SUM_HBM_REPAIRS : Fld := ⟨Reg.GCTL_FUSE_SUM, 27, 16⟩
/-- GCTL LMAPi (R39). -/
def Reg.GCTL_LMAP (i : Nat) : Nat := 0x80 + 0x8 * i
/-- Field LMAP for logical loom 8i + j, by index. -/
def Reg.GCTL_LMAP_LMAP (i : Nat) (k : Nat) : Fld := ⟨(Reg.GCTL_LMAP i), 8 * k + 7, 8 * k + 0⟩
/-- TIME PICK (R62). -/
def Reg.TIME_PICK : Nat := 0x30000
/-- Field PICK. -/
def Reg.TIME_PICK_PICK : Fld := ⟨Reg.TIME_PICK, 63, 0⟩
/-- TIME NOW (R62). -/
def Reg.TIME_NOW : Nat := 0x30008
/-- Field FRAC. -/
def Reg.TIME_NOW_FRAC : Fld := ⟨Reg.TIME_NOW, 15, 0⟩
/-- Field PICK_LO. -/
def Reg.TIME_NOW_PICK_LO : Fld := ⟨Reg.TIME_NOW, 63, 16⟩
/-- TIME SYNC_STAT (R62). -/
def Reg.TIME_SYNC_STAT : Nat := 0x30010
/-- Field STATE. -/
def Reg.TIME_SYNC_STAT_STATE : Fld := ⟨Reg.TIME_SYNC_STAT, 2, 0⟩
/-- Field GM_CAPABLE. -/
def Reg.TIME_SYNC_STAT_GM_CAPABLE : Fld := ⟨Reg.TIME_SYNC_STAT, 3, 3⟩
/-- Field PARENT_PORT. -/
def Reg.TIME_SYNC_STAT_PARENT_PORT : Fld := ⟨Reg.TIME_SYNC_STAT, 12, 8⟩
/-- Field HOPS. -/
def Reg.TIME_SYNC_STAT_HOPS : Fld := ⟨Reg.TIME_SYNC_STAT, 20, 16⟩
/-- TIME GM_ID_LO (R62). -/
def Reg.TIME_GM_ID_LO : Nat := 0x30018
/-- Field ID_LO. -/
def Reg.TIME_GM_ID_LO_ID_LO : Fld := ⟨Reg.TIME_GM_ID_LO, 63, 0⟩
/-- TIME GM_ID_HI (R62). -/
def Reg.TIME_GM_ID_HI : Nat := 0x30020
/-- Field ID_HI. -/
def Reg.TIME_GM_ID_HI_ID_HI : Fld := ⟨Reg.TIME_GM_ID_HI, 63, 0⟩
/-- TIME PRIO (R62). -/
def Reg.TIME_PRIO : Nat := 0x30028
/-- Field OWN_PRIORITY. -/
def Reg.TIME_PRIO_OWN_PRIORITY : Fld := ⟨Reg.TIME_PRIO, 7, 0⟩
/-- Field GM_PRIORITY. -/
def Reg.TIME_PRIO_GM_PRIORITY : Fld := ⟨Reg.TIME_PRIO, 15, 8⟩
/-- TIME OFFSET (R62). -/
def Reg.TIME_OFFSET : Nat := 0x30030
/-- Field OFFSET. -/
def Reg.TIME_OFFSET_OFFSET : Fld := ⟨Reg.TIME_OFFSET, 31, 0⟩
/-- TIME PATH_DELAY (R62). -/
def Reg.TIME_PATH_DELAY : Nat := 0x30038
/-- Field DELAY. -/
def Reg.TIME_PATH_DELAY_DELAY : Fld := ⟨Reg.TIME_PATH_DELAY, 31, 0⟩
/-- TIME FREQ_ADJ (R62). -/
def Reg.TIME_FREQ_ADJ : Nat := 0x30040
/-- Field ADJ. -/
def Reg.TIME_FREQ_ADJ_ADJ : Fld := ⟨Reg.TIME_FREQ_ADJ, 31, 0⟩
/-- TIME HOLDOVER_LIMIT (R62). -/
def Reg.TIME_HOLDOVER_LIMIT : Nat := 0x30048
/-- Field LIMIT. -/
def Reg.TIME_HOLDOVER_LIMIT_LIMIT : Fld := ⟨Reg.TIME_HOLDOVER_LIMIT, 47, 0⟩
/-- TIME HOLDOVER_ELAPSED (R62). -/
def Reg.TIME_HOLDOVER_ELAPSED : Nat := 0x30050
/-- Field ELAPSED. -/
def Reg.TIME_HOLDOVER_ELAPSED_ELAPSED : Fld := ⟨Reg.TIME_HOLDOVER_ELAPSED, 47, 0⟩
/-- TIME TOD_SEC (R62). -/
def Reg.TIME_TOD_SEC : Nat := 0x30058
/-- Field SEC. -/
def Reg.TIME_TOD_SEC_SEC : Fld := ⟨Reg.TIME_TOD_SEC, 47, 0⟩
/-- TIME TOD_CTL (R62). -/
def Reg.TIME_TOD_CTL : Nat := 0x30060
/-- Field ARM. -/
def Reg.TIME_TOD_CTL_ARM : Fld := ⟨Reg.TIME_TOD_CTL, 0, 0⟩
/-- Field PPS_PRESENT. -/
def Reg.TIME_TOD_CTL_PPS_PRESENT : Fld := ⟨Reg.TIME_TOD_CTL, 1, 1⟩
/-- Field TOD_SET. -/
def Reg.TIME_TOD_CTL_TOD_SET : Fld := ⟨Reg.TIME_TOD_CTL, 2, 2⟩
/-- TIME EVENTS (R62). -/
def Reg.TIME_EVENTS : Nat := 0x30068
/-- Field LOCKED_LOST. -/
def Reg.TIME_EVENTS_LOCKED_LOST : Fld := ⟨Reg.TIME_EVENTS, 0, 0⟩
/-- Field GM_CHANGED. -/
def Reg.TIME_EVENTS_GM_CHANGED : Fld := ⟨Reg.TIME_EVENTS, 1, 1⟩
/-- Field HOLDOVER_ENTERED. -/
def Reg.TIME_EVENTS_HOLDOVER_ENTERED : Fld := ⟨Reg.TIME_EVENTS, 2, 2⟩
/-- Field UNSYNC_ENTERED. -/
def Reg.TIME_EVENTS_UNSYNC_ENTERED : Fld := ⟨Reg.TIME_EVENTS, 3, 3⟩
/-- Field PARENT_CHANGED. -/
def Reg.TIME_EVENTS_PARENT_CHANGED : Fld := ⟨Reg.TIME_EVENTS, 4, 4⟩
/-- Field TOD_REFUSED. -/
def Reg.TIME_EVENTS_TOD_REFUSED : Fld := ⟨Reg.TIME_EVENTS, 5, 5⟩
/-- TIME GM_CHANGES (R62). -/
def Reg.TIME_GM_CHANGES : Nat := 0x30070
/-- Field COUNT. -/
def Reg.TIME_GM_CHANGES_COUNT : Fld := ⟨Reg.TIME_GM_CHANGES, 31, 0⟩
/-- TIME DISCARDS (R62). -/
def Reg.TIME_DISCARDS : Nat := 0x30078
/-- Field COUNT. -/
def Reg.TIME_DISCARDS_COUNT : Fld := ⟨Reg.TIME_DISCARDS, 31, 0⟩
/-- TIME LATE_PICKS (R62). -/
def Reg.TIME_LATE_PICKS : Nat := 0x30080
/-- Field COUNT. -/
def Reg.TIME_LATE_PICKS_COUNT : Fld := ⟨Reg.TIME_LATE_PICKS, 31, 0⟩
/-- TIME PTIME p (R62). -/
def Reg.TIME_PTIME (i : Nat) : Nat := 0x30100 + 0x8 * i
/-- Field ASYM. -/
def Reg.TIME_PTIME_ASYM (i : Nat) : Fld := ⟨(Reg.TIME_PTIME i), 31, 0⟩
/-- Field ROLE. -/
def Reg.TIME_PTIME_ROLE (i : Nat) : Fld := ⟨(Reg.TIME_PTIME i), 33, 32⟩
/-- LOOM FLAGS c (R96). -/
def Reg.LOOM_FLAGS (x : Nat) (i : Nat) : Nat := 0x800100 + 0x8000 * x + 0x8 * i
/-- Field ARRAY. -/
def Reg.LOOM_FLAGS_ARRAY (x : Nat) (i : Nat) : Fld := ⟨(Reg.LOOM_FLAGS x i), 4, 0⟩
/-- Field VECTOR. -/
def Reg.LOOM_FLAGS_VECTOR (x : Nat) (i : Nat) : Fld := ⟨(Reg.LOOM_FLAGS x i), 12, 8⟩
/-- Field QUANT. -/
def Reg.LOOM_FLAGS_QUANT (x : Nat) (i : Nat) : Fld := ⟨(Reg.LOOM_FLAGS x i), 20, 16⟩
/-- Field FULL. -/
def Reg.LOOM_FLAGS_FULL (x : Nat) (i : Nat) : Fld := ⟨(Reg.LOOM_FLAGS x i), 28, 24⟩
/-- LOOM LOOM_ID (R135). -/
def Reg.LOOM_LOOM_ID (x : Nat) : Nat := 0x800000 + 0x8000 * x
/-- Field LOGICAL. -/
def Reg.LOOM_LOOM_ID_LOGICAL (x : Nat) : Fld := ⟨(Reg.LOOM_LOOM_ID x), 6, 0⟩
/-- Field PHYS. -/
def Reg.LOOM_LOOM_ID_PHYS (x : Nat) : Fld := ⟨(Reg.LOOM_LOOM_ID x), 12, 8⟩
/-- Field DIE. -/
def Reg.LOOM_LOOM_ID_DIE (x : Nat) : Fld := ⟨(Reg.LOOM_LOOM_ID x), 17, 16⟩
/-- Field SPARE. -/
def Reg.LOOM_LOOM_ID_SPARE (x : Nat) : Fld := ⟨(Reg.LOOM_LOOM_ID x), 18, 18⟩
/-- LOOM OWN (R135). -/
def Reg.LOOM_OWN (x : Nat) : Nat := 0x800008 + 0x8000 * x
/-- Field CTX0. -/
def Reg.LOOM_OWN_CTX0 (x : Nat) : Fld := ⟨(Reg.LOOM_OWN x), 1, 0⟩
/-- Field OWNED0. -/
def Reg.LOOM_OWN_OWNED0 (x : Nat) : Fld := ⟨(Reg.LOOM_OWN x), 2, 2⟩
/-- Field CTX1. -/
def Reg.LOOM_OWN_CTX1 (x : Nat) : Fld := ⟨(Reg.LOOM_OWN x), 5, 4⟩
/-- Field OWNED1. -/
def Reg.LOOM_OWN_OWNED1 (x : Nat) : Fld := ⟨(Reg.LOOM_OWN x), 6, 6⟩
/-- Field FULL. -/
def Reg.LOOM_OWN_FULL (x : Nat) : Fld := ⟨(Reg.LOOM_OWN x), 7, 7⟩
/-- LOOM PLANES (R135). -/
def Reg.LOOM_PLANES (x : Nat) : Nat := 0x800010 + 0x8000 * x
/-- Field P0_LOADED, by index. -/
def Reg.LOOM_PLANES_P0_LOADED (x : Nat) (k : Nat) : Fld := ⟨(Reg.LOOM_PLANES x), 8 * k + 0, 8 * k + 0⟩
/-- Field P1_LOADED, by index. -/
def Reg.LOOM_PLANES_P1_LOADED (x : Nat) (k : Nat) : Fld := ⟨(Reg.LOOM_PLANES x), 8 * k + 1, 8 * k + 1⟩
/-- Field RECENT, by index. -/
def Reg.LOOM_PLANES_RECENT (x : Nat) (k : Nat) : Fld := ⟨(Reg.LOOM_PLANES x), 8 * k + 2, 8 * k + 2⟩
/-- Field MODE, by index. -/
def Reg.LOOM_PLANES_MODE (x : Nat) (k : Nat) : Fld := ⟨(Reg.LOOM_PLANES x), 8 * k + 4, 8 * k + 3⟩
/-- LOOM ACCh (R135). -/
def Reg.LOOM_ACC (x : Nat) (i : Nat) : Nat := 0x800018 + 0x8000 * x + 0x10 * i
/-- Field OPEN. -/
def Reg.LOOM_ACC_OPEN (x : Nat) (i : Nat) : Fld := ⟨(Reg.LOOM_ACC x i), 0, 0⟩
/-- Field DISCARDED. -/
def Reg.LOOM_ACC_DISCARDED (x : Nat) (i : Nat) : Fld := ⟨(Reg.LOOM_ACC x i), 1, 1⟩
/-- Field BC. -/
def Reg.LOOM_ACC_BC (x : Nat) (i : Nat) : Fld := ⟨(Reg.LOOM_ACC x i), 2, 2⟩
/-- Field CM1. -/
def Reg.LOOM_ACC_CM1 (x : Nat) (i : Nat) : Fld := ⟨(Reg.LOOM_ACC x i), 8, 3⟩
/-- Field ROWS. -/
def Reg.LOOM_ACC_ROWS (x : Nat) (i : Nat) : Fld := ⟨(Reg.LOOM_ACC x i), 18, 9⟩
/-- Field MODE. -/
def Reg.LOOM_ACC_MODE (x : Nat) (i : Nat) : Fld := ⟨(Reg.LOOM_ACC x i), 20, 19⟩
/-- Field NT_LO. -/
def Reg.LOOM_ACC_NT_LO (x : Nat) (i : Nat) : Fld := ⟨(Reg.LOOM_ACC x i), 63, 32⟩
/-- LOOM ACCh_KT (R135). -/
def Reg.LOOM_ACC_KT (x : Nat) (i : Nat) : Nat := 0x800020 + 0x8000 * x + 0x10 * i
/-- Field NEXT_KT. -/
def Reg.LOOM_ACC_KT_NEXT_KT (x : Nat) (i : Nat) : Fld := ⟨(Reg.LOOM_ACC_KT x i), 63, 0⟩
/-- LOOM EPICFG c.e (R183). -/
def Reg.LOOM_EPICFG (x : Nat) (i : Nat) (j : Nat) : Nat := 0x800800 + 0x8000 * x + 0x80 * i + 0x8 * j
/-- Field ACT. -/
def Reg.LOOM_EPICFG_ACT (x : Nat) (i : Nat) (j : Nat) : Fld := ⟨(Reg.LOOM_EPICFG x i j), 2, 0⟩
/-- Field RND. -/
def Reg.LOOM_EPICFG_RND (x : Nat) (i : Nat) (j : Nat) : Fld := ⟨(Reg.LOOM_EPICFG x i j), 3, 3⟩
/-- Field SCL. -/
def Reg.LOOM_EPICFG_SCL (x : Nat) (i : Nat) (j : Nat) : Fld := ⟨(Reg.LOOM_EPICFG x i j), 4, 4⟩
/-- Field BIAS. -/
def Reg.LOOM_EPICFG_BIAS (x : Nat) (i : Nat) (j : Nat) : Fld := ⟨(Reg.LOOM_EPICFG x i j), 5, 5⟩
/-- Field STATS. -/
def Reg.LOOM_EPICFG_STATS (x : Nat) (i : Nat) (j : Nat) : Fld := ⟨(Reg.LOOM_EPICFG x i j), 6, 6⟩
/-- Field SVEC. -/
def Reg.LOOM_EPICFG_SVEC (x : Nat) (i : Nat) (j : Nat) : Fld := ⟨(Reg.LOOM_EPICFG x i j), 31, 16⟩
/-- Field BVEC. -/
def Reg.LOOM_EPICFG_BVEC (x : Nat) (i : Nat) (j : Nat) : Fld := ⟨(Reg.LOOM_EPICFG x i j), 47, 32⟩
/-- Field QSC. -/
def Reg.LOOM_EPICFG_QSC (x : Nat) (i : Nat) (j : Nat) : Fld := ⟨(Reg.LOOM_EPICFG x i j), 63, 48⟩
/-- LOOM WATCH i (R183). -/
def Reg.LOOM_WATCH (x : Nat) (i : Nat) : Nat := 0x800a00 + 0x8000 * x + 0x8 * i
/-- Field CHANNEL0. -/
def Reg.LOOM_WATCH_CHANNEL0 (x : Nat) (i : Nat) : Fld := ⟨(Reg.LOOM_WATCH x i), 27, 0⟩
/-- Field CTX0. -/
def Reg.LOOM_WATCH_CTX0 (x : Nat) (i : Nat) : Fld := ⟨(Reg.LOOM_WATCH x i), 29, 28⟩
/-- Field VALID0. -/
def Reg.LOOM_WATCH_VALID0 (x : Nat) (i : Nat) : Fld := ⟨(Reg.LOOM_WATCH x i), 31, 31⟩
/-- Field CHANNEL1. -/
def Reg.LOOM_WATCH_CHANNEL1 (x : Nat) (i : Nat) : Fld := ⟨(Reg.LOOM_WATCH x i), 59, 32⟩
/-- Field CTX1. -/
def Reg.LOOM_WATCH_CTX1 (x : Nat) (i : Nat) : Fld := ⟨(Reg.LOOM_WATCH x i), 61, 60⟩
/-- Field VALID1. -/
def Reg.LOOM_WATCH_VALID1 (x : Nat) (i : Nat) : Fld := ⟨(Reg.LOOM_WATCH x i), 63, 63⟩
/-- LOOM CLAMP c (R183). -/
def Reg.LOOM_CLAMP (x : Nat) (i : Nat) : Nat := 0x800b00 + 0x8000 * x + 0x8 * i
/-- Field LO. -/
def Reg.LOOM_CLAMP_LO (x : Nat) (i : Nat) : Fld := ⟨(Reg.LOOM_CLAMP x i), 31, 0⟩
/-- Field HI. -/
def Reg.LOOM_CLAMP_HI (x : Nat) (i : Nat) : Fld := ⟨(Reg.LOOM_CLAMP x i), 63, 32⟩
/-- LOOM STATCTL c (R183). -/
def Reg.LOOM_STATCTL (x : Nat) (i : Nat) : Nat := 0x800b20 + 0x8000 * x + 0x8 * i
/-- Field STH. -/
def Reg.LOOM_STATCTL_STH (x : Nat) (i : Nat) : Fld := ⟨(Reg.LOOM_STATCTL x i), 15, 0⟩
/-- Field SGH. -/
def Reg.LOOM_STATCTL_SGH (x : Nat) (i : Nat) : Fld := ⟨(Reg.LOOM_STATCTL x i), 31, 16⟩
/-- Field VALID. -/
def Reg.LOOM_STATCTL_VALID (x : Nat) (i : Nat) : Fld := ⟨(Reg.LOOM_STATCTL x i), 32, 32⟩
/-- LOOM GEN c (R183). -/
def Reg.LOOM_GEN (x : Nat) (i : Nat) : Nat := 0x800b40 + 0x8000 * x + 0x8 * i
/-- Field STEPCTR. -/
def Reg.LOOM_GEN_STEPCTR (x : Nat) (i : Nat) : Fld := ⟨(Reg.LOOM_GEN x i), 3, 0⟩
/-- LOOM VDROP c (R206). -/
def Reg.LOOM_VDROP (x : Nat) (i : Nat) : Nat := 0x800c00 + 0x8000 * x + 0x20 * i
/-- Field THRESH. -/
def Reg.LOOM_VDROP_THRESH (x : Nat) (i : Nat) : Fld := ⟨(Reg.LOOM_VDROP x i), 15, 0⟩
/-- Field STREAM. -/
def Reg.LOOM_VDROP_STREAM (x : Nat) (i : Nat) : Fld := ⟨(Reg.LOOM_VDROP x i), 39, 16⟩
/-- LOOM VDSCALE c (R206). -/
def Reg.LOOM_VDSCALE (x : Nat) (i : Nat) : Nat := 0x800c08 + 0x8000 * x + 0x20 * i
/-- Field KEEP_SCALE. -/
def Reg.LOOM_VDSCALE_KEEP_SCALE (x : Nat) (i : Nat) : Fld := ⟨(Reg.LOOM_VDSCALE x i), 31, 0⟩
/-- LOOM VSTAT c (R206). -/
def Reg.LOOM_VSTAT (x : Nat) (i : Nat) : Nat := 0x800c10 + 0x8000 * x + 0x20 * i
/-- Field SKEINS. -/
def Reg.LOOM_VSTAT_SKEINS (x : Nat) (i : Nat) : Fld := ⟨(Reg.LOOM_VSTAT x i), 8, 0⟩
/-- Field INFLIGHT. -/
def Reg.LOOM_VSTAT_INFLIGHT (x : Nat) (i : Nat) : Fld := ⟨(Reg.LOOM_VSTAT x i), 19, 16⟩
/-- Field HELD. -/
def Reg.LOOM_VSTAT_HELD (x : Nat) (i : Nat) : Fld := ⟨(Reg.LOOM_VSTAT x i), 20, 20⟩
/-- LOOM VRES (R206). -/
def Reg.LOOM_VRES (x : Nat) : Nat := 0x800c80 + 0x8000 * x
/-- Field FREE. -/
def Reg.LOOM_VRES_FREE (x : Nat) : Fld := ⟨(Reg.LOOM_VRES x), 8, 0⟩
/-- Field GUARANTEE. -/
def Reg.LOOM_VRES_GUARANTEE (x : Nat) : Fld := ⟨(Reg.LOOM_VRES x), 21, 16⟩
/-- LOOM PGEN i (R247). -/
def Reg.LOOM_PGEN (x : Nat) (i : Nat) : Nat := 0x800400 + 0x8000 * x + 0x8 * i
/-- Field GEN, by index. -/
def Reg.LOOM_PGEN_GEN (x : Nat) (i : Nat) (k : Nat) : Fld := ⟨(Reg.LOOM_PGEN x i), 8 * k + 7, 8 * k + 0⟩
/-- LOOM IMLD_SRC (R247). -/
def Reg.LOOM_IMLD_SRC (x : Nat) : Nat := 0x800440 + 0x8000 * x
/-- Field ADDR. -/
def Reg.LOOM_IMLD_SRC_ADDR (x : Nat) : Fld := ⟨(Reg.LOOM_IMLD_SRC x), 63, 0⟩
/-- LOOM IMLD_CTL (R247). -/
def Reg.LOOM_IMLD_CTL (x : Nat) : Nat := 0x800448 + 0x8000 * x
/-- Field PAGE. -/
def Reg.LOOM_IMLD_CTL_PAGE (x : Nat) : Fld := ⟨(Reg.LOOM_IMLD_CTL x), 5, 0⟩
/-- Field COUNT. -/
def Reg.LOOM_IMLD_CTL_COUNT (x : Nat) : Fld := ⟨(Reg.LOOM_IMLD_CTL x), 12, 6⟩
/-- Field GO. -/
def Reg.LOOM_IMLD_CTL_GO (x : Nat) : Fld := ⟨(Reg.LOOM_IMLD_CTL x), 16, 16⟩
/-- Field FORCE. -/
def Reg.LOOM_IMLD_CTL_FORCE (x : Nat) : Fld := ⟨(Reg.LOOM_IMLD_CTL x), 17, 17⟩
/-- LOOM IMLD_STAT (R247). -/
def Reg.LOOM_IMLD_STAT (x : Nat) : Nat := 0x800450 + 0x8000 * x
/-- Field PENDING. -/
def Reg.LOOM_IMLD_STAT_PENDING (x : Nat) : Fld := ⟨(Reg.LOOM_IMLD_STAT x), 0, 0⟩
/-- Field BUSY. -/
def Reg.LOOM_IMLD_STAT_BUSY (x : Nat) : Fld := ⟨(Reg.LOOM_IMLD_STAT x), 1, 1⟩
/-- Field DONE. -/
def Reg.LOOM_IMLD_STAT_DONE (x : Nat) : Fld := ⟨(Reg.LOOM_IMLD_STAT x), 2, 2⟩
/-- Field FORCED. -/
def Reg.LOOM_IMLD_STAT_FORCED (x : Nat) : Fld := ⟨(Reg.LOOM_IMLD_STAT x), 3, 3⟩
/-- Field REFUSED. -/
def Reg.LOOM_IMLD_STAT_REFUSED (x : Nat) : Fld := ⟨(Reg.LOOM_IMLD_STAT x), 4, 4⟩
/-- LOOM MVSTAT c (R284). -/
def Reg.LOOM_MVSTAT (x : Nat) (i : Nat) : Nat := 0x801000 + 0x8000 * x + 0x10 * i
/-- Field BLOCKS. -/
def Reg.LOOM_MVSTAT_BLOCKS (x : Nat) (i : Nat) : Fld := ⟨(Reg.LOOM_MVSTAT x i), 31, 0⟩
/-- Field VANISH. -/
def Reg.LOOM_MVSTAT_VANISH (x : Nat) (i : Nat) : Fld := ⟨(Reg.LOOM_MVSTAT x i), 47, 32⟩
/-- Field DEGEN. -/
def Reg.LOOM_MVSTAT_DEGEN (x : Nat) (i : Nat) : Fld := ⟨(Reg.LOOM_MVSTAT x i), 63, 48⟩
/-- LOOM MVSTAT2 c (R284). -/
def Reg.LOOM_MVSTAT2 (x : Nat) (i : Nat) : Nat := 0x801008 + 0x8000 * x + 0x10 * i
/-- Field CLIP. -/
def Reg.LOOM_MVSTAT2_CLIP (x : Nat) (i : Nat) : Fld := ⟨(Reg.LOOM_MVSTAT2 x i), 15, 0⟩
/-- Field INV_SRC. -/
def Reg.LOOM_MVSTAT2_INV_SRC (x : Nat) (i : Nat) : Fld := ⟨(Reg.LOOM_MVSTAT2 x i), 31, 16⟩
/-- LOOM MVBUSY (R284). -/
def Reg.LOOM_MVBUSY (x : Nat) : Nat := 0x801080 + 0x8000 * x
/-- Field INFLIGHT, by index. -/
def Reg.LOOM_MVBUSY_INFLIGHT (x : Nat) (k : Nat) : Fld := ⟨(Reg.LOOM_MVBUSY x), 4 * k + 3, 4 * k + 0⟩
/-- LOOM DIG_BASE c (R409). -/
def Reg.LOOM_DIG_BASE (x : Nat) (i : Nat) : Nat := 0x801400 + 0x8000 * x + 0x20 * i
/-- Field BASE. -/
def Reg.LOOM_DIG_BASE_BASE (x : Nat) (i : Nat) : Fld := ⟨(Reg.LOOM_DIG_BASE x i), 63, 0⟩
/-- LOOM DIG_CTL c (R409). -/
def Reg.LOOM_DIG_CTL (x : Nat) (i : Nat) : Nat := 0x801408 + 0x8000 * x + 0x20 * i
/-- Field EN. -/
def Reg.LOOM_DIG_CTL_EN (x : Nat) (i : Nat) : Fld := ⟨(Reg.LOOM_DIG_CTL x i), 0, 0⟩
/-- Field LOG2N. -/
def Reg.LOOM_DIG_CTL_LOG2N (x : Nat) (i : Nat) : Fld := ⟨(Reg.LOOM_DIG_CTL x i), 5, 1⟩
/-- Field WPTR. -/
def Reg.LOOM_DIG_CTL_WPTR (x : Nat) (i : Nat) : Fld := ⟨(Reg.LOOM_DIG_CTL x i), 63, 32⟩
/-- CTX CSTATE (R246). -/
def Reg.CTX_CSTATE (x : Nat) : Nat := 0x100000 + 0x1000 * x
/-- Field STATE. -/
def Reg.CTX_CSTATE_STATE (x : Nat) : Fld := ⟨(Reg.CTX_CSTATE x), 2, 0⟩
/-- Field PACED. -/
def Reg.CTX_CSTATE_PACED (x : Nat) : Fld := ⟨(Reg.CTX_CSTATE x), 3, 3⟩
/-- Field IN_PROG. -/
def Reg.CTX_CSTATE_IN_PROG (x : Nat) : Fld := ⟨(Reg.CTX_CSTATE x), 4, 4⟩
/-- Field LDEPTH. -/
def Reg.CTX_CSTATE_LDEPTH (x : Nat) : Fld := ⟨(Reg.CTX_CSTATE x), 7, 5⟩
/-- Field ENTRY. -/
def Reg.CTX_CSTATE_ENTRY (x : Nat) : Fld := ⟨(Reg.CTX_CSTATE x), 9, 8⟩
/-- Field RES_VALID. -/
def Reg.CTX_CSTATE_RES_VALID (x : Nat) : Fld := ⟨(Reg.CTX_CSTATE x), 10, 10⟩
/-- CTX CCTL (R246). -/
def Reg.CTX_CCTL (x : Nat) : Nat := 0x100008 + 0x1000 * x
/-- Field STOP. -/
def Reg.CTX_CCTL_STOP (x : Nat) : Fld := ⟨(Reg.CTX_CCTL x), 0, 0⟩
/-- Field RESUME. -/
def Reg.CTX_CCTL_RESUME (x : Nat) : Fld := ⟨(Reg.CTX_CCTL x), 1, 1⟩
/-- Field FORCE_PACED. -/
def Reg.CTX_CCTL_FORCE_PACED (x : Nat) : Fld := ⟨(Reg.CTX_CCTL x), 2, 2⟩
/-- CTX BUDGET (R246). -/
def Reg.CTX_BUDGET (x : Nat) : Nat := 0x100010 + 0x1000 * x
/-- Field SLACK. -/
def Reg.CTX_BUDGET_SLACK (x : Nat) : Fld := ⟨(Reg.CTX_BUDGET x), 23, 0⟩
/-- Field WAIT_LIMIT. -/
def Reg.CTX_BUDGET_WAIT_LIMIT (x : Nat) : Fld := ⟨(Reg.CTX_BUDGET x), 47, 24⟩
/-- CTX LAST_RETIRED (R246). -/
def Reg.CTX_LAST_RETIRED (x : Nat) : Nat := 0x100018 + 0x1000 * x
/-- Field TAG. -/
def Reg.CTX_LAST_RETIRED_TAG (x : Nat) : Fld := ⟨(Reg.CTX_LAST_RETIRED x), 23, 0⟩
/-- Field STREAM. -/
def Reg.CTX_LAST_RETIRED_STREAM (x : Nat) : Fld := ⟨(Reg.CTX_LAST_RETIRED x), 27, 24⟩
/-- CTX FAULT_INFO (R246). -/
def Reg.CTX_FAULT_INFO (x : Nat) : Nat := 0x100020 + 0x1000 * x
/-- Field CODE. -/
def Reg.CTX_FAULT_INFO_CODE (x : Nat) : Fld := ⟨(Reg.CTX_FAULT_INFO x), 15, 0⟩
/-- Field SLOT. -/
def Reg.CTX_FAULT_INFO_SLOT (x : Nat) : Fld := ⟨(Reg.CTX_FAULT_INFO x), 18, 16⟩
/-- Field STREAM. -/
def Reg.CTX_FAULT_INFO_STREAM (x : Nat) : Fld := ⟨(Reg.CTX_FAULT_INFO x), 22, 19⟩
/-- Field TAG. -/
def Reg.CTX_FAULT_INFO_TAG (x : Nat) : Fld := ⟨(Reg.CTX_FAULT_INFO x), 47, 24⟩
/-- CTX CQ_BASE (R246). -/
def Reg.CTX_CQ_BASE (x : Nat) : Nat := 0x100028 + 0x1000 * x
/-- Field BASE. -/
def Reg.CTX_CQ_BASE_BASE (x : Nat) : Fld := ⟨(Reg.CTX_CQ_BASE x), 63, 0⟩
/-- CTX CQ_CTL (R246). -/
def Reg.CTX_CQ_CTL (x : Nat) : Nat := 0x100030 + 0x1000 * x
/-- Field LOG2N. -/
def Reg.CTX_CQ_CTL_LOG2N (x : Nat) : Fld := ⟨(Reg.CTX_CQ_CTL x), 4, 0⟩
/-- Field WPTR. -/
def Reg.CTX_CQ_CTL_WPTR (x : Nat) : Fld := ⟨(Reg.CTX_CQ_CTL x), 63, 32⟩
/-- CTX DESC_COMMIT (R246). -/
def Reg.CTX_DESC_COMMIT (x : Nat) : Nat := 0x100040 + 0x1000 * x
/-- Field INDEX. -/
def Reg.CTX_DESC_COMMIT_INDEX (x : Nat) : Fld := ⟨(Reg.CTX_DESC_COMMIT x), 11, 0⟩
/-- Field CLEAR_POISON. -/
def Reg.CTX_DESC_COMMIT_CLEAR_POISON (x : Nat) : Fld := ⟨(Reg.CTX_DESC_COMMIT x), 12, 12⟩
/-- Field READ. -/
def Reg.CTX_DESC_COMMIT_READ (x : Nat) : Fld := ⟨(Reg.CTX_DESC_COMMIT x), 13, 13⟩
/-- CTX DESC_STAT (R246). -/
def Reg.CTX_DESC_STAT (x : Nat) : Nat := 0x100048 + 0x1000 * x
/-- Field INDEX. -/
def Reg.CTX_DESC_STAT_INDEX (x : Nat) : Fld := ⟨(Reg.CTX_DESC_STAT x), 11, 0⟩
/-- Field GEN. -/
def Reg.CTX_DESC_STAT_GEN (x : Nat) : Fld := ⟨(Reg.CTX_DESC_STAT x), 15, 12⟩
/-- Field DONE. -/
def Reg.CTX_DESC_STAT_DONE (x : Nat) : Fld := ⟨(Reg.CTX_DESC_STAT x), 16, 16⟩
/-- Field REFUSED. -/
def Reg.CTX_DESC_STAT_REFUSED (x : Nat) : Fld := ⟨(Reg.CTX_DESC_STAT x), 17, 17⟩
/-- CTX DSTAGE w (R246). -/
def Reg.CTX_DSTAGE (x : Nat) (i : Nat) : Nat := 0x100080 + 0x1000 * x + 0x8 * i
/-- Field WORD. -/
def Reg.CTX_DSTAGE_WORD (x : Nat) (i : Nat) : Fld := ⟨(Reg.CTX_DSTAGE x i), 63, 0⟩
/-- CTX CNT i (R246). -/
def Reg.CTX_CNT (x : Nat) (i : Nat) : Nat := 0x100100 + 0x1000 * x + 0x8 * i
/-- Field VALUE. -/
def Reg.CTX_CNT_VALUE (x : Nat) (i : Nat) : Fld := ⟨(Reg.CTX_CNT x i), 31, 0⟩
/-- CTX CMPS (R246). -/
def Reg.CTX_CMPS (x : Nat) : Nat := 0x100180 + 0x1000 * x
/-- Field K. -/
def Reg.CTX_CMPS_K (x : Nat) : Fld := ⟨(Reg.CTX_CMPS x), 7, 0⟩
/-- CTX RING_BASE e (R246). -/
def Reg.CTX_RING_BASE (x : Nat) (i : Nat) : Nat := 0x100400 + 0x1000 * x + 0x300 * i
/-- Field BASE. -/
def Reg.CTX_RING_BASE_BASE (x : Nat) (i : Nat) : Fld := ⟨(Reg.CTX_RING_BASE x i), 63, 12⟩
/-- CTX RING_CTL e (R246). -/
def Reg.CTX_RING_CTL (x : Nat) (i : Nat) : Nat := 0x100408 + 0x1000 * x + 0x300 * i
/-- Field LOG2SIZE. -/
def Reg.CTX_RING_CTL_LOG2SIZE (x : Nat) (i : Nat) : Fld := ⟨(Reg.CTX_RING_CTL x i), 4, 0⟩
/-- Field ENABLE. -/
def Reg.CTX_RING_CTL_ENABLE (x : Nat) (i : Nat) : Fld := ⟨(Reg.CTX_RING_CTL x i), 8, 8⟩
/-- CTX DOORBELL e (R246). -/
def Reg.CTX_DOORBELL (x : Nat) (i : Nat) : Nat := 0x100410 + 0x1000 * x + 0x300 * i
/-- Field TAIL. -/
def Reg.CTX_DOORBELL_TAIL (x : Nat) (i : Nat) : Fld := ⟨(Reg.CTX_DOORBELL x i), 31, 0⟩
/-- Field ADDED. -/
def Reg.CTX_DOORBELL_ADDED (x : Nat) (i : Nat) : Fld := ⟨(Reg.CTX_DOORBELL x i), 47, 32⟩
/-- CTX HEAD e (R246). -/
def Reg.CTX_HEAD (x : Nat) (i : Nat) : Nat := 0x100418 + 0x1000 * x + 0x300 * i
/-- Field HEAD. -/
def Reg.CTX_HEAD_HEAD (x : Nat) (i : Nat) : Fld := ⟨(Reg.CTX_HEAD x i), 31, 0⟩
/-- CTX TAILR e (R246). -/
def Reg.CTX_TAILR (x : Nat) (i : Nat) : Nat := 0x100420 + 0x1000 * x + 0x300 * i
/-- Field TAIL. -/
def Reg.CTX_TAILR_TAIL (x : Nat) (i : Nat) : Fld := ⟨(Reg.CTX_TAILR x i), 31, 0⟩
/-- CTX RETIRED e (R246). -/
def Reg.CTX_RETIRED (x : Nat) (i : Nat) : Nat := 0x100428 + 0x1000 * x + 0x300 * i
/-- Field RETIRED. -/
def Reg.CTX_RETIRED_RETIRED (x : Nat) (i : Nat) : Fld := ⟨(Reg.CTX_RETIRED x i), 31, 0⟩
/-- CTX QUEUE e (R246). -/
def Reg.CTX_QUEUE (x : Nat) (i : Nat) : Nat := 0x100430 + 0x1000 * x + 0x300 * i
/-- Field PENDING. -/
def Reg.CTX_QUEUE_PENDING (x : Nat) (i : Nat) : Fld := ⟨(Reg.CTX_QUEUE x i), 15, 0⟩
/-- Field QDEPTH. -/
def Reg.CTX_QUEUE_QDEPTH (x : Nat) (i : Nat) : Fld := ⟨(Reg.CTX_QUEUE x i), 31, 16⟩
/-- CTX SSTATE e (R246). -/
def Reg.CTX_SSTATE (x : Nat) (i : Nat) : Nat := 0x100438 + 0x1000 * x + 0x300 * i
/-- Field STATE. -/
def Reg.CTX_SSTATE_STATE (x : Nat) (i : Nat) : Fld := ⟨(Reg.CTX_SSTATE x i), 2, 0⟩
/-- Field RESIDENT. -/
def Reg.CTX_SSTATE_RESIDENT (x : Nat) (i : Nat) : Fld := ⟨(Reg.CTX_SSTATE x i), 3, 3⟩
/-- CTX SEMADD e (R246). -/
def Reg.CTX_SEMADD (x : Nat) (i : Nat) : Nat := 0x100440 + 0x1000 * x + 0x300 * i
/-- Field SEM. -/
def Reg.CTX_SEMADD_SEM (x : Nat) (i : Nat) : Fld := ⟨(Reg.CTX_SEMADD x i), 5, 0⟩
/-- Field ADD. -/
def Reg.CTX_SEMADD_ADD (x : Nat) (i : Nat) : Fld := ⟨(Reg.CTX_SEMADD x i), 63, 32⟩
/-- CTX SEM e.s (R246). -/
def Reg.CTX_SEM (x : Nat) (i : Nat) (j : Nat) : Nat := 0x100500 + 0x1000 * x + 0x300 * i + 0x8 * j
/-- Field VALUE. -/
def Reg.CTX_SEM_VALUE (x : Nat) (i : Nat) (j : Nat) : Fld := ⟨(Reg.CTX_SEM x i j), 31, 0⟩
/-- HTAB ENTRY i.W0 (R283). -/
def Reg.HTAB_ENTRY_W0 (x : Nat) (i : Nat) : Nat := 0x400000 + 0x40000 * x + 0x10 * i
/-- Field W0. -/
def Reg.HTAB_ENTRY_W0_W0 (x : Nat) (i : Nat) : Fld := ⟨(Reg.HTAB_ENTRY_W0 x i), 63, 0⟩
/-- HTAB ENTRY i.W1 (R283). -/
def Reg.HTAB_ENTRY_W1 (x : Nat) (i : Nat) : Nat := 0x400008 + 0x40000 * x + 0x10 * i
/-- Field W1. -/
def Reg.HTAB_ENTRY_W1_W1 (x : Nat) (i : Nat) : Fld := ⟨(Reg.HTAB_ENTRY_W1 x i), 63, 0⟩
/-- HTAB HT_STAGE0 (R283). -/
def Reg.HTAB_HT_STAGE0 (x : Nat) : Nat := 0x404000 + 0x40000 * x
/-- Field W0. -/
def Reg.HTAB_HT_STAGE0_W0 (x : Nat) : Fld := ⟨(Reg.HTAB_HT_STAGE0 x), 63, 0⟩
/-- HTAB HT_STAGE1 (R283). -/
def Reg.HTAB_HT_STAGE1 (x : Nat) : Nat := 0x404008 + 0x40000 * x
/-- Field W1. -/
def Reg.HTAB_HT_STAGE1_W1 (x : Nat) : Fld := ⟨(Reg.HTAB_HT_STAGE1 x), 63, 0⟩
/-- HTAB HT_COMMIT (R283). -/
def Reg.HTAB_HT_COMMIT (x : Nat) : Nat := 0x404010 + 0x40000 * x
/-- Field INDEX. -/
def Reg.HTAB_HT_COMMIT_INDEX (x : Nat) : Fld := ⟨(Reg.HTAB_HT_COMMIT x), 9, 0⟩
/-- Field INVALIDATE. -/
def Reg.HTAB_HT_COMMIT_INVALIDATE (x : Nat) : Fld := ⟨(Reg.HTAB_HT_COMMIT x), 10, 10⟩
/-- HTAB HT_STAT (R283). -/
def Reg.HTAB_HT_STAT (x : Nat) : Nat := 0x404018 + 0x40000 * x
/-- Field INDEX. -/
def Reg.HTAB_HT_STAT_INDEX (x : Nat) : Fld := ⟨(Reg.HTAB_HT_STAT x), 9, 0⟩
/-- Field DONE. -/
def Reg.HTAB_HT_STAT_DONE (x : Nat) : Fld := ⟨(Reg.HTAB_HT_STAT x), 10, 10⟩
/-- Field REFUSED. -/
def Reg.HTAB_HT_STAT_REFUSED (x : Nat) : Fld := ⟨(Reg.HTAB_HT_STAT x), 11, 11⟩
/-- Field REASON. -/
def Reg.HTAB_HT_STAT_REASON (x : Nat) : Fld := ⟨(Reg.HTAB_HT_STAT x), 15, 12⟩
/-- HTAB BEAM_MODE (R283). -/
def Reg.HTAB_BEAM_MODE (x : Nat) : Nat := 0x404100 + 0x40000 * x
/-- Field CACHE. -/
def Reg.HTAB_BEAM_MODE_CACHE (x : Nat) : Fld := ⟨(Reg.HTAB_BEAM_MODE x), 5, 0⟩
/-- HTAB BEAM_STAT (R283). -/
def Reg.HTAB_BEAM_STAT (x : Nat) : Nat := 0x404108 + 0x40000 * x
/-- Field MODE. -/
def Reg.HTAB_BEAM_STAT_MODE (x : Nat) : Fld := ⟨(Reg.HTAB_BEAM_STAT x), 5, 0⟩
/-- Field BUSY. -/
def Reg.HTAB_BEAM_STAT_BUSY (x : Nat) : Fld := ⟨(Reg.HTAB_BEAM_STAT x), 6, 6⟩
/-- Field REFUSED. -/
def Reg.HTAB_BEAM_STAT_REFUSED (x : Nat) : Fld := ⟨(Reg.HTAB_BEAM_STAT x), 7, 7⟩
/-- HTAB BANKS b (R283). -/
def Reg.HTAB_BANKS (x : Nat) (i : Nat) : Nat := 0x404200 + 0x40000 * x + 0x8 * i
/-- Field STATE, by index. -/
def Reg.HTAB_BANKS_STATE (x : Nat) (i : Nat) (k : Nat) : Fld := ⟨(Reg.HTAB_BANKS x i), 2 * k + 1, 2 * k + 0⟩
/-- Field RESIDENT. -/
def Reg.HTAB_BANKS_RESIDENT (x : Nat) (i : Nat) : Fld := ⟨(Reg.HTAB_BANKS x i), 47, 32⟩
/-- HTAB HBM_STAT k (R283). -/
def Reg.HTAB_HBM_STAT (x : Nat) (i : Nat) : Nat := 0x404300 + 0x40000 * x + 0x20 * i
/-- Field TEMP_NOW. -/
def Reg.HTAB_HBM_STAT_TEMP_NOW (x : Nat) (i : Nat) : Fld := ⟨(Reg.HTAB_HBM_STAT x i), 7, 0⟩
/-- Field TEMP_TRAIN. -/
def Reg.HTAB_HBM_STAT_TEMP_TRAIN (x : Nat) (i : Nat) : Fld := ⟨(Reg.HTAB_HBM_STAT x i), 15, 8⟩
/-- Field TRAIN_DUE. -/
def Reg.HTAB_HBM_STAT_TRAIN_DUE (x : Nat) (i : Nat) : Fld := ⟨(Reg.HTAB_HBM_STAT x i), 16, 16⟩
/-- Field SPARED_CH. -/
def Reg.HTAB_HBM_STAT_SPARED_CH (x : Nat) (i : Nat) : Fld := ⟨(Reg.HTAB_HBM_STAT x i), 21, 17⟩
/-- Field SPARE_USED. -/
def Reg.HTAB_HBM_STAT_SPARE_USED (x : Nat) (i : Nat) : Fld := ⟨(Reg.HTAB_HBM_STAT x i), 22, 22⟩
/-- Field ROW_REPAIRS. -/
def Reg.HTAB_HBM_STAT_ROW_REPAIRS (x : Nat) (i : Nat) : Fld := ⟨(Reg.HTAB_HBM_STAT x i), 39, 24⟩
/-- HTAB HBM_CE k (R283). -/
def Reg.HTAB_HBM_CE (x : Nat) (i : Nat) : Nat := 0x404308 + 0x40000 * x + 0x20 * i
/-- Field COUNT. -/
def Reg.HTAB_HBM_CE_COUNT (x : Nat) (i : Nat) : Fld := ⟨(Reg.HTAB_HBM_CE x i), 31, 0⟩
/-- HTAB HBM_UE k (R283). -/
def Reg.HTAB_HBM_UE (x : Nat) (i : Nat) : Nat := 0x404310 + 0x40000 * x + 0x20 * i
/-- Field COUNT. -/
def Reg.HTAB_HBM_UE_COUNT (x : Nat) (i : Nat) : Fld := ⟨(Reg.HTAB_HBM_UE x i), 31, 0⟩
/-- HTAB HBM_TRAINS k (R283). -/
def Reg.HTAB_HBM_TRAINS (x : Nat) (i : Nat) : Nat := 0x404318 + 0x40000 * x + 0x20 * i
/-- Field COUNT. -/
def Reg.HTAB_HBM_TRAINS_COUNT (x : Nat) (i : Nat) : Fld := ⟨(Reg.HTAB_HBM_TRAINS x i), 31, 0⟩
/-- HTAB SRAM_CE (R283). -/
def Reg.HTAB_SRAM_CE (x : Nat) : Nat := 0x404400 + 0x40000 * x
/-- Field BOBBIN. -/
def Reg.HTAB_SRAM_CE_BOBBIN (x : Nat) : Fld := ⟨(Reg.HTAB_SRAM_CE x), 31, 0⟩
/-- Field BEAM. -/
def Reg.HTAB_SRAM_CE_BEAM (x : Nat) : Fld := ⟨(Reg.HTAB_SRAM_CE x), 63, 32⟩
/-- HTAB SRAM_UE (R283). -/
def Reg.HTAB_SRAM_UE (x : Nat) : Nat := 0x404408 + 0x40000 * x
/-- Field BOBBIN. -/
def Reg.HTAB_SRAM_UE_BOBBIN (x : Nat) : Fld := ⟨(Reg.HTAB_SRAM_UE x), 31, 0⟩
/-- Field BEAM. -/
def Reg.HTAB_SRAM_UE_BEAM (x : Nat) : Fld := ⟨(Reg.HTAB_SRAM_UE x), 63, 32⟩
/-- HTAB SCRUB (R283). -/
def Reg.HTAB_SCRUB (x : Nat) : Nat := 0x404410 + 0x40000 * x
/-- Field ENABLE. -/
def Reg.HTAB_SCRUB_ENABLE (x : Nat) : Fld := ⟨(Reg.HTAB_SCRUB x), 0, 0⟩
/-- FUL FP_STAGE i (R308). -/
def Reg.FUL_FP_STAGE (i : Nat) : Nat := 0xe00000 + 0x8 * i
/-- Field W0. -/
def Reg.FUL_FP_STAGE_W0 (i : Nat) : Fld := ⟨(Reg.FUL_FP_STAGE i), 31, 0⟩
/-- Field W1. -/
def Reg.FUL_FP_STAGE_W1 (i : Nat) : Fld := ⟨(Reg.FUL_FP_STAGE i), 63, 32⟩
/-- FUL FP_HDR (R308). -/
def Reg.FUL_FP_HDR : Nat := 0xe00080
/-- Field LEN. -/
def Reg.FUL_FP_HDR_LEN : Fld := ⟨Reg.FUL_FP_HDR, 5, 0⟩
/-- FUL FP_COMMIT (R308). -/
def Reg.FUL_FP_COMMIT : Nat := 0xe00088
/-- Field PROG. -/
def Reg.FUL_FP_COMMIT_PROG : Fld := ⟨Reg.FUL_FP_COMMIT, 5, 0⟩
/-- Field READ. -/
def Reg.FUL_FP_COMMIT_READ : Fld := ⟨Reg.FUL_FP_COMMIT, 6, 6⟩
/-- Field INVALIDATE. -/
def Reg.FUL_FP_COMMIT_INVALIDATE : Fld := ⟨Reg.FUL_FP_COMMIT, 7, 7⟩
/-- FUL FP_STAT (R308). -/
def Reg.FUL_FP_STAT : Nat := 0xe00090
/-- Field PROG. -/
def Reg.FUL_FP_STAT_PROG : Fld := ⟨Reg.FUL_FP_STAT, 5, 0⟩
/-- Field DONE. -/
def Reg.FUL_FP_STAT_DONE : Fld := ⟨Reg.FUL_FP_STAT, 6, 6⟩
/-- Field REFUSED. -/
def Reg.FUL_FP_STAT_REFUSED : Fld := ⟨Reg.FUL_FP_STAT, 7, 7⟩
/-- Field REASON. -/
def Reg.FUL_FP_STAT_REASON : Fld := ⟨Reg.FUL_FP_STAT, 10, 8⟩
/-- Field INSTR. -/
def Reg.FUL_FP_STAT_INSTR : Fld := ⟨Reg.FUL_FP_STAT, 15, 11⟩
/-- FUL FP_VALID (R308). -/
def Reg.FUL_FP_VALID : Nat := 0xe00098
/-- Field VALID. -/
def Reg.FUL_FP_VALID_VALID : Fld := ⟨Reg.FUL_FP_VALID, 63, 0⟩
/-- FUL TKEY0 (R308). -/
def Reg.FUL_TKEY0 : Nat := 0xe00100
/-- Field KEY. -/
def Reg.FUL_TKEY0_KEY : Fld := ⟨Reg.FUL_TKEY0, 63, 0⟩
/-- FUL TKEY1 (R308). -/
def Reg.FUL_TKEY1 : Nat := 0xe00108
/-- Field KEY. -/
def Reg.FUL_TKEY1_KEY : Fld := ⟨Reg.FUL_TKEY1, 63, 0⟩
/-- FUL FSTAT d (R308). -/
def Reg.FUL_FSTAT (i : Nat) : Nat := 0xe00200 + 0x100 * i
/-- Field BUSY. -/
def Reg.FUL_FSTAT_BUSY (i : Nat) : Fld := ⟨(Reg.FUL_FSTAT i), 0, 0⟩
/-- Field PASS. -/
def Reg.FUL_FSTAT_PASS (i : Nat) : Fld := ⟨(Reg.FUL_FSTAT i), 2, 1⟩
/-- Field LOOM. -/
def Reg.FUL_FSTAT_LOOM (i : Nat) : Fld := ⟨(Reg.FUL_FSTAT i), 9, 3⟩
/-- Field CTX. -/
def Reg.FUL_FSTAT_CTX (i : Nat) : Fld := ⟨(Reg.FUL_FSTAT i), 11, 10⟩
/-- Field STREAM. -/
def Reg.FUL_FSTAT_STREAM (i : Nat) : Fld := ⟨(Reg.FUL_FSTAT i), 15, 12⟩
/-- Field HELD. -/
def Reg.FUL_FSTAT_HELD (i : Nat) : Fld := ⟨(Reg.FUL_FSTAT i), 23, 16⟩
/-- FUL FTAG d (R308). -/
def Reg.FUL_FTAG (i : Nat) : Nat := 0xe00208 + 0x100 * i
/-- Field TAG. -/
def Reg.FUL_FTAG_TAG (i : Nat) : Fld := ⟨(Reg.FUL_FTAG i), 23, 0⟩
/-- FUL TALLY_ACC_LO d (R308). -/
def Reg.FUL_TALLY_ACC_LO (i : Nat) : Nat := 0xe00210 + 0x100 * i
/-- Field ACC. -/
def Reg.FUL_TALLY_ACC_LO_ACC (i : Nat) : Fld := ⟨(Reg.FUL_TALLY_ACC_LO i), 63, 0⟩
/-- FUL TALLY_ACC_HI d (R308). -/
def Reg.FUL_TALLY_ACC_HI (i : Nat) : Nat := 0xe00218 + 0x100 * i
/-- Field ACC. -/
def Reg.FUL_TALLY_ACC_HI_ACC (i : Nat) : Fld := ⟨(Reg.FUL_TALLY_ACC_HI i), 63, 0⟩
/-- FUL TALLY_CTL d (R308). -/
def Reg.FUL_TALLY_CTL (i : Nat) : Nat := 0xe00220 + 0x100 * i
/-- Field CLEAR. -/
def Reg.FUL_TALLY_CTL_CLEAR (i : Nat) : Fld := ⟨(Reg.FUL_TALLY_CTL i), 0, 0⟩
/-- FUL FCOUNT d (R308). -/
def Reg.FUL_FCOUNT (i : Nat) : Nat := 0xe00228 + 0x100 * i
/-- Field COUNT. -/
def Reg.FUL_FCOUNT_COUNT (i : Nat) : Fld := ⟨(Reg.FUL_FCOUNT i), 31, 0⟩
/-- WVN WVN_STAT (R344). -/
def Reg.WVN_WVN_STAT : Nat := 0xc00000
/-- Field NPORTS. -/
def Reg.WVN_WVN_STAT_NPORTS : Fld := ⟨Reg.WVN_WVN_STAT, 4, 0⟩
/-- Field SCHED. -/
def Reg.WVN_WVN_STAT_SCHED : Fld := ⟨Reg.WVN_WVN_STAT, 6, 5⟩
/-- Field SWITCHING. -/
def Reg.WVN_WVN_STAT_SWITCHING : Fld := ⟨Reg.WVN_WVN_STAT, 7, 7⟩
/-- Field PRESENT. -/
def Reg.WVN_WVN_STAT_PRESENT : Fld := ⟨Reg.WVN_WVN_STAT, 11, 8⟩
/-- WVN SCHED_SEL (R344). -/
def Reg.WVN_SCHED_SEL : Nat := 0xc00008
/-- Field SEL. -/
def Reg.WVN_SCHED_SEL_SEL : Fld := ⟨Reg.WVN_SCHED_SEL, 1, 0⟩
/-- Field SHED. -/
def Reg.WVN_SCHED_SEL_SHED : Fld := ⟨Reg.WVN_SCHED_SEL, 55, 8⟩
/-- WVN BOLT_HASH w (R344). -/
def Reg.WVN_BOLT_HASH (i : Nat) : Nat := 0xc00010 + 0x8 * i
/-- Field HASH. -/
def Reg.WVN_BOLT_HASH_HASH (i : Nat) : Fld := ⟨(Reg.WVN_BOLT_HASH i), 63, 0⟩
/-- WVN THROW_CNT (R344). -/
def Reg.WVN_THROW_CNT : Nat := 0xc00030
/-- Field ADMITTED. -/
def Reg.WVN_THROW_CNT_ADMITTED : Fld := ⟨Reg.WVN_THROW_CNT, 31, 0⟩
/-- Field REJECTED. -/
def Reg.WVN_THROW_CNT_REJECTED : Fld := ⟨Reg.WVN_THROW_CNT, 63, 32⟩
/-- WVN THROW_FAIL (R344). -/
def Reg.WVN_THROW_FAIL : Nat := 0xc00038
/-- Field DEADLINE. -/
def Reg.WVN_THROW_FAIL_DEADLINE : Fld := ⟨Reg.WVN_THROW_FAIL, 31, 0⟩
/-- Field DETOURED. -/
def Reg.WVN_THROW_FAIL_DETOURED : Fld := ⟨Reg.WVN_THROW_FAIL, 63, 32⟩
/-- WVN COLL_STAT d (R344). -/
def Reg.WVN_COLL_STAT (i : Nat) : Nat := 0xc00100 + 0x40 * i
/-- Field BUSY. -/
def Reg.WVN_COLL_STAT_BUSY (i : Nat) : Fld := ⟨(Reg.WVN_COLL_STAT i), 0, 0⟩
/-- Field LOOM. -/
def Reg.WVN_COLL_STAT_LOOM (i : Nat) : Fld := ⟨(Reg.WVN_COLL_STAT i), 7, 1⟩
/-- Field CTX. -/
def Reg.WVN_COLL_STAT_CTX (i : Nat) : Fld := ⟨(Reg.WVN_COLL_STAT i), 9, 8⟩
/-- Field TAG. -/
def Reg.WVN_COLL_STAT_TAG (i : Nat) : Fld := ⟨(Reg.WVN_COLL_STAT i), 39, 16⟩
/-- WVN PSTAT (R344). -/
def Reg.WVN_PSTAT (i : Nat) : Nat := 0xc10000 + 0x1000 * i
/-- Field STATE. -/
def Reg.WVN_PSTAT_STATE (i : Nat) : Fld := ⟨(Reg.WVN_PSTAT i), 3, 0⟩
/-- Field LANES. -/
def Reg.WVN_PSTAT_LANES (i : Nat) : Fld := ⟨(Reg.WVN_PSTAT i), 16, 8⟩
/-- Field SPARED. -/
def Reg.WVN_PSTAT_SPARED (i : Nat) : Fld := ⟨(Reg.WVN_PSTAT i), 20, 17⟩
/-- Field SPARE_USED. -/
def Reg.WVN_PSTAT_SPARE_USED (i : Nat) : Fld := ⟨(Reg.WVN_PSTAT i), 21, 21⟩
/-- Field ENCRYPTED. -/
def Reg.WVN_PSTAT_ENCRYPTED (i : Nat) : Fld := ⟨(Reg.WVN_PSTAT i), 22, 22⟩
/-- WVN PCTL (R344). -/
def Reg.WVN_PCTL (i : Nat) : Nat := 0xc10008 + 0x1000 * i
/-- Field RESTORE. -/
def Reg.WVN_PCTL_RESTORE (i : Nat) : Fld := ⟨(Reg.WVN_PCTL i), 0, 0⟩
/-- Field ENCRYPT. -/
def Reg.WVN_PCTL_ENCRYPT (i : Nat) : Fld := ⟨(Reg.WVN_PCTL i), 1, 1⟩
/-- Field INJECT_EN. -/
def Reg.WVN_PCTL_INJECT_EN (i : Nat) : Fld := ⟨(Reg.WVN_PCTL i), 2, 2⟩
/-- WVN NBR_LO, NBR_HI (R344). -/
def Reg.WVN_NBR_LO (i : Nat) : Nat := 0xc10010 + 0x1000 * i
/-- Field ID. -/
def Reg.WVN_NBR_LO_ID (i : Nat) : Fld := ⟨(Reg.WVN_NBR_LO i), 63, 0⟩
/-- WVN NBR_LO, NBR_HI (R344). -/
def Reg.WVN_NBR_HI (i : Nat) : Nat := 0xc10018 + 0x1000 * i
/-- Field ID. -/
def Reg.WVN_NBR_HI_ID (i : Nat) : Fld := ⟨(Reg.WVN_NBR_HI i), 63, 0⟩
/-- WVN NBR_PORT (R344). -/
def Reg.WVN_NBR_PORT (i : Nat) : Nat := 0xc10020 + 0x1000 * i
/-- Field PORT. -/
def Reg.WVN_NBR_PORT_PORT (i : Nat) : Fld := ⟨(Reg.WVN_NBR_PORT i), 4, 0⟩
/-- WVN PDELAY (R344). -/
def Reg.WVN_PDELAY (i : Nat) : Nat := 0xc10028 + 0x1000 * i
/-- Field NS. -/
def Reg.WVN_PDELAY_NS (i : Nat) : Fld := ⟨(Reg.WVN_PDELAY i), 15, 0⟩
/-- WVN LANEMAP (R344). -/
def Reg.WVN_LANEMAP (i : Nat) : Nat := 0xc10030 + 0x1000 * i
/-- Field PHYS, by index. -/
def Reg.WVN_LANEMAP_PHYS (i : Nat) (k : Nat) : Fld := ⟨(Reg.WVN_LANEMAP i), 4 * k + 3, 4 * k + 0⟩
/-- WVN FEC (R344). -/
def Reg.WVN_FEC (i : Nat) : Nat := 0xc10038 + 0x1000 * i
/-- Field CE. -/
def Reg.WVN_FEC_CE (i : Nat) : Fld := ⟨(Reg.WVN_FEC i), 31, 0⟩
/-- Field UE. -/
def Reg.WVN_FEC_UE (i : Nat) : Fld := ⟨(Reg.WVN_FEC i), 63, 32⟩
/-- WVN MISSED (R344). -/
def Reg.WVN_MISSED (i : Nat) : Nat := 0xc10040 + 0x1000 * i
/-- Field SHED. -/
def Reg.WVN_MISSED_SHED (i : Nat) : Fld := ⟨(Reg.WVN_MISSED i), 15, 0⟩
/-- Field TOTAL. -/
def Reg.WVN_MISSED_TOTAL (i : Nat) : Fld := ⟨(Reg.WVN_MISSED i), 47, 16⟩
/-- WVN BADTAG (R344). -/
def Reg.WVN_BADTAG (i : Nat) : Nat := 0xc10048 + 0x1000 * i
/-- Field TAG. -/
def Reg.WVN_BADTAG_TAG (i : Nat) : Fld := ⟨(Reg.WVN_BADTAG i), 31, 0⟩
/-- Field OUTSLOT. -/
def Reg.WVN_BADTAG_OUTSLOT (i : Nat) : Fld := ⟨(Reg.WVN_BADTAG i), 63, 32⟩
/-- WVN QUAR (R344). -/
def Reg.WVN_QUAR (i : Nat) : Nat := 0xc10050 + 0x1000 * i
/-- Field QDROPS. -/
def Reg.WVN_QUAR_QDROPS (i : Nat) : Fld := ⟨(Reg.WVN_QUAR i), 31, 0⟩
/-- Field QTRIES. -/
def Reg.WVN_QUAR_QTRIES (i : Nat) : Fld := ⟨(Reg.WVN_QUAR i), 39, 32⟩
/-- Field NEXT_S. -/
def Reg.WVN_QUAR_NEXT_S (i : Nat) : Fld := ⟨(Reg.WVN_QUAR i), 63, 40⟩
/-- WVN INJ (R344). -/
def Reg.WVN_INJ (i : Nat) : Nat := 0xc10058 + 0x1000 * i
/-- Field MODE. -/
def Reg.WVN_INJ_MODE (i : Nat) : Fld := ⟨(Reg.WVN_INJ i), 1, 0⟩
/-- Field CTRL. -/
def Reg.WVN_INJ_CTRL (i : Nat) : Fld := ⟨(Reg.WVN_INJ i), 2, 2⟩
/-- Field EVERY. -/
def Reg.WVN_INJ_EVERY (i : Nat) : Fld := ⟨(Reg.WVN_INJ i), 15, 8⟩
/-- Field COUNT. -/
def Reg.WVN_INJ_COUNT (i : Nat) : Fld := ⟨(Reg.WVN_INJ i), 47, 16⟩
/-- HOST HOST_CAP (R365). -/
def Reg.HOST_HOST_CAP : Nat := 0xd00000
/-- Field MAXQP. -/
def Reg.HOST_HOST_CAP_MAXQP : Fld := ⟨Reg.HOST_HOST_CAP, 15, 0⟩
/-- Field MAXMR. -/
def Reg.HOST_HOST_CAP_MAXMR : Fld := ⟨Reg.HOST_HOST_CAP, 24, 16⟩
/-- HOST QP_USED (R365). -/
def Reg.HOST_QP_USED : Nat := 0xd00008
/-- Field COUNT. -/
def Reg.HOST_QP_USED_COUNT : Fld := ⟨Reg.HOST_QP_USED, 15, 0⟩
/-- HOST QP_STAGE w (R365). -/
def Reg.HOST_QP_STAGE (i : Nat) : Nat := 0xd00100 + 0x8 * i
/-- Field WORD. -/
def Reg.HOST_QP_STAGE_WORD (i : Nat) : Fld := ⟨(Reg.HOST_QP_STAGE i), 63, 0⟩
/-- HOST QP_CMD (R365). -/
def Reg.HOST_QP_CMD : Nat := 0xd00140
/-- Field INDEX. -/
def Reg.HOST_QP_CMD_INDEX : Fld := ⟨Reg.HOST_QP_CMD, 13, 0⟩
/-- Field OP. -/
def Reg.HOST_QP_CMD_OP : Fld := ⟨Reg.HOST_QP_CMD, 15, 14⟩
/-- HOST QP_STAT (R365). -/
def Reg.HOST_QP_STAT : Nat := 0xd00148
/-- Field INDEX. -/
def Reg.HOST_QP_STAT_INDEX : Fld := ⟨Reg.HOST_QP_STAT, 13, 0⟩
/-- Field DONE. -/
def Reg.HOST_QP_STAT_DONE : Fld := ⟨Reg.HOST_QP_STAT, 16, 16⟩
/-- Field REFUSED. -/
def Reg.HOST_QP_STAT_REFUSED : Fld := ⟨Reg.HOST_QP_STAT, 17, 17⟩
/-- Field REASON. -/
def Reg.HOST_QP_STAT_REASON : Fld := ⟨Reg.HOST_QP_STAT, 19, 18⟩
/-- HOST MR_STAGE0 (R365). -/
def Reg.HOST_MR_STAGE0 : Nat := 0xd00200
/-- Field BASE. -/
def Reg.HOST_MR_STAGE0_BASE : Fld := ⟨Reg.HOST_MR_STAGE0, 63, 0⟩
/-- HOST MR_STAGE1 (R365). -/
def Reg.HOST_MR_STAGE1 : Nat := 0xd00208
/-- Field LEN. -/
def Reg.HOST_MR_STAGE1_LEN : Fld := ⟨Reg.HOST_MR_STAGE1, 39, 0⟩
/-- HOST MR_STAGE2 (R365). -/
def Reg.HOST_MR_STAGE2 : Nat := 0xd00210
/-- Field KEY. -/
def Reg.HOST_MR_STAGE2_KEY : Fld := ⟨Reg.HOST_MR_STAGE2, 23, 0⟩
/-- Field RREAD. -/
def Reg.HOST_MR_STAGE2_RREAD : Fld := ⟨Reg.HOST_MR_STAGE2, 24, 24⟩
/-- Field RWRITE. -/
def Reg.HOST_MR_STAGE2_RWRITE : Fld := ⟨Reg.HOST_MR_STAGE2, 25, 25⟩
/-- HOST MR_CMD (R365). -/
def Reg.HOST_MR_CMD : Nat := 0xd00220
/-- Field INDEX. -/
def Reg.HOST_MR_CMD_INDEX : Fld := ⟨Reg.HOST_MR_CMD, 7, 0⟩
/-- Field INVALIDATE. -/
def Reg.HOST_MR_CMD_INVALIDATE : Fld := ⟨Reg.HOST_MR_CMD, 8, 8⟩
/-- HOST MR_STAT (R365). -/
def Reg.HOST_MR_STAT : Nat := 0xd00228
/-- Field INDEX. -/
def Reg.HOST_MR_STAT_INDEX : Fld := ⟨Reg.HOST_MR_STAT, 7, 0⟩
/-- Field DONE. -/
def Reg.HOST_MR_STAT_DONE : Fld := ⟨Reg.HOST_MR_STAT, 8, 8⟩
/-- Field REFUSED. -/
def Reg.HOST_MR_STAT_REFUSED : Fld := ⟨Reg.HOST_MR_STAT, 9, 9⟩
/-- HOST ALLOW i (R365). -/
def Reg.HOST_ALLOW (i : Nat) : Nat := 0xd00400 + 0x8 * i
/-- Field START. -/
def Reg.HOST_ALLOW_START (i : Nat) : Fld := ⟨(Reg.HOST_ALLOW i), 27, 0⟩
/-- Field LEN. -/
def Reg.HOST_ALLOW_LEN (i : Nat) : Fld := ⟨(Reg.HOST_ALLOW i), 55, 28⟩
/-- Field R. -/
def Reg.HOST_ALLOW_R (i : Nat) : Fld := ⟨(Reg.HOST_ALLOW i), 56, 56⟩
/-- Field W. -/
def Reg.HOST_ALLOW_W (i : Nat) : Fld := ⟨(Reg.HOST_ALLOW i), 57, 57⟩
/-- Field VALID. -/
def Reg.HOST_ALLOW_VALID (i : Nat) : Fld := ⟨(Reg.HOST_ALLOW i), 63, 63⟩
/-- HOST MIR_SRC m (R365). -/
def Reg.HOST_MIR_SRC (i : Nat) : Nat := 0xd00600 + 0x20 * i
/-- Field KIND. -/
def Reg.HOST_MIR_SRC_KIND (i : Nat) : Fld := ⟨(Reg.HOST_MIR_SRC i), 1, 0⟩
/-- Field SLOT. -/
def Reg.HOST_MIR_SRC_SLOT (i : Nat) : Fld := ⟨(Reg.HOST_MIR_SRC i), 10, 2⟩
/-- Field QP. -/
def Reg.HOST_MIR_SRC_QP (i : Nat) : Fld := ⟨(Reg.HOST_MIR_SRC i), 24, 11⟩
/-- Field LOG2N. -/
def Reg.HOST_MIR_SRC_LOG2N (i : Nat) : Fld := ⟨(Reg.HOST_MIR_SRC i), 29, 25⟩
/-- HOST MIR_ADDR m (R365). -/
def Reg.HOST_MIR_ADDR (i : Nat) : Nat := 0xd00608 + 0x20 * i
/-- Field ADDR. -/
def Reg.HOST_MIR_ADDR_ADDR (i : Nat) : Fld := ⟨(Reg.HOST_MIR_ADDR i), 63, 0⟩
/-- HOST MIR_KEY m (R365). -/
def Reg.HOST_MIR_KEY (i : Nat) : Nat := 0xd00610 + 0x20 * i
/-- Field RKEY. -/
def Reg.HOST_MIR_KEY_RKEY (i : Nat) : Fld := ⟨(Reg.HOST_MIR_KEY i), 31, 0⟩
/-- HOST MIR_DROPS m (R365). -/
def Reg.HOST_MIR_DROPS (i : Nat) : Nat := 0xd00618 + 0x20 * i
/-- Field DROPS. -/
def Reg.HOST_MIR_DROPS_DROPS (i : Nat) : Fld := ⟨(Reg.HOST_MIR_DROPS i), 31, 0⟩
/-- HOST DR_QP t (R365). -/
def Reg.HOST_DR_QP (i : Nat) : Nat := 0xd00e00 + 0x20 * i
/-- Field QP. -/
def Reg.HOST_DR_QP_QP (i : Nat) : Fld := ⟨(Reg.HOST_DR_QP i), 13, 0⟩
/-- Field VALID. -/
def Reg.HOST_DR_QP_VALID (i : Nat) : Fld := ⟨(Reg.HOST_DR_QP i), 63, 63⟩
/-- HOST DR_ADDR t (R365). -/
def Reg.HOST_DR_ADDR (i : Nat) : Nat := 0xd00e08 + 0x20 * i
/-- Field ADDR. -/
def Reg.HOST_DR_ADDR_ADDR (i : Nat) : Fld := ⟨(Reg.HOST_DR_ADDR i), 63, 0⟩
/-- HOST DR_KEY t (R365). -/
def Reg.HOST_DR_KEY (i : Nat) : Nat := 0xd00e10 + 0x20 * i
/-- Field RKEY. -/
def Reg.HOST_DR_KEY_RKEY (i : Nat) : Fld := ⟨(Reg.HOST_DR_KEY i), 31, 0⟩
/-- HOST DR_LEN t (R365). -/
def Reg.HOST_DR_LEN (i : Nat) : Nat := 0xd00e18 + 0x20 * i
/-- Field LEN. -/
def Reg.HOST_DR_LEN_LEN (i : Nat) : Fld := ⟨(Reg.HOST_DR_LEN i), 47, 0⟩
/-- HOST HPSTAT (R365). -/
def Reg.HOST_HPSTAT (i : Nat) : Nat := 0xd10000 + 0x1000 * i
/-- Field LINK_UP. -/
def Reg.HOST_HPSTAT_LINK_UP (i : Nat) : Fld := ⟨(Reg.HOST_HPSTAT i), 0, 0⟩
/-- Field MODE. -/
def Reg.HOST_HPSTAT_MODE (i : Nat) : Fld := ⟨(Reg.HOST_HPSTAT i), 1, 1⟩
/-- HOST HPCFG (R365). -/
def Reg.HOST_HPCFG (i : Nat) : Nat := 0xd10008 + 0x1000 * i
/-- Field PFC_PRIO. -/
def Reg.HOST_HPCFG_PFC_PRIO (i : Nat) : Fld := ⟨(Reg.HOST_HPCFG i), 2, 0⟩
/-- Field PFC_EN. -/
def Reg.HOST_HPCFG_PFC_EN (i : Nat) : Fld := ⟨(Reg.HOST_HPCFG i), 3, 3⟩
/-- Field ECN_EN. -/
def Reg.HOST_HPCFG_ECN_EN (i : Nat) : Fld := ⟨(Reg.HOST_HPCFG i), 4, 4⟩
/-- HOST HPMAC (R365). -/
def Reg.HOST_HPMAC (i : Nat) : Nat := 0xd10010 + 0x1000 * i
/-- Field MAC. -/
def Reg.HOST_HPMAC_MAC (i : Nat) : Fld := ⟨(Reg.HOST_HPMAC i), 47, 0⟩
/-- HOST HPGID_LO, HPGID_HI (R365). -/
def Reg.HOST_HPGID_LO (i : Nat) : Nat := 0xd10018 + 0x1000 * i
/-- Field GID. -/
def Reg.HOST_HPGID_LO_GID (i : Nat) : Fld := ⟨(Reg.HOST_HPGID_LO i), 63, 0⟩
/-- HOST HPGID_LO, HPGID_HI (R365). -/
def Reg.HOST_HPGID_HI (i : Nat) : Nat := 0xd10020 + 0x1000 * i
/-- Field GID. -/
def Reg.HOST_HPGID_HI_GID (i : Nat) : Fld := ⟨(Reg.HOST_HPGID_HI i), 63, 0⟩
/-- HOST HPCNT0 (R365). -/
def Reg.HOST_HPCNT0 (i : Nat) : Nat := 0xd10028 + 0x1000 * i
/-- Field RX_PKTS. -/
def Reg.HOST_HPCNT0_RX_PKTS (i : Nat) : Fld := ⟨(Reg.HOST_HPCNT0 i), 31, 0⟩
/-- Field TX_PKTS. -/
def Reg.HOST_HPCNT0_TX_PKTS (i : Nat) : Fld := ⟨(Reg.HOST_HPCNT0 i), 63, 32⟩
/-- HOST HPCNT1 (R365). -/
def Reg.HOST_HPCNT1 (i : Nat) : Nat := 0xd10030 + 0x1000 * i
/-- Field ICRC_ERR. -/
def Reg.HOST_HPCNT1_ICRC_ERR (i : Nat) : Fld := ⟨(Reg.HOST_HPCNT1 i), 15, 0⟩
/-- Field NAK_SENT. -/
def Reg.HOST_HPCNT1_NAK_SENT (i : Nat) : Fld := ⟨(Reg.HOST_HPCNT1 i), 31, 16⟩
/-- Field CNP_SENT. -/
def Reg.HOST_HPCNT1_CNP_SENT (i : Nat) : Fld := ⟨(Reg.HOST_HPCNT1 i), 47, 32⟩
/-- Field CNP_RCVD. -/
def Reg.HOST_HPCNT1_CNP_RCVD (i : Nat) : Fld := ⟨(Reg.HOST_HPCNT1 i), 63, 48⟩
/-- HOST HPCNT2 (R365). -/
def Reg.HOST_HPCNT2 (i : Nat) : Nat := 0xd10038 + 0x1000 * i
/-- Field RETRIES. -/
def Reg.HOST_HPCNT2_RETRIES (i : Nat) : Fld := ⟨(Reg.HOST_HPCNT2 i), 31, 0⟩
/-- Field DENIED. -/
def Reg.HOST_HPCNT2_DENIED (i : Nat) : Fld := ⟨(Reg.HOST_HPCNT2 i), 47, 32⟩
/-- Field DROPPED. -/
def Reg.HOST_HPCNT2_DROPPED (i : Nat) : Fld := ⟨(Reg.HOST_HPCNT2 i), 63, 48⟩
/-- RES RES_STAT (R408). -/
def Reg.RES_RES_STAT : Nat := 0xf00000
/-- Field EXPELLED. -/
def Reg.RES_RES_STAT_EXPELLED : Fld := ⟨Reg.RES_RES_STAT, 0, 0⟩
/-- Field VOTE_HOLD. -/
def Reg.RES_RES_STAT_VOTE_HOLD : Fld := ⟨Reg.RES_RES_STAT, 1, 1⟩
/-- RES VOTE_CFG (R408). -/
def Reg.RES_VOTE_CFG : Nat := 0xf00008
/-- Field NREP. -/
def Reg.RES_VOTE_CFG_NREP : Fld := ⟨Reg.RES_VOTE_CFG, 3, 0⟩
/-- Field REP_RANK. -/
def Reg.RES_VOTE_CFG_REP_RANK : Fld := ⟨Reg.RES_VOTE_CFG, 6, 4⟩
/-- Field VFLOW. -/
def Reg.RES_VOTE_CFG_VFLOW : Fld := ⟨Reg.RES_VOTE_CFG, 27, 8⟩
/-- RES VOTE_CTL (R408). -/
def Reg.RES_VOTE_CTL : Nat := 0xf00010
/-- Field REJOIN. -/
def Reg.RES_VOTE_CTL_REJOIN : Fld := ⟨Reg.RES_VOTE_CTL, 0, 0⟩
/-- RES VOTE_RES (R408). -/
def Reg.RES_VOTE_RES : Nat := 0xf00018
/-- Field RESULT. -/
def Reg.RES_VOTE_RES_RESULT : Fld := ⟨Reg.RES_VOTE_RES, 2, 0⟩
/-- Field ODD. -/
def Reg.RES_VOTE_RES_ODD : Fld := ⟨Reg.RES_VOTE_RES, 15, 8⟩
/-- Field INVALIDS. -/
def Reg.RES_VOTE_RES_INVALIDS : Fld := ⟨Reg.RES_VOTE_RES, 23, 16⟩
/-- RES VOTE_STEP (R408). -/
def Reg.RES_VOTE_STEP : Nat := 0xf00020
/-- Field VSTEP. -/
def Reg.RES_VOTE_STEP_VSTEP : Fld := ⟨Reg.RES_VOTE_STEP, 63, 0⟩
/-- RES VOTE_DT_LO (R408). -/
def Reg.RES_VOTE_DT_LO : Nat := 0xf00028
/-- Field DT. -/
def Reg.RES_VOTE_DT_LO_DT : Fld := ⟨Reg.RES_VOTE_DT_LO, 63, 0⟩
/-- RES VOTE_DT_HI (R408). -/
def Reg.RES_VOTE_DT_HI : Nat := 0xf00030
/-- Field DT. -/
def Reg.RES_VOTE_DT_HI_DT : Fld := ⟨Reg.RES_VOTE_DT_HI, 63, 0⟩
/-- RES VOTES (R408). -/
def Reg.RES_VOTES : Nat := 0xf00038
/-- Field COUNT. -/
def Reg.RES_VOTES_COUNT : Fld := ⟨Reg.RES_VOTES, 31, 0⟩
/-- RES VMEMB r (R408). -/
def Reg.RES_VMEMB (i : Nat) : Nat := 0xf00040 + 0x8 * i
/-- Field GRANK. -/
def Reg.RES_VMEMB_GRANK (i : Nat) : Fld := ⟨(Reg.RES_VMEMB i), 31, 0⟩
/-- RES RANK (R408). -/
def Reg.RES_RANK : Nat := 0xf00080
/-- Field GRANK. -/
def Reg.RES_RANK_GRANK : Fld := ⟨Reg.RES_RANK, 31, 0⟩
/-- RES DKEY (R408). -/
def Reg.RES_DKEY : Nat := 0xf00088
/-- Field KEY. -/
def Reg.RES_DKEY_KEY : Fld := ⟨Reg.RES_DKEY, 63, 0⟩
/-- RES REXP_STEP i (R408). -/
def Reg.RES_REXP_STEP (i : Nat) : Nat := 0xf00100 + 0x20 * i
/-- Field VSTEP. -/
def Reg.RES_REXP_STEP_VSTEP (i : Nat) : Fld := ⟨(Reg.RES_REXP_STEP i), 63, 0⟩
/-- RES REXP_LO i (R408). -/
def Reg.RES_REXP_LO (i : Nat) : Nat := 0xf00108 + 0x20 * i
/-- Field DT. -/
def Reg.RES_REXP_LO_DT (i : Nat) : Fld := ⟨(Reg.RES_REXP_LO i), 63, 0⟩
/-- RES REXP_HI i (R408). -/
def Reg.RES_REXP_HI (i : Nat) : Nat := 0xf00110 + 0x20 * i
/-- Field DT. -/
def Reg.RES_REXP_HI_DT (i : Nat) : Fld := ⟨(Reg.RES_REXP_HI i), 63, 0⟩
/-- RES REXP_CTL i (R408). -/
def Reg.RES_REXP_CTL (i : Nat) : Nat := 0xf00118 + 0x20 * i
/-- Field VALID. -/
def Reg.RES_REXP_CTL_VALID (i : Nat) : Fld := ⟨(Reg.RES_REXP_CTL i), 0, 0⟩
/-- Field MATCHED. -/
def Reg.RES_REXP_CTL_MATCHED (i : Nat) : Fld := ⟨(Reg.RES_REXP_CTL i), 1, 1⟩
/-- Field DIVERGED. -/
def Reg.RES_REXP_CTL_DIVERGED (i : Nat) : Fld := ⟨(Reg.RES_REXP_CTL i), 2, 2⟩
/-- RES SHADOW_BASE (R408). -/
def Reg.RES_SHADOW_BASE : Nat := 0xf00200
/-- Field BASE. -/
def Reg.RES_SHADOW_BASE_BASE : Fld := ⟨Reg.RES_SHADOW_BASE, 63, 0⟩
/-- RES SHADOW_LEN (R408). -/
def Reg.RES_SHADOW_LEN : Nat := 0xf00208
/-- Field GRANULES. -/
def Reg.RES_SHADOW_LEN_GRANULES : Fld := ⟨Reg.RES_SHADOW_LEN, 16, 0⟩
/-- RES CK_TARGET (R408). -/
def Reg.RES_CK_TARGET : Nat := 0xf00210
/-- Field KIND. -/
def Reg.RES_CK_TARGET_KIND : Fld := ⟨Reg.RES_CK_TARGET, 0, 0⟩
/-- Field NTM1. -/
def Reg.RES_CK_TARGET_NTM1 : Fld := ⟨Reg.RES_CK_TARGET, 4, 1⟩
/-- Field BFLOW. -/
def Reg.RES_CK_TARGET_BFLOW : Fld := ⟨Reg.RES_CK_TARGET, 27, 8⟩
/-- RES CK_STAT (R408). -/
def Reg.RES_CK_STAT : Nat := 0xf00218
/-- Field PHASE. -/
def Reg.RES_CK_STAT_PHASE : Fld := ⟨Reg.RES_CK_STAT, 1, 0⟩
/-- Field OUTCOME. -/
def Reg.RES_CK_STAT_OUTCOME : Fld := ⟨Reg.RES_CK_STAT, 3, 2⟩
/-- Field REASON. -/
def Reg.RES_CK_STAT_REASON : Fld := ⟨Reg.RES_CK_STAT, 7, 4⟩
/-- Field USED. -/
def Reg.RES_CK_STAT_USED : Fld := ⟨Reg.RES_CK_STAT, 24, 8⟩
/-- RES CK_SEQ (R408). -/
def Reg.RES_CK_SEQ : Nat := 0xf00220
/-- Field SEQ. -/
def Reg.RES_CK_SEQ_SEQ : Fld := ⟨Reg.RES_CK_SEQ, 63, 0⟩
/-- RES CK_PICK (R408). -/
def Reg.RES_CK_PICK : Nat := 0xf00228
/-- Field PICK. -/
def Reg.RES_CK_PICK_PICK : Fld := ⟨Reg.RES_CK_PICK, 63, 0⟩
/-- RES CK_PROG (R408). -/
def Reg.RES_CK_PROG : Nat := 0xf00230
/-- Field SENT. -/
def Reg.RES_CK_PROG_SENT : Fld := ⟨Reg.RES_CK_PROG, 31, 0⟩
/-- Field TOTAL. -/
def Reg.RES_CK_PROG_TOTAL : Fld := ⟨Reg.RES_CK_PROG, 63, 32⟩
/-- RES CK_EVENT (R408). -/
def Reg.RES_CK_EVENT : Nat := 0xf00238
/-- Field DONE. -/
def Reg.RES_CK_EVENT_DONE : Fld := ⟨Reg.RES_CK_EVENT, 0, 0⟩
/-- Field FAILED. -/
def Reg.RES_CK_EVENT_FAILED : Fld := ⟨Reg.RES_CK_EVENT, 1, 1⟩
/-- RES BUDDY_BASE (R408). -/
def Reg.RES_BUDDY_BASE : Nat := 0xf00240
/-- Field BASE. -/
def Reg.RES_BUDDY_BASE_BASE : Fld := ⟨Reg.RES_BUDDY_BASE, 63, 0⟩
/-- RES BUDDY_LEN (R408). -/
def Reg.RES_BUDDY_LEN : Nat := 0xf00248
/-- Field LEN. -/
def Reg.RES_BUDDY_LEN_LEN : Fld := ⟨Reg.RES_BUDDY_LEN, 39, 0⟩
/-- RES BUDDY_STAT (R408). -/
def Reg.RES_BUDDY_STAT : Nat := 0xf00250
/-- Field IMAGE. -/
def Reg.RES_BUDDY_STAT_IMAGE : Fld := ⟨Reg.RES_BUDDY_STAT, 0, 0⟩
/-- Field RECEIVING. -/
def Reg.RES_BUDDY_STAT_RECEIVING : Fld := ⟨Reg.RES_BUDDY_STAT, 1, 1⟩
/-- Field SENDING. -/
def Reg.RES_BUDDY_STAT_SENDING : Fld := ⟨Reg.RES_BUDDY_STAT, 2, 2⟩
/-- Field GRANULES. -/
def Reg.RES_BUDDY_STAT_GRANULES : Fld := ⟨Reg.RES_BUDDY_STAT, 63, 32⟩
/-- RES BUDDY_CTL (R408). -/
def Reg.RES_BUDDY_CTL : Nat := 0xf00258
/-- Field SEND. -/
def Reg.RES_BUDDY_CTL_SEND : Fld := ⟨Reg.RES_BUDDY_CTL, 0, 0⟩
/-- Field FLOW. -/
def Reg.RES_BUDDY_CTL_FLOW : Fld := ⟨Reg.RES_BUDDY_CTL, 20, 1⟩
/-- RES INLOG i (R408). -/
def Reg.RES_INLOG (i : Nat) : Nat := 0xf00280 + 0x8 * i
/-- Field OFFSET. -/
def Reg.RES_INLOG_OFFSET (i : Nat) : Fld := ⟨(Reg.RES_INLOG i), 63, 0⟩
/-- RES RST_ADDR (R408). -/
def Reg.RES_RST_ADDR : Nat := 0xf00300
/-- Field ADDR. -/
def Reg.RES_RST_ADDR_ADDR : Fld := ⟨Reg.RES_RST_ADDR, 63, 0⟩
/-- RES RST_CTL (R408). -/
def Reg.RES_RST_CTL : Nat := 0xf00308
/-- Field GO. -/
def Reg.RES_RST_CTL_GO : Fld := ⟨Reg.RES_RST_CTL, 0, 0⟩
/-- RES RST_STAT (R408). -/
def Reg.RES_RST_STAT : Nat := 0xf00310
/-- Field BUSY. -/
def Reg.RES_RST_STAT_BUSY : Fld := ⟨Reg.RES_RST_STAT, 0, 0⟩
/-- Field DONE. -/
def Reg.RES_RST_STAT_DONE : Fld := ⟨Reg.RES_RST_STAT, 1, 1⟩
/-- Field REFUSED. -/
def Reg.RES_RST_STAT_REFUSED : Fld := ⟨Reg.RES_RST_STAT, 2, 2⟩
/-- Field REASON. -/
def Reg.RES_RST_STAT_REASON : Fld := ⟨Reg.RES_RST_STAT, 6, 3⟩
/-- RES SPARE_CMD (R408). -/
def Reg.RES_SPARE_CMD : Nat := 0xf00400
/-- Field LOOM. -/
def Reg.RES_SPARE_CMD_LOOM : Fld := ⟨Reg.RES_SPARE_CMD, 6, 0⟩
/-- Field GO. -/
def Reg.RES_SPARE_CMD_GO : Fld := ⟨Reg.RES_SPARE_CMD, 7, 7⟩
/-- RES SPARE_RES (R408). -/
def Reg.RES_SPARE_RES : Nat := 0xf00408
/-- Field LOOM. -/
def Reg.RES_SPARE_RES_LOOM : Fld := ⟨Reg.RES_SPARE_RES, 6, 0⟩
/-- Field PENDING. -/
def Reg.RES_SPARE_RES_PENDING : Fld := ⟨Reg.RES_SPARE_RES, 8, 8⟩
/-- Field DONE. -/
def Reg.RES_SPARE_RES_DONE : Fld := ⟨Reg.RES_SPARE_RES, 9, 9⟩
/-- Field REFUSED. -/
def Reg.RES_SPARE_RES_REFUSED : Fld := ⟨Reg.RES_SPARE_RES, 10, 10⟩
/-- Field REASON. -/
def Reg.RES_SPARE_RES_REASON : Fld := ⟨Reg.RES_SPARE_RES, 13, 11⟩
/-- RES HEALTH (R408). -/
def Reg.RES_HEALTH : Nat := 0xf00480
/-- Field SUSPECT. -/
def Reg.RES_HEALTH_SUSPECT : Fld := ⟨Reg.RES_HEALTH, 0, 0⟩
/-- RES SWR_BASE (R408). -/
def Reg.RES_SWR_BASE : Nat := 0xf00500
/-- Field BASE. -/
def Reg.RES_SWR_BASE_BASE : Fld := ⟨Reg.RES_SWR_BASE, 63, 0⟩
/-- RES SWR_CTL (R408). -/
def Reg.RES_SWR_CTL : Nat := 0xf00508
/-- Field LOG2N. -/
def Reg.RES_SWR_CTL_LOG2N : Fld := ⟨Reg.RES_SWR_CTL, 4, 0⟩
/-- Field WPTR. -/
def Reg.RES_SWR_CTL_WPTR : Fld := ⟨Reg.RES_SWR_CTL, 63, 32⟩
/-- RES SW_WIN (R408). -/
def Reg.RES_SW_WIN : Nat := 0xf00510
/-- Field OPEN. -/
def Reg.RES_SW_WIN_OPEN : Fld := ⟨Reg.RES_SW_WIN, 0, 0⟩
/-- RES CAP_START (R408). -/
def Reg.RES_CAP_START : Nat := 0xf00600
/-- Field LOOM. -/
def Reg.RES_CAP_START_LOOM : Fld := ⟨Reg.RES_CAP_START, 6, 0⟩
/-- Field STREAM. -/
def Reg.RES_CAP_START_STREAM : Fld := ⟨Reg.RES_CAP_START, 10, 7⟩
/-- Field TAG. -/
def Reg.RES_CAP_START_TAG : Fld := ⟨Reg.RES_CAP_START, 34, 11⟩
/-- Field ITMASK. -/
def Reg.RES_CAP_START_ITMASK : Fld := ⟨Reg.RES_CAP_START, 38, 35⟩
/-- Field ARM. -/
def Reg.RES_CAP_START_ARM : Fld := ⟨Reg.RES_CAP_START, 63, 63⟩
/-- RES CAP_ITER01 (R408). -/
def Reg.RES_CAP_ITER01 : Nat := 0xf00608
/-- Field ITER0. -/
def Reg.RES_CAP_ITER01_ITER0 : Fld := ⟨Reg.RES_CAP_ITER01, 31, 0⟩
/-- Field ITER1. -/
def Reg.RES_CAP_ITER01_ITER1 : Fld := ⟨Reg.RES_CAP_ITER01, 63, 32⟩
/-- RES CAP_ITER23 (R408). -/
def Reg.RES_CAP_ITER23 : Nat := 0xf00610
/-- Field ITER2. -/
def Reg.RES_CAP_ITER23_ITER2 : Fld := ⟨Reg.RES_CAP_ITER23, 31, 0⟩
/-- Field ITER3. -/
def Reg.RES_CAP_ITER23_ITER3 : Fld := ⟨Reg.RES_CAP_ITER23, 63, 32⟩
/-- RES CAP_END (R408). -/
def Reg.RES_CAP_END : Nat := 0xf00618
/-- Field TAG. -/
def Reg.RES_CAP_END_TAG : Fld := ⟨Reg.RES_CAP_END, 23, 0⟩
/-- RES CAP_ADDR (R408). -/
def Reg.RES_CAP_ADDR : Nat := 0xf00620
/-- Field ADDR. -/
def Reg.RES_CAP_ADDR_ADDR : Fld := ⟨Reg.RES_CAP_ADDR, 63, 0⟩
/-- RES CAP_LEN (R408). -/
def Reg.RES_CAP_LEN : Nat := 0xf00628
/-- Field LEN. -/
def Reg.RES_CAP_LEN_LEN : Fld := ⟨Reg.RES_CAP_LEN, 39, 0⟩
/-- RES CAP_STAT (R408). -/
def Reg.RES_CAP_STAT : Nat := 0xf00630
/-- Field ARMED. -/
def Reg.RES_CAP_STAT_ARMED : Fld := ⟨Reg.RES_CAP_STAT, 0, 0⟩
/-- Field ACTIVE. -/
def Reg.RES_CAP_STAT_ACTIVE : Fld := ⟨Reg.RES_CAP_STAT, 1, 1⟩
/-- Field DONE. -/
def Reg.RES_CAP_STAT_DONE : Fld := ⟨Reg.RES_CAP_STAT, 2, 2⟩
/-- Field REFUSED. -/
def Reg.RES_CAP_STAT_REFUSED : Fld := ⟨Reg.RES_CAP_STAT, 3, 3⟩
/-- Field REASON. -/
def Reg.RES_CAP_STAT_REASON : Fld := ⟨Reg.RES_CAP_STAT, 6, 4⟩
/-- Field BYTES. -/
def Reg.RES_CAP_STAT_BYTES : Fld := ⟨Reg.RES_CAP_STAT, 63, 32⟩
/-- RES LSW l (R408). -/
def Reg.RES_LSW (i : Nat) : Nat := 0xf00800 + 0x8 * i
/-- Field PASS. -/
def Reg.RES_LSW_PASS (i : Nat) : Fld := ⟨(Reg.RES_LSW i), 31, 0⟩
/-- Field FAIL. -/
def Reg.RES_LSW_FAIL (i : Nat) : Fld := ⟨(Reg.RES_LSW i), 63, 32⟩
/-- RES SWS_ADDR i (R408). -/
def Reg.RES_SWS_ADDR (i : Nat) : Nat := 0xf10000 + 0x20 * i
/-- Field ADDR. -/
def Reg.RES_SWS_ADDR_ADDR (i : Nat) : Fld := ⟨(Reg.RES_SWS_ADDR i), 63, 0⟩
/-- RES SWS_LEN i (R408). -/
def Reg.RES_SWS_LEN (i : Nat) : Nat := 0xf10008 + 0x20 * i
/-- Field LEN. -/
def Reg.RES_SWS_LEN_LEN (i : Nat) : Fld := ⟨(Reg.RES_SWS_LEN i), 39, 0⟩
/-- RES SWS_ID i (R408). -/
def Reg.RES_SWS_ID (i : Nat) : Nat := 0xf10010 + 0x20 * i
/-- Field SWID. -/
def Reg.RES_SWS_ID_SWID (i : Nat) : Fld := ⟨(Reg.RES_SWS_ID i), 63, 0⟩
/-- RES SWS_CTL i (R408). -/
def Reg.RES_SWS_CTL (i : Nat) : Nat := 0xf10018 + 0x20 * i
/-- Field STATE. -/
def Reg.RES_SWS_CTL_STATE (i : Nat) : Fld := ⟨(Reg.RES_SWS_CTL i), 1, 0⟩
/-- Field QUARANTINE. -/
def Reg.RES_SWS_CTL_QUARANTINE (i : Nat) : Fld := ⟨(Reg.RES_SWS_CTL i), 2, 2⟩
/-- Field UNIT. -/
def Reg.RES_SWS_CTL_UNIT (i : Nat) : Fld := ⟨(Reg.RES_SWS_CTL i), 15, 8⟩
/-- PWR PWR_CMD (R449). -/
def Reg.PWR_PWR_CMD : Nat := 0x20000
/-- Field KIND. -/
def Reg.PWR_PWR_CMD_KIND : Fld := ⟨Reg.PWR_PWR_CMD, 1, 0⟩
/-- Field STATE. -/
def Reg.PWR_PWR_CMD_STATE : Fld := ⟨Reg.PWR_PWR_CMD, 4, 2⟩
/-- Field INDEX. -/
def Reg.PWR_PWR_CMD_INDEX : Fld := ⟨Reg.PWR_PWR_CMD, 13, 5⟩
/-- Field COUNT. -/
def Reg.PWR_PWR_CMD_COUNT : Fld := ⟨Reg.PWR_PWR_CMD, 22, 14⟩
/-- PWR PWR_STAT (R449). -/
def Reg.PWR_PWR_STAT : Nat := 0x20008
/-- Field DONE. -/
def Reg.PWR_PWR_STAT_DONE : Fld := ⟨Reg.PWR_PWR_STAT, 0, 0⟩
/-- Field REFUSED. -/
def Reg.PWR_PWR_STAT_REFUSED : Fld := ⟨Reg.PWR_PWR_STAT, 1, 1⟩
/-- Field REASON. -/
def Reg.PWR_PWR_STAT_REASON : Fld := ⟨Reg.PWR_PWR_STAT, 4, 2⟩
/-- Field FAILIDX. -/
def Reg.PWR_PWR_STAT_FAILIDX : Fld := ⟨Reg.PWR_PWR_STAT, 13, 5⟩
/-- Field SHUTDOWN_OK. -/
def Reg.PWR_PWR_STAT_SHUTDOWN_OK : Fld := ⟨Reg.PWR_PWR_STAT, 14, 14⟩
/-- PWR CAP (R449). -/
def Reg.PWR_CAP : Nat := 0x20010
/-- Field CAP_W. -/
def Reg.PWR_CAP_CAP_W : Fld := ⟨Reg.PWR_CAP, 11, 0⟩
/-- PWR POWER (R449). -/
def Reg.PWR_POWER : Nat := 0x20018
/-- Field NOW_W. -/
def Reg.PWR_POWER_NOW_W : Fld := ⟨Reg.PWR_POWER, 11, 0⟩
/-- Field PEAK_W. -/
def Reg.PWR_POWER_PEAK_W : Fld := ⟨Reg.PWR_POWER, 23, 12⟩
/-- PWR EVENTS (R449). -/
def Reg.PWR_EVENTS : Nat := 0x20020
/-- Field CAPPED. -/
def Reg.PWR_EVENTS_CAPPED : Fld := ⟨Reg.PWR_EVENTS, 0, 0⟩
/-- Field DROOP_EXCESS. -/
def Reg.PWR_EVENTS_DROOP_EXCESS : Fld := ⟨Reg.PWR_EVENTS, 1, 1⟩
/-- Field THERM_WARN. -/
def Reg.PWR_EVENTS_THERM_WARN : Fld := ⟨Reg.PWR_EVENTS, 2, 2⟩
/-- Field THERM_THROTTLE. -/
def Reg.PWR_EVENTS_THERM_THROTTLE : Fld := ⟨Reg.PWR_EVENTS, 3, 3⟩
/-- PWR CEIL d (R449). -/
def Reg.PWR_CEIL (i : Nat) : Nat := 0x20040 + 0x8 * i
/-- Field MHZ. -/
def Reg.PWR_CEIL_MHZ (i : Nat) : Fld := ⟨(Reg.PWR_CEIL i), 11, 0⟩
/-- Field CAP. -/
def Reg.PWR_CEIL_CAP (i : Nat) : Fld := ⟨(Reg.PWR_CEIL i), 12, 12⟩
/-- Field THERMAL. -/
def Reg.PWR_CEIL_THERMAL (i : Nat) : Fld := ⟨(Reg.PWR_CEIL i), 13, 13⟩
/-- PWR LPWR l (R449). -/
def Reg.PWR_LPWR (i : Nat) : Nat := 0x20100 + 0x8 * i
/-- Field STATE. -/
def Reg.PWR_LPWR_STATE (i : Nat) : Fld := ⟨(Reg.PWR_LPWR i), 1, 0⟩
/-- Field PENDING. -/
def Reg.PWR_LPWR_PENDING (i : Nat) : Fld := ⟨(Reg.PWR_LPWR i), 2, 2⟩
/-- Field PARKED. -/
def Reg.PWR_LPWR_PARKED (i : Nat) : Fld := ⟨(Reg.PWR_LPWR i), 3, 3⟩
/-- PWR DROOP l (R449). -/
def Reg.PWR_DROOP (i : Nat) : Nat := 0x20800 + 0x8 * i
/-- Field EVENTS. -/
def Reg.PWR_DROOP_EVENTS (i : Nat) : Fld := ⟨(Reg.PWR_DROOP i), 31, 0⟩
/-- Field MIN_SHARE. -/
def Reg.PWR_DROOP_MIN_SHARE (i : Nat) : Fld := ⟨(Reg.PWR_DROOP i), 41, 32⟩
/-- Field EXCESS. -/
def Reg.PWR_DROOP_EXCESS (i : Nat) : Fld := ⟨(Reg.PWR_DROOP i), 63, 48⟩
/-- PWR TEMP s (R449). -/
def Reg.PWR_TEMP (i : Nat) : Nat := 0x21000 + 0x8 * i
/-- Field TEMP. -/
def Reg.PWR_TEMP_TEMP (i : Nat) : Fld := ⟨(Reg.PWR_TEMP i), 15, 0⟩
/-- Field MAX. -/
def Reg.PWR_TEMP_MAX (i : Nat) : Fld := ⟨(Reg.PWR_TEMP i), 23, 16⟩
/-- Field LEVEL. -/
def Reg.PWR_TEMP_LEVEL (i : Nat) : Fld := ⟨(Reg.PWR_TEMP i), 25, 24⟩
/-- PWR VREG v (R449). -/
def Reg.PWR_VREG (i : Nat) : Nat := 0x21400 + 0x8 * i
/-- Field VOUT_MV. -/
def Reg.PWR_VREG_VOUT_MV (i : Nat) : Fld := ⟨(Reg.PWR_VREG i), 15, 0⟩
/-- Field IIN. -/
def Reg.PWR_VREG_IIN (i : Nat) : Fld := ⟨(Reg.PWR_VREG i), 31, 16⟩
/-- CNT CNT_ACCESS (R486). -/
def Reg.CNT_CNT_ACCESS : Nat := 0x40000
/-- Field USER. -/
def Reg.CNT_CNT_ACCESS_USER : Fld := ⟨Reg.CNT_CNT_ACCESS, 0, 0⟩
/-- CNT CNT_CTL (R486). -/
def Reg.CNT_CNT_CTL : Nat := 0x40008
/-- Field RUN. -/
def Reg.CNT_CNT_CTL_RUN : Fld := ⟨Reg.CNT_CNT_CTL, 0, 0⟩
/-- Field CLEAR_ALL. -/
def Reg.CNT_CNT_CTL_CLEAR_ALL : Fld := ⟨Reg.CNT_CNT_CTL, 1, 1⟩
/-- CNT SNAP_BASE (R486). -/
def Reg.CNT_SNAP_BASE : Nat := 0x40010
/-- Field BASE. -/
def Reg.CNT_SNAP_BASE_BASE : Fld := ⟨Reg.CNT_SNAP_BASE, 63, 0⟩
/-- CNT SNAP_CTL (R486). -/
def Reg.CNT_SNAP_CTL : Nat := 0x40018
/-- Field LOG2N. -/
def Reg.CNT_SNAP_CTL_LOG2N : Fld := ⟨Reg.CNT_SNAP_CTL, 4, 0⟩
/-- Field WPTR. -/
def Reg.CNT_SNAP_CTL_WPTR : Fld := ⟨Reg.CNT_SNAP_CTL, 63, 32⟩
/-- CNT SNAP_STAT (R486). -/
def Reg.CNT_SNAP_STAT : Nat := 0x40020
/-- Field LOST. -/
def Reg.CNT_SNAP_STAT_LOST : Fld := ⟨Reg.CNT_SNAP_STAT, 31, 0⟩
/-- CNT TR_CTL (R486). -/
def Reg.CNT_TR_CTL : Nat := 0x40040
/-- Field N. -/
def Reg.CNT_TR_CTL_N : Fld := ⟨Reg.CNT_TR_CTL, 4, 0⟩
/-- Field EN. -/
def Reg.CNT_TR_CTL_EN : Fld := ⟨Reg.CNT_TR_CTL, 5, 5⟩
/-- Field TSID. -/
def Reg.CNT_TR_CTL_TSID : Fld := ⟨Reg.CNT_TR_CTL, 15, 8⟩
/-- CNT TR_BASE (R486). -/
def Reg.CNT_TR_BASE : Nat := 0x40048
/-- Field BASE. -/
def Reg.CNT_TR_BASE_BASE : Fld := ⟨Reg.CNT_TR_BASE, 63, 0⟩
/-- CNT TR_RING (R486). -/
def Reg.CNT_TR_RING : Nat := 0x40050
/-- Field LOG2N. -/
def Reg.CNT_TR_RING_LOG2N : Fld := ⟨Reg.CNT_TR_RING, 4, 0⟩
/-- Field WPTR. -/
def Reg.CNT_TR_RING_WPTR : Fld := ⟨Reg.CNT_TR_RING, 63, 32⟩
/-- CNT TR_DROPS (R486). -/
def Reg.CNT_TR_DROPS : Nat := 0x40058
/-- Field DROPS. -/
def Reg.CNT_TR_DROPS_DROPS : Fld := ⟨Reg.CNT_TR_DROPS, 31, 0⟩
/-- CNT WIN_SEL (R486). -/
def Reg.CNT_WIN_SEL : Nat := 0x40060
/-- Field KIND. -/
def Reg.CNT_WIN_SEL_KIND : Fld := ⟨Reg.CNT_WIN_SEL, 0, 0⟩
/-- Field INDEX. -/
def Reg.CNT_WIN_SEL_INDEX : Fld := ⟨Reg.CNT_WIN_SEL, 63, 32⟩
/-- CNT CFG k.i (R486). -/
def Reg.CNT_CFG (i : Nat) (j : Nat) : Nat := 0x44040 + 0x40 * i + 0x8 * j
/-- Field EVSEL. -/
def Reg.CNT_CFG_EVSEL (i : Nat) (j : Nat) : Fld := ⟨(Reg.CNT_CFG i j), 7, 0⟩
/-- Field CTXMASK. -/
def Reg.CNT_CFG_CTXMASK (i : Nat) (j : Nat) : Fld := ⟨(Reg.CNT_CFG i j), 11, 8⟩
/-- Field ZERO. -/
def Reg.CNT_CFG_ZERO (i : Nat) (j : Nat) : Fld := ⟨(Reg.CNT_CFG i j), 63, 63⟩
/-- CNT VAL k.i (R486). -/
def Reg.CNT_VAL (i : Nat) (j : Nat) : Nat := 0x48040 + 0x40 * i + 0x8 * j
/-- Field VALUE. -/
def Reg.CNT_VAL_VALUE (i : Nat) (j : Nat) : Fld := ⟨(Reg.CNT_VAL i j), 47, 0⟩
/-- CNT WIN w (R486). -/
def Reg.CNT_WIN (i : Nat) : Nat := 0x4c000 + 0x8 * i
/-- Field WORD. -/
def Reg.CNT_WIN_WORD (i : Nat) : Fld := ⟨(Reg.CNT_WIN i), 63, 0⟩
/-- FAULT FR_BASE (R509). -/
def Reg.FAULT_FR_BASE : Nat := 0x10000
/-- Field BASE. -/
def Reg.FAULT_FR_BASE_BASE : Fld := ⟨Reg.FAULT_FR_BASE, 63, 0⟩
/-- FAULT FR_CTL (R509). -/
def Reg.FAULT_FR_CTL : Nat := 0x10008
/-- Field LOG2N. -/
def Reg.FAULT_FR_CTL_LOG2N : Fld := ⟨Reg.FAULT_FR_CTL, 4, 0⟩
/-- Field EN. -/
def Reg.FAULT_FR_CTL_EN : Fld := ⟨Reg.FAULT_FR_CTL, 5, 5⟩
/-- Field WPTR. -/
def Reg.FAULT_FR_CTL_WPTR : Fld := ⟨Reg.FAULT_FR_CTL, 63, 32⟩
/-- FAULT FR_STAT (R509). -/
def Reg.FAULT_FR_STAT : Nat := 0x10010
/-- Field LOST. -/
def Reg.FAULT_FR_STAT_LOST : Fld := ⟨Reg.FAULT_FR_STAT, 31, 0⟩
/-- FAULT SEV_SUM (R509). -/
def Reg.FAULT_SEV_SUM : Nat := 0x10018
/-- Field ADVISORY. -/
def Reg.FAULT_SEV_SUM_ADVISORY : Fld := ⟨Reg.FAULT_SEV_SUM, 0, 0⟩
/-- Field CONTEXT. -/
def Reg.FAULT_SEV_SUM_CONTEXT : Fld := ⟨Reg.FAULT_SEV_SUM, 1, 1⟩
/-- Field DEVICE. -/
def Reg.FAULT_SEV_SUM_DEVICE : Fld := ⟨Reg.FAULT_SEV_SUM, 2, 2⟩
/-- Field BOLT. -/
def Reg.FAULT_SEV_SUM_BOLT : Fld := ⟨Reg.FAULT_SEV_SUM, 3, 3⟩
/-- FAULT SEV_CNT0 (R509). -/
def Reg.FAULT_SEV_CNT0 : Nat := 0x10020
/-- Field ADVISORY. -/
def Reg.FAULT_SEV_CNT0_ADVISORY : Fld := ⟨Reg.FAULT_SEV_CNT0, 31, 0⟩
/-- Field CONTEXT. -/
def Reg.FAULT_SEV_CNT0_CONTEXT : Fld := ⟨Reg.FAULT_SEV_CNT0, 63, 32⟩
/-- FAULT SEV_CNT1 (R509). -/
def Reg.FAULT_SEV_CNT1 : Nat := 0x10028
/-- Field DEVICE. -/
def Reg.FAULT_SEV_CNT1_DEVICE : Fld := ⟨Reg.FAULT_SEV_CNT1, 31, 0⟩
/-- Field BOLT. -/
def Reg.FAULT_SEV_CNT1_BOLT : Fld := ⟨Reg.FAULT_SEV_CNT1, 63, 32⟩
/-- FAULT LAST_DEV (R509). -/
def Reg.FAULT_LAST_DEV : Nat := 0x10030
/-- Field CODE. -/
def Reg.FAULT_LAST_DEV_CODE : Fld := ⟨Reg.FAULT_LAST_DEV, 15, 0⟩
/-- Field SEVERITY. -/
def Reg.FAULT_LAST_DEV_SEVERITY : Fld := ⟨Reg.FAULT_LAST_DEV, 17, 16⟩
/-- FAULT LAST_DEV_PICK (R509). -/
def Reg.FAULT_LAST_DEV_PICK : Nat := 0x10038
/-- Field PICK. -/
def Reg.FAULT_LAST_DEV_PICK_PICK : Fld := ⟨Reg.FAULT_LAST_DEV_PICK, 63, 0⟩
/-- FAULT CTXF w (R509). -/
def Reg.FAULT_CTXF (i : Nat) : Nat := 0x10100 + 0x8 * i
/-- Field FAULTED. -/
def Reg.FAULT_CTXF_FAULTED (i : Nat) : Fld := ⟨(Reg.FAULT_CTXF i), 63, 0⟩

end Sys2Proof.Machine
end

