-- ==== Sys2Proof/Machine/Ops.lean ====
section
/-! DEFINITION. The named operations over registers, memory, streams and fault records that every meaning uses. -/
namespace Sys2Proof.Machine

/-! ### Registers (R12) -/

/-- The word a register holds. -/
def State.reg (s : State) (off : Nat) : W64 := smGet regReset s.regs off
/-- The state with a register holding `v`. -/
def State.setReg (s : State) (off : Nat) (v : W64) : State := { s with regs := smSet regReset s.regs off v }
/-- The value of a register field. -/
def State.fld (s : State) (f : Fld) : Nat := bitsOf (s.reg f.off).toNat f.hi f.lo
/-- Whether a one-bit field is set. -/
def State.flag (s : State) (f : Fld) : Bool := s.fld f != 0
/-- The state with a register field holding `v`. -/
def State.setFld (s : State) (f : Fld) (v : Nat) : State :=
  s.setReg f.off (BitVec.ofNat 64 (setBits (s.reg f.off).toNat f.hi f.lo v))
/-- A saturating addition to a register field. -/
def State.addSat (s : State) (f : Fld) (n : Nat) : State :=
  s.setFld f (min (s.fld f + n) (2 ^ (f.hi + 1 - f.lo) - 1))
/-- A wrapping addition to a register field. -/
def State.addWrap (s : State) (f : Fld) (n : Nat) : State := s.setFld f (s.fld f + n)
/-- A range of registers set back to their Reset column. -/
def State.resetRegs (s : State) (keep : Nat → Bool) : State :=
  { s with regs := s.regs.filter fun p => keep p.1 }

/-- The pick counter (R41). -/
def State.pick (s : State) : Nat := s.time.pick
/-- N: the grade's active loom count (R21, R39). -/
def State.nLooms (s : State) : Nat := s.fld Reg.GCTL_GRADE_ACTIVE_LOOMS
/-- Whether the present pick is the first that the counter showed in its shed: the boundary's events take place in it (R59). -/
def State.atShed (s : State) : Bool := s.pick % 8192 == 0 || s.time.shedAt == s.pick
/-- The compute die of a logical loom (R21). -/
def State.dieOf (s : State) (loom : Nat) : Nat := loom / (s.nLooms / 4)
/-- JOB_ACTIVE (R39). -/
def State.jobActive (s : State) : Bool := s.flag Reg.GCTL_DEV_STATE_JOB_ACTIVE
/-- Whether the device is in READY or RUN. -/
def State.readyOrRun (s : State) : Bool := s.fld Reg.GCTL_DEV_STATE_STATE == 3 || s.fld Reg.GCTL_DEV_STATE_STATE == 4
/-- RELEASING (R510). -/
def State.releasing (s : State) : Bool := s.flag Reg.GCTL_DEV_STATE_RELEASING
/-- The CTX slot of a stream's context (R33, R227). -/
def ctxSlot (loom stream : Nat) : Nat := 4 * loom + stream % 4
/-- A free value drawn with the counter advanced (log entry 1). -/
def State.free (s : State) : Nat × State := (Config.freeValue s.freeCtr, { s with freeCtr := s.freeCtr + 1 })

/-- `n` bytes that the spec leaves open, by kind and value (log entry 15). -/
def openBytes (n kind v : Nat) : List Byte := (List.range n).map fun k => (Config.freeBytes kind v).getD k 0

/-! ### The address map (R26 to R31) -/

/-- The end of HBM. -/
def hbmEnd : Nat := 0xF000000000
/-- The start and end of beam. -/
def beamBase : Nat := 0x10000000000
/-- The end of beam. -/
def beamEnd : Nat := 0x100C0000000
/-- The start of the bobbin windows. -/
def bobbinBase : Nat := 0x11000000000
/-- The end of the bobbin windows. -/
def bobbinEnd : Nat := 0x11020000000
/-- The start of the control window. -/
def ctlBase : Nat := 0x20000000000

/-- The tiers (R248) and what else an address can lie in. -/
inductive Tier where
  | hbm | beam | bobbin | hole
  deriving DecidableEq, Repr

/-- The tier of an address. -/
def tierOf (a : Nat) : Tier :=
  if a < hbmEnd then .hbm
  else if beamBase ≤ a ∧ a < beamEnd then .beam
  else if bobbinBase ≤ a ∧ a < bobbinEnd then .bobbin
  else .hole

/-- The bobbin window (logical loom) of a bobbin address (R30). -/
def bobbinLoom (a : Nat) : Nat := (a - bobbinBase) / 0x400000
/-- The bank, 96 d + 16 b + k, of a beam address (R29, R508). -/
def bankOf (a : Nat) : Nat := (a - beamBase) / 0x800000
/-- Whether the bytes from `a` to `b` lie wholly in HBM. -/
def inHbm (a len : Nat) : Bool := a + len ≤ hbmEnd

/-! ### Memory (R250, R262, R381) -/

/-- The byte that device memory holds at an address; an unlisted byte reads as 0 (R425; log entry 4). -/
def State.byte (s : State) (a : Nat) : Byte := smGet (fun _ => 0) s.mem a
/-- The canonical form of memory. -/
abbrev Memory.wf (m : List Host.Cell) : Prop := smWf (fun _ => (0 : Byte)) m = true

/-- `n` bytes from an address. -/
def State.bytes (s : State) (a n : Nat) : List Byte := (List.range n).map fun i => s.byte (a + i)
/-- A little-endian value of `n` bytes. -/
def State.load (s : State) (a n : Nat) : Nat := leValue (s.bytes a n)

/-- STATE of bank `96 d + 16 b + k` (R266): 0 ON, 1 RETAIN, 2 DARK. -/
def State.bank (s : State) (bank : Nat) : Nat := s.fld (Reg.HTAB_BANKS_STATE (bank / 96) (bank % 96 / 16) (bank % 16))
/-- Whether a byte lies in a bank that serves no access: one that is not ON, or that has closed (R266, R268). -/
def State.shut (s : State) (a : Nat) : Bool :=
  tierOf a == .beam && (s.pwr.closed.contains (bankOf a) || s.bank (bankOf a) != 0)

/-- Whether an address lies in a hole or in a bobbin window that belongs to no loom: the device refuses every access there (R31). -/
def State.absent (s : State) (a : Nat) : Bool :=
  tierOf a == .hole || (tierOf a == .bobbin && decide (s.nLooms ≤ bobbinLoom a))

/-- Whether memory takes no write of a byte: it is absent, or lies in a bank that is not ON (R31, R266). -/
def State.sealed (s : State) (a : Nat) : Bool := s.absent a || (tierOf a == .beam && s.bank (bankOf a) != 0)

/-- Whether a bank has closed to the command of an identity (R268): a command issued before the bank closed may have had its accesses
accepted before it. -/
def State.closedTo (s : State) (id a : Nat) : Bool := decide (smGet (fun _ => 0) s.pwr.closedAt (bankOf a) ≤ id)

/-- Whether a bank takes no write of a command that completes: one that is not ON, or that closed before the command issued (R268). -/
def State.shutTo (s : State) (id a : Nat) : Bool :=
  tierOf a == .beam && (s.bank (bankOf a) != 0 || (s.pwr.closed.contains (bankOf a) && s.closedTo id a))

/-- Whether nothing that the command of an identity wrote before it faulted stands at an address: the address is absent, its bank is
DARK, or the bank had closed when the command issued (R31, R266, R268). -/
def State.lostTo (s : State) (id a : Nat) : Bool :=
  s.absent a || (tierOf a == .beam && (s.bank (bankOf a) == 2 || (s.shut a && s.closedTo id a)))

/-- Whether a byte lies in a word that fails every read (R262). -/
def State.isBad (s : State) (a : Nat) : Bool := smGet (fun _ => false) s.badWords (a / 8 * 8)
/-- A byte as a read that raises no fault delivers it: a failing word's data never leaves, and nothing is carried out of an address that
the device refuses, so what the reader gets in its place is open (R31, R261; log entry 55). -/
def State.served (s : State) (a : Nat) : Byte := if s.isBad a || s.shut a || s.absent a then (openBytes 1 90 a).headD 0 else s.byte a
/-- A byte as the read of an operand delivers it: nothing is carried out of an absent address, so there it is open (R31; log entry 55). -/
def State.operandByte (s : State) (a : Nat) : Byte := if s.absent a then (openBytes 1 90 a).headD 0 else s.byte a
/-- `n` bytes from an address, as such a read delivers them. -/
def State.readOut (s : State) (a n : Nat) : List Byte := (List.range n).map fun k => s.served (a + k)
/-- Memory as such a read delivers it. -/
def State.servedMem (s : State) : List Host.Cell :=
  s.badWords.foldl (fun m w => (List.range 8).foldl (fun m k => smSet (fun _ => (0 : Byte)) m (w.1 + k) (s.served (w.1 + k))) m) s.mem

/-- The buffer offset that a device address has in a table entry's buffer (R254, R28 undone). -/
def entryOffset (w0 w1 : W64) (a : Nat) : Option Nat :=
  let base := bitsOf w0.toNat 47 0
  let ext := bitsOf w1.toNat 39 0
  let stack := bitsOf w0.toNat 55 52
  let o := if bitAt w0.toNat 51 then
      let g := (a - base) / 4096
      if g % 12 = stack then some ((g / 12) * 4096 + (a - base) % 4096) else none
    else some (a - base)
  match o with
  | some o => if base ≤ a ∧ o < ext then some o else none
  | none => none

/-- The device address of buffer offset `o` of an entry (R254). -/
def entryAddr (w0 : W64) (o : Nat) : Nat :=
  let base := bitsOf w0.toNat 47 0
  if bitAt w0.toNat 51 then base + ((o / 4096) * 12 + bitsOf w0.toNat 55 52) * 4096 + o % 4096 else base + o

/-- 2 MiB, the size of an image granule (R381). -/
def granuleSize : Nat := 0x200000

/-- The non-zero bytes of granule `g` of a buffer, by buffer offset. -/
def granuleBytes (m : List Host.Cell) (w0 w1 : W64) (g : Nat) : SMap Byte :=
  m.foldl (fun acc p => match entryOffset w0 w1 p.1 with
    | some o => if o / granuleSize = g then smSet (fun _ => (0 : Byte)) acc o p.2 else acc
    | none => acc) []

/-- Shadow granules in use (R382): the header, the capture copies and the copy-on-write copies, which take the shadow's granules in
this order (log entry 60). -/
def CkptRun.used (c : CkptRun) : Nat :=
  1 + c.bufs.foldl (fun n b => n + (if b.hbm then b.copied.length else b.count)) 0

/-- A port without the slots of a throw. -/
def PortSt.without (x : PortSt) (flow tseq : Nat) : PortSt :=
  let mine (t : TxSlot) : Bool := t.hdr.flow.toNat == flow && t.hdr.tseq.toNat == tseq
  { x with kept := x.kept.filter (!mine ·), due := x.due.filter (!mine ·.2), standby := x.standby.filter (!mine ·.2)
           injHeld := x.injHeld.filter (!mine ·.1) }

/-- The fabric without the throws of the checkpoint engine's drain, or of its SEND, that are still on their way: no later slot of them
is sent (R330). -/
def WvnSt.dropEngine (w : WvnSt) (send : Bool) : WvnSt :=
  let mine (t : ThrowRun) : Bool := t.engine.any (·.send == send)
  let gone := w.flows.flatMap fun p => (p.2.throws.filter mine).map fun t => (p.1, t.tseq)
  if gone.isEmpty then w
  else { w with flows := w.flows.map fun p => (p.1, { p.2 with throws := p.2.throws.filter (!mine ·) })
                ports := w.ports.map fun p => (p.1, gone.foldl (fun x t => x.without t.1 t.2) p.2) }

/-- The host ports without a drain: what they have sent for it is credited to no later one (R361). -/
def HostSt.dropDrain (h : HostSt) : HostSt :=
  let past (r : OutReq) : OutReq := match r.kind with
    | .granule _ | .closing => { r with kind := .past }
    | _ => r
  { h with acked := [], qps := h.qps.map fun p => (p.1, { p.2 with out := p.2.out.map past }) }

/-- The end of a drain that fails: the shadow is freed, every mark clears, OUTCOME reads 2 and FAILED sets (R386). -/
def State.drainFails (s : State) (reason : Nat) : State :=
  (((({ s with res := { s.res with ckpt := none }, wvn := s.wvn.dropEngine false, host := s.host.dropDrain }).setFld Reg.RES_CK_STAT_PHASE 0).setFld Reg.RES_CK_STAT_OUTCOME 2).setFld
    Reg.RES_CK_STAT_REASON reason).setFld Reg.RES_CK_STAT_USED 0 |>.setFld Reg.RES_CK_EVENT_FAILED 1

/-- The end of a drain whose closing record is acknowledged or DELIVERED: OUTCOME reads 1 and DONE sets, every mark clears and the
shadow is free (R384). -/
def State.drainDone (s : State) : State :=
  (((({ s with res := { s.res with ckpt := none }, wvn := s.wvn.dropEngine false, host := s.host.dropDrain }).setFld Reg.RES_CK_STAT_PHASE 0).setFld Reg.RES_CK_STAT_OUTCOME 1).setFld
    Reg.RES_CK_STAT_USED 0).setFld Reg.RES_CK_EVENT_DONE 1

/-- A SEND ends: SENDING clears (R385). -/
def State.sendEnds (s : State) : State :=
  ({ s with res := { s.res with sending := none }, wvn := s.wvn.dropEngine true }).setFld Reg.RES_BUDDY_STAT_SENDING 0

/-- Whether granule `g` of a designated buffer still has to be copied before a write (R381). -/
def needsCopy (c : CkptRun) (sent : Nat) (b : DesigBuf) (g : Nat) : Bool :=
  b.hbm && decide (g < b.count) && decide (sent ≤ b.first + g) && (smGet (fun _ => none) b.copied g).isNone && !c.closing

/-- Some bytes put into the shadow from its granule `k` on, in place of what `n` granules of it held (R382). -/
def State.toShadow (s : State) (k n : Nat) (bytes : SMap Byte) : State :=
  let at_ := (s.reg Reg.RES_SHADOW_BASE).toNat + k * granuleSize
  let s := { s with mem := s.mem.filter (fun p => !(decide (at_ ≤ p.1) && decide (p.1 < at_ + n * granuleSize)))
                    badWords := s.badWords.filter (fun p => !(decide (at_ ≤ p.1) && decide (p.1 < at_ + n * granuleSize))) }
  { s with mem := (bytes.filter fun p => !s.absent (at_ + p.1)).foldl (fun m p => smSet (fun _ => (0 : Byte)) m (at_ + p.1) p.2) s.mem }

/-- Granule `g` of a designated buffer marked as copied into the shadow's next granule (R381, R382). -/
def copyGranule (c : CkptRun) (i g : Nat) : CkptRun :=
  { c with bufs := c.bufs.zipIdx.map fun (b, j) => if j = i then { b with copied := smSet (fun _ => none) b.copied g (some c.used) } else b }

/-- Copy-on-write of one granule, with the failure of R382 when no shadow granule is free. -/
def State.copyOnWrite (s : State) (i g : Nat) : State :=
  match s.res.ckpt with
  | none => s
  | some c =>
    match c.bufs[i]? with
    | none => s
    | some b =>
      if needsCopy c (s.fld Reg.RES_CK_PROG_SENT) b g then
        if s.fld Reg.RES_SHADOW_LEN_GRANULES ≤ c.used then s.drainFails 1
        else
          let c' := copyGranule c i g
          let bytes := (granuleBytes s.servedMem b.w0 b.w1 g).map fun p => (p.1 - g * granuleSize, p.2)
          (({ s with res := { s.res with ckpt := some c' } }).toShadow c.used 1 bytes).setFld Reg.RES_CK_STAT_USED c'.used
      else s

/-- The copies that a write of one byte needs first (R381). -/
def State.copyBefore (s : State) (a : Nat) : State :=
  match s.res.ckpt with
  | none => s
  | some c =>
    c.bufs.zipIdx.foldl (fun st (b, i) => match entryOffset b.w0 b.w1 a with
      | some o => st.copyOnWrite i (o / granuleSize)
      | none => st) s

/-- A byte as memory holds it, without any other effect. -/
def State.poke (s : State) (a : Nat) (v : Byte) : State :=
  { s with mem := smSet (fun _ => (0 : Byte)) s.mem a v }

/-- One byte written under a mask (R68), after any copy-on-write (R381). -/
def State.store1 (s : State) (w : BWrite) : State :=
  let s := s.copyBefore w.addr
  s.poke w.addr ((s.byte w.addr &&& ~~~w.mask) ||| (w.val &&& w.mask))

/-- The bits of a byte that a list of writes covers. -/
def coverOf (ws : List BWrite) (a : Nat) : Byte := ws.foldl (fun m w => if w.addr = a then m ||| w.mask else m) 0

/-- Whether a list of writes covers the 8-byte word at an address whole (R260, R262). -/
def coversWord (ws : List BWrite) (word : Nat) : Bool := (List.range 8).all fun k => coverOf ws (word + k) == 0xFF

/-- The words that a list of writes covers whole stop failing (R262). -/
def State.healWords (s : State) (ws : List BWrite) : State :=
  { s with badWords := s.badWords.filter fun p => !coversWord ws p.1 }

/-- A list of byte writes, in order, as memory takes them. -/
def State.storeAll (s : State) (ws : List BWrite) : State := (ws.foldl State.store1 s).healWords ws

/-- A list of byte writes, in order, but for those of absent addresses and of banks that are not ON (R31, R266). -/
def State.store (s : State) (ws : List BWrite) : State := s.storeAll (ws.filter fun w => !s.sealed w.addr)

/-- Whole bytes from an address. -/
def plainWrites (a : Nat) (bs : List Byte) : List BWrite :=
  bs.zipIdx.map fun (b, i) => { addr := a + i, mask := 0xFF, val := b }

/-- Bytes stored from an address on. -/
def State.storeBytes (s : State) (a : Nat) (bs : List Byte) : State := s.store (plainWrites a bs)

/-- Every byte of a range of memory as zero. -/
def State.zeroRange (s : State) (lo hi : Nat) : State :=
  { s with mem := s.mem.filter (fun p => !(decide (lo ≤ p.1) && decide (p.1 < hi))),
           badWords := s.badWords.filter (fun p => !(decide (lo ≤ p.1) && decide (p.1 < hi))) }

/-! ### Fault records (R413, R502 to R506) -/

/-- Whether the ring takes records: it is enabled (R505), and HBM is trained (R413). -/
def State.ringOn (s : State) : Bool := s.flag Reg.FAULT_FR_CTL_EN && s.boot.trainDone

/-- The queue that a source's records pass through: 0 to 3 a compute die, 4 and 5 a host die (R506). -/
def State.queue (s : State) (q : Nat) : List FaultRec := smGet (fun _ => []) s.faults.queues q

/-- The 64 bytes of a fault record (R503), with the write pointer and size of the ring at its write. -/
def recordBytes (r : FaultRec) (wptr log2n : Nat) : List Byte :=
  let c := r.cmd.getD { loom := 0, stream := 0, slot := 0, tag := 0, iters := [] }
  let cmd := r.cmd.isSome
  let handle := if cmd then r.handle else none
  leBytes 8 r.pick ++ leBytes 2 r.code ++ leBytes 1 r.sev.code ++
  leBytes 1 (c.slot % 8 + 8 * bit cmd + 16 * bit handle.isSome + 32 * bit r.loom.isSome + 64 * bit r.sec) ++
  leBytes 1 (r.loom.getD 0) ++ leBytes 1 (c.stream % 4 + 4 * (c.stream % 16)) ++ leBytes 2 ((handle.getD 0).toNat) ++
  leBytes 3 c.tag.toNat ++ leBytes 1 (min c.iters.length 4 + 128 * (((wptr >>> log2n) + 1) % 2)) ++ leBytes 4 wptr ++
  leBytes 8 r.dw0 ++ leBytes 8 r.dw1 ++ leBytes 8 r.dw2 ++ (List.range 4).flatMap fun k => leBytes 4 (c.iters.getD k 0)

/-- Something sent on a pin or a link. -/
def State.out (s : State) (m : OutMsg) : State := { s with outbox := s.outbox ++ [m] }

/-- An event log entry formed: into the SRAM buffer of 256, the oldest lost when it is full (R467). Cores held in reset form none
(R451). -/
def State.logEvent (s : State) (code sev : Nat) (data : List Byte) : State :=
  if s.mgmt.heldReset then s else
  let e : LogEntry := { pick := s.pick, code := code, sev := sev, data := data }
  if 256 ≤ s.mgmt.logBuf.length then
    { s with mgmt := { s.mgmt with logBuf := s.mgmt.logBuf.drop 1 ++ [e], logLost := s.mgmt.logLost + 1 } }
  else { s with mgmt := { s.mgmt with logBuf := s.mgmt.logBuf ++ [e] } }

/-- The value of a fuse field: copy A when it passes its CRC, copy B otherwise (R416). -/
def FuseField.value? (f : FuseField) : Option Nat := if f.aOk then some f.a else if f.bOk then some f.b else none

/-- The UID that the fuses hold (R417). -/
def State.fuseUid (s : State) : Nat := (s.fuses.uid.value?).getD 0

/-- The sideband port's MAC address (R454): 0x02, then UID[39:0]. -/
def State.sidebandMac (s : State) : BitVec 48 := BitVec.ofNat 48 (0x02 * 2 ^ 40 + s.fuseUid % 2 ^ 40)

/-- The link-local address that modified EUI-64 forms from a MAC address (R454): fe80::/64, the first three bytes with the
universal/local bit inverted, FF FE, the last three. -/
def linkLocal (mac : BitVec 48) : BitVec 128 :=
  let hi := mac.toNat / 2 ^ 24
  let lo := mac.toNat % 2 ^ 24
  BitVec.ofNat 128 (0xFE80 * 2 ^ 112 + (hi ^^^ 0x020000) * 2 ^ 40 + 0xFFFE * 2 ^ 24 + lo)

/-- The sideband port's only IP address (R454). -/
def State.sidebandIp (s : State) : BitVec 128 := linkLocal s.sidebandMac

/-- The payload of a sideband datagram (R454): VERSION 1, a reserved byte, LENGTH, then the MCTP packet. -/
def sidebandPayload (packet : List Byte) : List Byte := [1, 0] ++ leBytes 2 packet.length ++ packet

/-- Message bytes in units of at most `n`; an empty message is one unit. -/
def msgUnits (n : Nat) (bs : List Byte) : List (List Byte) :=
  (List.range (max 1 ((bs.length + n - 1) / n))).map fun k => (bs.drop (n * k)).take n

/-- A message sent on a transport (R453, R454): over I3C in packets of the least transmission unit, 64 bytes, for which the in-band
interrupt is raised; the sideband port carries it in datagrams from port 8013, in units of 1,024 (log entry 59). -/
def State.transmitMsg (s : State) (ep : Endpoint) (kind : Nat) (data : List Byte) (m : OutMsg) : State :=
  match ep with
  | .i3c => ((msgUnits 64 data).foldl (fun s u => s.out (.i3cPacket (Config.mctpPacket kind u))) (s.out m)).out .inBand
  | .sideband => (msgUnits 1024 data).foldl (fun s u =>
      s.out (.datagram s.sidebandMac s.sidebandIp 8013 (sidebandPayload (Config.mctpPacket kind u)))) (s.out m)

/-- A platform event sent to the receiver, when one is set (R458); cores held in reset send none (R451). -/
def State.platformEvent (s : State) (cls : Nat) (data : List Byte) : State :=
  if s.mgmt.heldReset then s else
  match s.mgmt.receiver with
  | some (ep, _) => s.transmitMsg ep (256 + cls) data (.event ep cls data)
  | none => s

/-- A sensor event of a state sensor (R457, R458). -/
def State.stateEvent (s : State) (sensor v : Nat) : State := s.platformEvent 0 (leBytes 2 sensor ++ leBytes 1 v)
/-- DEV_STATE STATE set: 1 MGMT, 2 PARKED, 3 READY, 4 RUN (R39). -/
def State.setDevState (s : State) (v : Nat) : State :=
  if s.fld Reg.GCTL_DEV_STATE_STATE = v then s else (s.setFld Reg.GCTL_DEV_STATE_STATE v).stateEvent 131 v
/-- DEV_STATE PHASE set (R410). -/
def State.setPhase (s : State) (v : Nat) : State :=
  if s.fld Reg.GCTL_DEV_STATE_PHASE = v then s else (s.setFld Reg.GCTL_DEV_STATE_PHASE v).stateEvent 132 v

/-- A record held until the ring is first enabled (R413, R505): it goes into the event log when it is DEVICE or BOLT or
comes before the end of TRAIN, and is sent as an event; the 65th overwrites the oldest, and the loss is counted. -/
def State.holdRecord (s : State) (r : FaultRec) : State :=
  let s := if !s.boot.trainDone || decide (2 ≤ r.sev.code) then s.logEvent 0x0002 r.sev.code (recordBytes r 0 0) else s
  let s := s.platformEvent 0xF0 (recordBytes r 0 0)
  if 64 ≤ s.faults.held.length then
    ({ s with faults := { s.faults with held := s.faults.held.drop 1 ++ [r] } }.addSat Reg.FAULT_FR_STAT_LOST 1).logEvent
      0x0008 0xFF (leBytes 4 1)
  else { s with faults := { s.faults with held := s.faults.held ++ [r] } }

/-- A record raised: into its queue, or held until the ring is first enabled (R413, R506). A full queue drops an
ADVISORY record and counts it; any other record waits at its source, which the queue's tail stands for. -/
def State.raiseQ (s : State) (q : Nat) (r : FaultRec) : State :=
  let s := if r.sev = .advisory then s else { s with res := { s.res with invalidSeen := true } }
  if s.ringOn then
    if r.sev = .advisory && 512 ≤ (s.queue q).length then s.addSat Reg.FAULT_FR_STAT_LOST 1
    else { s with faults := { s.faults with queues := smSet (fun _ => []) s.faults.queues q (s.queue q ++ [r]) } }
  else s.holdRecord r

/-- The queue of a record that names no command (log entry 62): that of the die that raises it, where its place is known; of a logical
loom, its compute die; else that of host die 0. -/
def State.queueOf (s : State) (loom q : Option Nat) : Nat :=
  q.getD (match loom with
    | some l => s.dieOf l
    | none => 4)

/-- The queue of a host port's die (R345, R506). -/
def portQueue (port : Nat) : Nat := 4 + port / 2

/-- The queue of the compute die that serves a device address (R27, R29, R30, R506). -/
def State.memQueue (s : State) (a : Nat) : Nat :=
  match tierOf a with
  | .hbm => a / 4096 % 12 / 3
  | .beam => bankOf a / 96
  | .bobbin => s.dieOf (bobbinLoom a)
  | .hole => 4

/-- An ADVISORY record that names no command. -/
def State.advise (s : State) (code : Nat) (dw0 : Nat := 0) (dw1 : Nat := 0) (dw2 : Nat := 0) (loom : Option Nat := none)
    (q : Option Nat := none) : State :=
  s.raiseQ (s.queueOf loom q) { pick := s.pick, code := code, sev := .advisory, loom := loom, dw0 := dw0, dw1 := dw1, dw2 := dw2 }

/-- A DEVICE or BOLT record that names no command. -/
def State.raiseDevice (s : State) (code : Nat) (dw0 : Nat := 0) (dw1 : Nat := 0) (dw2 : Nat := 0)
    (sev : Severity := .device) (loom : Option Nat := none) (q : Option Nat := none) : State :=
  s.raiseQ (s.queueOf loom q) { pick := s.pick, code := code, sev := sev, loom := loom, dw0 := dw0, dw1 := dw1, dw2 := dw2 }

/-- The logical loom whose position an offset belongs to. -/
def loomOfReg (off : Nat) : Option Nat :=
  match blockAt off with
  | some (.ctx, i, _) => some (i / 4)
  | some (.loom, i, _) => some i
  | _ => none

/-- The logical loom that a refused access concerns: that of a register of its CTX slots or LOOM block, when the grade has
it (R503; log entry 43). -/
def State.loomAt (s : State) (addr : Nat) : Option Nat :=
  if ctlBase ≤ addr then (loomOfReg (addr - ctlBase)).filter (· < s.nLooms) else none

/-- HOST_ACCESS_DENIED for a register or memory access: 0xFFFF and the address (R508). -/
def State.denied (s : State) (addr : Nat) : State := s.advise 0x0502 0xFFFF addr (loom := s.loomAt addr)

/-! ### Streams, looms and commands -/

/-- The index of a stream in the table of streams. -/
def streamKey (loom stream : Nat) : Nat := 16 * loom + stream
/-- A stream (R227). -/
def State.stream (s : State) (loom stream : Nat) : StreamSt := smGet (fun _ => {}) s.streams (streamKey loom stream)
/-- The state with a stream replaced. -/
def State.setStream (s : State) (loom stream : Nat) (t : StreamSt) : State :=
  { s with streams := smSet (fun _ => {}) s.streams (streamKey loom stream) t }
/-- The array state of a loom. -/
def State.loom (s : State) (l : Nat) : LoomSt := smGet (fun _ => {}) s.looms l
/-- The state with a loom's array state replaced. -/
def State.setLoom (s : State) (l : Nat) (t : LoomSt) : State := { s with looms := smSet (fun _ => {}) s.looms l t }
/-- The fulling engine of a die. -/
def State.full (s : State) (d : Nat) : FullEng := smGet (fun _ => {}) s.fullEng d
/-- The state with a die's fulling engine replaced. -/
def State.setFull (s : State) (d : Nat) (t : FullEng) : State := { s with fullEng := smSet (fun _ => {}) s.fullEng d t }
/-- The command of an identity. -/
def State.cmd? (s : State) (id : Nat) : Option Cmd := s.cmds.find? (·.id == id)
/-- The state with a command replaced by one of the same identity. -/
def State.setCmd (s : State) (c : Cmd) : State :=
  { s with cmds := s.cmds.map fun x => if x.id = c.id then c else x }
/-- The state without a command. -/
def State.dropCmd (s : State) (id : Nat) : State := { s with cmds := s.cmds.filter (·.id != id) }
/-- The commands of a stream that are issued and not retired, in issue order; while a swatch program's stream is in
view (R399), that program's commands. -/
def State.cmdsOf (s : State) (loom stream : Nat) : List Cmd :=
  s.cmds.filter fun c => c.loom == loom && c.stream == stream && c.sw == s.swMode
/-- The commands of a context (R227). -/
def State.cmdsOfCtx (s : State) (loom ctx : Nat) : List Cmd :=
  s.cmds.filter fun c => c.loom == loom && c.stream % 4 == ctx
/-- The value of counter `i` of a stream (R221). -/
def StreamSt.ctr (t : StreamSt) (i : Nat) : W32 := smGet (fun _ => 0) t.ctrs i
/-- The stream with counter `i` holding `v`. -/
def StreamSt.setCtr (t : StreamSt) (i : Nat) (v : W32) : StreamSt := { t with ctrs := smSet (fun _ => 0) t.ctrs i v }
/-- The sixteen counters of a stream. -/
def StreamSt.allCtrs (t : StreamSt) : List W32 := (List.range 16).map t.ctr
/-- The count of semaphore `i` (R235). -/
def StreamSt.sem (t : StreamSt) (i : Nat) : W32 := smGet (fun _ => 0) t.sems i
/-- The stream with semaphore `i` holding `v`. -/
def StreamSt.setSem (t : StreamSt) (i : Nat) (v : W32) : StreamSt := { t with sems := smSet (fun _ => 0) t.sems i v }
/-- A saturating addition to a semaphore (R235). -/
def StreamSt.addSem (t : StreamSt) (i n : Nat) : StreamSt :=
  t.setSem i (BitVec.ofNat 32 (min ((t.sem i).toNat + n) 0xFFFFFFFF))

/-- Words of a ring (R228). -/
def StreamSt.ringWords (t : StreamSt) : Nat := 2 ^ (t.log2 - 3)

/-- Whether a stream is paced, and so the limit on its PENDING (R230). `bolt` says that the schedule installed in
WEAVE describes more than 4,096 devices. -/
def State.paced (s : State) (bolt : Bool) (slot : Nat) : Bool := bolt || s.flag (Reg.CTX_CCTL_FORCE_PACED slot)

/-- The stream resident on a context (R234). -/
def State.residentOf (s : State) (slot : Nat) : Option Nat := (smGet (fun _ => none) s.resident slot).map (·.1)

/-! ### Descriptors (R216) -/

/-- The sixteen words of a descriptor. -/
def State.desc (s : State) (i : Nat) : List W64 := smGet (fun _ => List.replicate 16 0) s.descs i
/-- The state with a descriptor replaced. -/
def State.setDesc (s : State) (i : Nat) (d : List W64) : State :=
  { s with descs := smSet (fun _ => List.replicate 16 0) s.descs i d }
/-- Word `i` of a descriptor, as a number. -/
def dword (d : List W64) (i : Nat) : Nat := (d.getD i 0).toNat
/-- ENTRY. -/
def dEntry (d : List W64) : Nat := bitsOf (dword d 0) 9 0
/-- DIE. -/
def dDie (d : List W64) : Nat := bitsOf (dword d 0) 11 10
/-- FORMAT. -/
def dFormat (d : List W64) : Nat := bitsOf (dword d 0) 19 16
/-- BSIZE. -/
def dBsize (d : List W64) : Nat := bitsOf (dword d 0) 21 20
/-- BDIR. -/
def dBdir (d : List W64) : Nat := bitsOf (dword d 0) 24 22
/-- INV_FAULT. -/
def dInvFault (d : List W64) : Bool := bitAt (dword d 0) 25
/-- POISON. -/
def dPoison (d : List W64) : Bool := bitAt (dword d 0) 26
/-- VALID. -/
def dValid (d : List W64) : Bool := bitAt (dword d 0) 27
/-- GEN. -/
def dGen (d : List W64) : Nat := bitsOf (dword d 0) 31 28
/-- MORDANT. -/
def dMordant (d : List W64) : Handle := BitVec.ofNat 16 (bitsOf (dword d 0) 47 32)
/-- FLOOR. -/
def dFloor (d : List W64) : Nat := bitsOf (dword d 0) 63 48
/-- NDIM. -/
def dNdim (d : List W64) : Nat := bitsOf (dword d 1) 2 0
/-- The extent of dimension `j`; 1 at or above NDIM. -/
def dExt (d : List W64) (j : Nat) : Nat := if j < dNdim d then dword d (2 + j) else 1
/-- The stride of dimension `j`, in elements. -/
def dStride (d : List W64) (j : Nat) : Nat := dword d (8 + j)

/-- A descriptor with some bits of word 0 replaced. -/
def dSet0 (d : List W64) (hi lo v : Nat) : List W64 := d.set 0 (BitVec.ofNat 64 (setBits (dword d 0) hi lo v))

/-- POISON set in the descriptor at a handle's INDEX (R220). -/
def State.poison (s : State) (h : Handle) : State :=
  s.setDesc (handleIndex h) (dSet0 (s.desc (handleIndex h)) 26 26 1)
/-- POISON set at each handle of a list (R220). -/
def State.poisonAll (s : State) (hs : List Handle) : State := hs.foldl State.poison s

/-- Words of a table entry (R254). -/
def State.htEntry (s : State) (die e : Nat) : W64 × W64 :=
  (s.reg (Reg.HTAB_ENTRY_W0 die e), s.reg (Reg.HTAB_ENTRY_W1 die e))

/-! ### Sticky flags (R93 to R96) -/

/-- The flags of a context with some more set (R93). -/
def State.setFlags (s : State) (loom ctx : Nat) (g : FlagGroup) (f : Flags) : State :=
  let fl := match g with
    | .array => Reg.LOOM_FLAGS_ARRAY loom ctx
    | .vector => Reg.LOOM_FLAGS_VECTOR loom ctx
    | .quant => Reg.LOOM_FLAGS_QUANT loom ctx
    | .full => Reg.LOOM_FLAGS_FULL loom ctx
  s.setFld fl (s.fld fl ||| f.toBits)

/-! ### Counters (R476 to R478) -/

/-- Whether the block of a slot is clocked (R477): a logical loom that is ON, on a powered die; an engine, stack, beam die or Weaven port
of a powered die, which PARKED, READY and RUN have (R434); a host port always. -/
def State.clocked (s : State) (slot : Nat) : Bool :=
  (decide (63 ≤ slot) && decide (slot < 67)) ||
    (decide (2 ≤ s.fld Reg.GCTL_DEV_STATE_STATE) && (decide (slot < 128) || s.fld (Reg.PWR_LPWR_STATE (slot - 128)) == 0))

/-- The loom events marked C, which a counter counts of the contexts in its CTXMASK (R478). -/
def ctxEvent (code : Nat) : Bool := [0x03, 0x04, 0x05, 0x06, 0x07, 0x08, 0x09, 0x0C, 0x0E, 0x0F].contains code

/-- `n` more of event `code` in a block's slot: every counter of the slot that selects the event, and the context where
the event is one of a context's, counts it modulo 2^48 (R476, R478). EVSEL 0 counts nothing, nor does a block that is not clocked
(R477). -/
def State.countEvent (s : State) (slot code ctx n : Nat) : State :=
  let k := slot - 1
  let step (v : SMap Nat) (i : Nat) : SMap Nat :=
    if s.clocked slot ∧ code ≠ 0 ∧ s.fld (Reg.CNT_CFG_EVSEL k i) = code ∧ (slot < 128 ∨ !ctxEvent code ∨ bitAt (s.fld (Reg.CNT_CFG_CTXMASK k i)) (ctx % 4)) then
      smSet (fun _ => 0) v (8 * slot + i) ((smGet (fun _ => 0) v (8 * slot + i) + n) % 2 ^ 48)
    else v
  { s with cnt := { s.cnt with vals := (List.range 8).foldl step s.cnt.vals } }

end Sys2Proof.Machine
end

