-- ==== Sys2Proof/Machine/Operands.lean ====
section
/-! DEFINITION. Operands: resolving handles (R217, R257), spans and where they lie (R218, R267), reading and writing
elements (R66 to R68), blocks, scales and mordant frames (R78 to R91). -/
namespace Sys2Proof.Machine

/-- A command rejected at issue: its fault, the detail words of R508 and the handle whose check failed (R504). -/
structure Reject where
  code : Nat
  dw0 : Nat := 0
  dw1 : Nat := 0
  dw2 : Nat := 0
  handle : Option Handle := none
  deriving DecidableEq, Repr

/-- A check passed, or the fault it raises. -/
def check (ok : Bool) (r : Reject) : Except Reject Unit := if ok then .ok () else .error r

/-- The checks of a list, in order: the first that fails decides. -/
def checkAll : List (Except Reject Unit) → Except Reject Unit
  | [] => .ok ()
  | .ok () :: rest => checkAll rest
  | .error r :: _ => .error r

/-! ### Resolution (R217, R257) -/

/-- The entry that a swatch descriptor stands for (R399): its tensor lies in OUT's buffer, from the device address that
word 14 holds on, and word 15 holds what OUT has left there. -/
def swatchEntry (d : List W64) : W64 × W64 :=
  (BitVec.ofNat 64 (bitsOf (dword d 14) 47 0 + 2 * 2 ^ 48 + 2 ^ 63), BitVec.ofNat 64 (bitsOf (dword d 15) 39 0))

/-- A handle resolved: its descriptor and its table entry. -/
def resolvePlain (s : State) (h : Handle) : Except Reject Operand :=
  let d := s.desc (handleIndex h)
  if !dValid d || dGen d != handleGen h then .error { code := 0x0105, handle := some h }
  else if dPoison d then .error { code := 0x0106, handle := some h }
  else if dNdim d = 0 ∨ dNdim d = 7 then .error { code := 0x0205, handle := some h }
  else
    let e := if s.swMode then swatchEntry d else s.htEntry (dDie d) (dEntry d)
    if bitAt e.1.toNat 63 then .ok { handle := h, words := d, w0 := e.1, w1 := e.2 }
    else .error { code := 0x0105, handle := some h }

/-- The element format of a resolved operand, when its code is not reserved. -/
def Operand.fmt? (o : Operand) : Option EFmt := EFmt.ofCode (dFormat o.words)
/-- The element format of a resolved operand (INT8 stands for a reserved code, which every command rejects). -/
def Operand.fmt (o : Operand) : EFmt := (o.fmt?).getD .int8
/-- Whether a descriptor's operand is block-scaled (R63, R78). -/
def Operand.scaled (o : Operand) : Bool := match o.fmt? with | some f => f.isNarrow | none => false

/-- A handle resolved, a block-scaled operand followed at once by its mordant handle (R217). -/
def resolve (s : State) (h : Handle) : Except Reject Operand :=
  match resolvePlain s h with
  | .error r => .error r
  | .ok o =>
    if o.scaled then
      match resolvePlain s (dMordant o.words) with
      | .error r => .error r
      | .ok m => .ok { o with mord := true, m0 := m.w0, m1 := m.w1 }
    else .ok o

/-- The handles that resolving an operand names (R217): its own and its mordant handle. -/
def Operand.names (o : Operand) : List Handle :=
  if o.scaled then [o.handle, dMordant o.words] else [o.handle]

/-- The table entries an operand has resolved, as 1024 * die + entry. -/
def Operand.entries (s : State) (o : Operand) : List Nat :=
  if s.swMode then [] else
  let own := 1024 * dDie o.words + dEntry o.words
  if o.mord then
    let m := s.desc (handleIndex (dMordant o.words))
    [own, 1024 * dDie m + dEntry m]
  else [own]

/-! ### Shape (R67, R79 to R81, R167, R216, R218) -/

/-- Extent of dimension `j`. -/
def Operand.ext (o : Operand) (j : Nat) : Nat := dExt o.words j
/-- Stride of dimension `j`. -/
def Operand.stride (o : Operand) (j : Nat) : Nat := dStride o.words j
/-- The dimensions. -/
def dims6 : List Nat := [0, 1, 2, 3, 4, 5]
/-- Elements of a tensor. -/
def Operand.total (o : Operand) : Nat := dims6.foldl (fun n j => n * o.ext j) 1
/-- Whether some extent is 0. -/
def Operand.isEmpty (o : Operand) : Bool := o.total == 0
/-- The extents of a tensor. -/
def Operand.exts (o : Operand) : List Nat := dims6.map o.ext

/-- The coordinates of logical index `e` over some extents, dimension 0 varying fastest (R167). -/
def coordsOf : List Nat → Nat → List Nat
  | [], _ => []
  | x :: xs, e => (if x = 0 then 0 else e % x) :: coordsOf xs (if x = 0 then 0 else e / x)

/-- The logical index of coordinates (R167). -/
def indexOf : List Nat → List Nat → Nat
  | x :: xs, i :: is => i + x * indexOf xs is
  | _, _ => 0

/-- The element offset of coordinates (R67). -/
def Operand.elemOff (o : Operand) (c : List Nat) : Nat :=
  (c.zipIdx.foldl (fun n (i, j) => n + i * o.stride j) 0)

/-- B, the block size (R78). -/
def blockSize (bsize : Nat) : Nat := match bsize with | 1 => 32 | 2 => 64 | 3 => 128 | _ => 1
/-- The block size of an operand. -/
def Operand.B (o : Operand) : Nat := blockSize (dBsize o.words)
/-- Blocks along dimension `j` (R81). -/
def Operand.blocksAlong (o : Operand) (j : Nat) : Nat :=
  if j = dBdir o.words then ceilDiv (o.ext j) o.B else o.ext j
/-- nb, the blocks of a tensor (R81). -/
def Operand.nb (o : Operand) : Nat := dims6.foldl (fun n j => n * o.blocksAlong j) 1
/-- The block index of the element at some coordinates (R79, R81). -/
def Operand.blockOf (o : Operand) (c : List Nat) : Nat :=
  indexOf (dims6.map o.blocksAlong) (c.zipIdx.map fun (i, j) => if j = dBdir o.words then i / o.B else i)
/-- Frames of a tensor's mordant stream (R87). -/
def Operand.frames (o : Operand) : Nat := ceilDiv o.nb 30

/-- The span of a descriptor in bytes (R218). -/
def Operand.span (o : Operand) : Nat :=
  if o.isEmpty then 0
  else
    let last := dims6.foldl (fun n j => n + (o.ext j - 1) * o.stride j) 0
    ceilDiv ((last + 1) * o.fmt.bits) 8

/-- The length of an operand's buffer (R254). -/
def Operand.bufLen (o : Operand) : Nat := bitsOf o.w1.toNat 39 0
/-- The length of its mordant buffer. -/
def Operand.mbufLen (o : Operand) : Nat := bitsOf o.m1.toNat 39 0
/-- Bytes of its mordant stream (R87), for a command that resolved its mordant handle. -/
def Operand.mspan (o : Operand) : Nat := if o.mord then 64 * o.frames else 0

/-- Dense: stride 0 is 1 and each stride is the one before times its extent (R275). -/
def Operand.dense (o : Operand) : Bool :=
  (List.range (dNdim o.words)).all fun j =>
    o.stride j == (List.range j).foldl (fun n k => n * o.ext k) 1

/-- The device addresses of the first and last byte that the placement rules judge, with those of the mordant stream
(R218): none where there is no such byte. -/
def Operand.ranges (o : Operand) : List (Nat × Nat) :=
  (if o.span = 0 then [] else [(entryAddr o.w0 0, entryAddr o.w0 (o.span - 1))]) ++
  (if o.mspan = 0 then [] else [(entryAddr o.m0 0, entryAddr o.m0 (o.mspan - 1))])

/-- The device addresses of bytes `lo` to `lo + n - 1` of a buffer: one run, or one for each granule of a pinned buffer (R28,
R254). -/
def bufRuns (w0 : W64) (lo n : Nat) : List (Nat × Nat) :=
  if n = 0 then []
  else if bitAt w0.toNat 51 then
    (List.range (ceilDiv (lo % 4096 + n) 4096)).map fun k =>
      (entryAddr w0 (max lo ((lo / 4096 + k) * 4096)), entryAddr w0 (min (lo + n - 1) ((lo / 4096 + k) * 4096 + 4095)))
  else [(entryAddr w0 lo, entryAddr w0 (lo + n - 1))]

/-- The bytes of `n` consecutive elements from an element offset on (R67). -/
def Operand.elemRuns (o : Operand) (off n : Nat) : List (Nat × Nat) :=
  if n = 0 then [] else bufRuns o.w0 (off * o.fmt.bits / 8) (((off + n) * o.fmt.bits + 7) / 8 - off * o.fmt.bits / 8)

/-- The bytes of a mordant frame. -/
def Operand.frameRuns (o : Operand) (f : Nat) : List (Nat × Nat) := bufRuns o.m0 (64 * f) 64

/-- The bytes that hold a tensor's elements: those of its span that some element has. -/
def Operand.dataRuns (o : Operand) : List (Nat × Nat) :=
  if o.isEmpty then []
  else if o.dense then o.elemRuns 0 o.total
  else (List.range o.total).flatMap fun e => o.elemRuns (o.elemOff (coordsOf o.exts e)) 1

/-- The bytes of a tensor's elements and of its mordant stream. -/
def Operand.runs (o : Operand) : List (Nat × Nat) := o.dataRuns ++ bufRuns o.m0 0 o.mspan

/-- Whether a byte lies in some runs. -/
def inRuns (rs : List (Nat × Nat)) (a : Nat) : Bool := rs.any fun r => decide (r.1 ≤ a) && decide (a ≤ r.2)

/-- Whether no two elements of a tensor can share an offset: of any two dimensions with more than one index, one steps over
the whole of the other. -/
def Operand.nested (o : Operand) : Bool :=
  dims6.all fun j => dims6.all fun k => j == k || o.ext j ≤ 1 || o.ext k ≤ 1 ||
    decide (o.stride j * o.ext j ≤ o.stride k) || decide (o.stride k * o.ext k ≤ o.stride j)

/-- Whether several elements of a tensor lie at an element offset (R218). -/
def Operand.shares (o : Operand) (off : Nat) : Bool :=
  !o.nested && 1 < ((List.range o.total).filter fun e => o.elemOff (coordsOf o.exts e) == off).length

/-- Whether every judged byte lies in the bobbin window of a loom. -/
def inBobbin (loom : Nat) (r : Nat × Nat) : Bool :=
  tierOf r.1 == .bobbin && tierOf r.2 == .bobbin && bobbinLoom r.1 == loom && bobbinLoom r.2 == loom
/-- Whether every judged byte lies in the beam of a compute die. -/
def inBeam (die : Nat) (r : Nat × Nat) : Bool :=
  tierOf r.1 == .beam && tierOf r.2 == .beam && bankOf r.1 / 96 == die && bankOf r.2 / 96 == die
/-- Whether every judged byte lies in HBM. -/
def inHbmRange (r : Nat × Nat) : Bool := tierOf r.1 == .hbm && tierOf r.2 == .hbm

/-- R125 order 5 and R189: an operand lies in the loom's own bobbin or in the beam of its compute die. -/
def Operand.nearLoom (o : Operand) (s : State) (loom : Nat) : Bool :=
  o.ranges.all fun r => inBobbin loom r || inBeam (s.dieOf loom) r

/-- The first byte of an operand that lies in a bank that is not ON: its address and its bank (R267). -/
def darkBank (s : State) (o : Operand) : Option (Nat × Nat) :=
  o.ranges.findSome? fun r =>
    if tierOf r.1 == .beam then
      (((List.range (bankOf r.2 + 1 - bankOf r.1)).map (· + bankOf r.1)).find? fun b =>
        s.fld (Reg.HTAB_BANKS_STATE (b / 96) (b % 96 / 16) (b % 16)) != 0).map fun b =>
          (max r.1 (beamBase + 0x800000 * b), b)
    else none

/-- The check of R267 over a list of operands. -/
def checkBanks (s : State) (os : List Operand) : Except Reject Unit :=
  match os.findSome? fun o => (darkBank s o).map fun b => (o, b) with
  | some (o, b) => .error { code := 0x0302, dw0 := b.1, dw1 := b.2, handle := some o.handle }
  | none => .ok ()

/-- Extents that must be equal; the detail words hold the first extent of `x` that differs and the one it must equal
(R508), the handle is the one the rule names. -/
def sameExts (x y : Operand) (named : Handle) : Except Reject Unit :=
  match dims6.find? fun j => x.ext j != y.ext j with
  | some j => .error { code := 0x0104, dw0 := x.ext j, dw1 := y.ext j, handle := some named }
  | none => .ok ()

/-- Pairs of sizes that must be equal; the detail words hold the first pair that differs (R508). -/
def checkExts (ps : List (Nat × Nat)) (named : Handle) : Except Reject Unit :=
  match ps.find? fun p => p.1 != p.2 with
  | some p => .error { code := 0x0104, dw0 := p.1, dw1 := p.2, handle := some named }
  | none => .ok ()

/-- Spans against the table entry, mordant lengths, and the stride rule of a destination (R87, R218). -/
def checkSpan (o : Operand) (dest : Bool) : Except Reject Unit :=
  checkAll [
    check (o.span ≤ o.bufLen) { code := 0x0104, dw0 := o.span, dw1 := o.bufLen, handle := some o.handle },
    check (o.mspan ≤ o.mbufLen) { code := 0x0104, dw0 := o.mspan, dw1 := o.mbufLen, handle := some (dMordant o.words) },
    match dims6.find? fun j => dest && 1 < o.ext j && o.stride j == 0 with
    | some j => .error { code := 0x0104, dw0 := o.ext j, dw1 := 1, handle := some o.handle }
    | none => .ok ()]

/-- The format rules that hold for every named operand: a reserved code, the INT4 stride rule, BSIZE, BDIR and the
scale floor (R63, R67, R78, R86). DESIGN CHOICE (log entry 53): the INT4 rule covers the strides of the tensor's own
dimensions, those below NDIM. -/
def checkFormat (o : Operand) : Except Reject Unit :=
  let bad : Except Reject Unit := .error { code := 0x0205, handle := some o.handle }
  match o.fmt? with
  | none => bad
  | some f =>
    if f = .int4 ∧ (o.stride 0 ≠ 1 ∨ (List.range (dNdim o.words)).any fun j => j != 0 && o.stride j % 2 == 1) then bad
    else if f.isNarrow then
      if dBsize o.words = 0 ∨ 5 < dBdir o.words ∨ !scaleValid (dFloor o.words) then bad else .ok ()
    else if dBsize o.words ≠ 0 then bad else .ok ()

/-! ### Elements (R66 to R68) -/

/-- The bits of the element at an element offset. -/
def readElem (s : State) (o : Operand) (off : Nat) : Nat :=
  match o.fmt with
  | .int4 =>
    let b := (s.operandByte (entryAddr o.w0 (off / 2))).toNat
    if off % 2 = 0 then b % 16 else b / 16
  | f =>
    let n := f.bits / 8
    leValue ((List.range n).map fun i => s.operandByte (entryAddr o.w0 (off * n + i)))

/-- The writes that put `code` at an element offset; an INT4 element changes its own nibble (R68). -/
def elemWrites (o : Operand) (off code : Nat) : List BWrite :=
  match o.fmt with
  | .int4 =>
    if off % 2 = 0 then [{ addr := entryAddr o.w0 (off / 2), mask := 0x0F, val := BitVec.ofNat 8 (code % 16) }]
    else [{ addr := entryAddr o.w0 (off / 2), mask := 0xF0, val := BitVec.ofNat 8 (code % 16 * 16) }]
  | f =>
    let n := f.bits / 8
    (leBytes n code).zipIdx.map fun (b, i) => { addr := entryAddr o.w0 (off * n + i), mask := 0xFF, val := b }

/-- The writes of an element of a destination. What elements that share their bytes leave there is not defined (R218). -/
def Operand.put (o : Operand) (off code : Nat) : List BWrite :=
  elemWrites o off (if o.shares off then Config.sharedCode (entryAddr o.w0 (off * o.fmt.bits / 8)) % 2 ^ o.fmt.bits else code)

/-- The element at coordinates. -/
def Operand.read (o : Operand) (s : State) (c : List Nat) : Nat := readElem s o (o.elemOff c)

/-! ### Mordant frames (R87 to R91) -/

/-- The header word that frame `f` of a tensor must carry (R88). -/
def frameHeader (h : Handle) (f : Nat) : Nat :=
  (30 * f) % 2 ^ 24 + ((h.toNat / 256) ^^^ (h.toNat % 256)) * 2 ^ 24

/-- The header word and the thirty entries of a frame as memory holds them. -/
def readFrame (s : State) (o : Operand) (f : Nat) : Nat × List Nat :=
  let b (i n : Nat) : Nat := leValue ((List.range n).map fun j => s.operandByte (entryAddr o.m0 (64 * f + i + j)))
  (b 0 4, (List.range 30).map fun i => b (4 + 2 * i) 2)

/-- What reading a frame raises for a command that uses some of its blocks (R85, R91). -/
def frameFault (s : State) (o : Operand) (f : Nat) (blocks : List Nat) : Option LateFault :=
  let fr := readFrame s o f
  if fr.1 ≠ frameHeader o.handle f then
    some { code := 0x0201, dw0 := (30 * f) % 2 ^ 24, dw1 := fr.1 }
  else if dInvFault o.words then
    (blocks.find? fun b => b / 30 == f && !scaleValid (fr.2.getD (b % 30) 0)).map fun b =>
      { code := 0x0202, dw0 := b, dw1 := fr.2.getD (b % 30) 0 }
  else none

/-- The scale of a block, after the replacement of R84, and whether it was replaced. -/
def scaleOf (s : State) (o : Operand) (b : Nat) : Nat × Bool :=
  let e := leValue ((List.range 2).map fun j => s.operandByte (entryAddr o.m0 (64 * (b / 30) + 4 + 2 * (b % 30) + j)))
  if scaleValid e then (e, false) else (dFloor o.words, true)

/-- Whether results may be formed with the scale of a block: with INV_FAULT an invalid entry faults the command that reads it and
enters no result (R85). -/
def usable (s : State) (o : Operand) (b : Nat) : Bool := !(o.scaled && dInvFault o.words && (scaleOf s o b).2)

/-- A list without repeats, first occurrences kept. -/
def nubNat (l : List Nat) : List Nat := l.foldl (fun acc x => if acc.contains x then acc else acc ++ [x]) []

/-- The frames that hold some blocks, in the order first needed, with what each raises. -/
def framesFor (s : State) (o : Operand) (blocks : List Nat) : List (Option LateFault) :=
  (nubNat (blocks.map (· / 30))).map fun f => frameFault s o f blocks

/-- The writes of a whole frame: header, the entries that `entry` gives for real blocks, padding (R89, R90). -/
def frameWrites (o : Operand) (f : Nat) (entry : Nat → Nat) : List BWrite :=
  let hdr := (leBytes 4 (frameHeader o.handle f))
  let es := (List.range 30).flatMap fun i => leBytes 2 (if 30 * f + i < o.nb then entry (30 * f + i) else 0)
  (hdr ++ es).zipIdx.map fun (b, i) => { addr := entryAddr o.m0 (64 * f + i), mask := 0xFF, val := b }

/-- The eight 64-bit words of a frame, for a digest message (R367). -/
def frameWords (o : Operand) (f : Nat) (entry : Nat → Nat) : List Nat :=
  let ws := frameWrites o f entry
  (List.range 8).map fun i => leValue (((ws.drop (8 * i)).take 8).map (·.val))

/-- The value of an element: a narrow code under its block's scale, any other code by itself (R77, R83). -/
def elemValue (s : State) (o : Operand) (c : List Nat) : FVal × Bool :=
  let code := o.read s c
  if o.scaled then
    let sc := scaleOf s o (o.blockOf c)
    (((o.fmt.value code).mul (bf16.decode sc.1)).1, sc.2)
  else (o.fmt.value code, false)

/-! ### Holds on named handles (R238) -/

/-- The handles a command names, those its destination fields hold, and those whose buffers it writes: a block-scaled
destination brings its mordant handle (log entry 16). -/
structure Named where
  names : List Handle := []
  dsts : List Handle := []
  faultOn : Option Handle := none
  wrote : List Handle := []
  deriving DecidableEq, Repr

/-- The handles that naming one handle names (R217). -/
def named (s : State) (h : Handle) : List Handle :=
  let d := s.desc (handleIndex h)
  match EFmt.ofCode (dFormat d) with
  | some f => if f.isNarrow then [h, dMordant d] else [h]
  | none => [h]

/-- Handles read and handles written, as a command names them. -/
def nameAll (s : State) (reads writes : List Handle) : Named :=
  { names := (writes ++ reads).flatMap (named s), dsts := writes, wrote := writes.flatMap (named s) }

/-- Whether a command must wait for an earlier command of its stream. -/
def handleHeld (earlier : List Cmd) (n : Named) : Bool :=
  earlier.any fun c => n.names.any (c.wrote.contains ·) || n.wrote.any (c.names.contains ·)

end Sys2Proof.Machine
end

