-- ==== Sys2Proof/Machine/Issue.lean ====
section
/-! DEFINITION. Issue, retirement and faults of commands, as every engine shares them: budgets (R242), digest records
(R366 to R368), what lands at retirement (R237), a stream's fault and drain (R133, R220, R236), the retirement of
bundles (R212, R231, R244) and stopping a stream (R511). -/
namespace Sys2Proof.Machine

/-- The context of an issuing command (R227). -/
def IssueCtx.ctx (i : IssueCtx) : Nat := i.stream % 4
/-- A counter as read at issue. -/
def IssueCtx.ctr (i : IssueCtx) (k : Nat) : Nat := (i.snap.getD k 0).toNat
/-- The target pick of a WAITPICK (R235). -/
def pickTarget (i : IssueCtx) : PickSrc → Nat
  | .imm t => t.toNat
  | .ctrs ch cl => i.ctr ch.toNat * 2 ^ 32 + i.ctr cl.toNat
/-- The step number of the issuing context (R169). -/
def IssueCtx.step (i : IssueCtx) (s : State) : Nat := i.ctr (s.fld (Reg.LOOM_GEN_STEPCTR i.loom i.ctx))

/-- The outcome of one attempt to issue. -/
inductive IssueRes where
  | issued (s : State)
  | held (k : HoldKind)
  | rejected (r : Reject)

/-- Whether a slot command reserves a digest record (R366). -/
def slotWrites : SlotCmd → Bool
  | .mstream f => f.accm == 0 || f.accm == 3 || f.accm == 4
  | .mdrain f => f.mode != 2
  | .vec _ _ | .move _ _ | .fill _ _ | .copy _ _ | .xpose _ | .catchAt _ _ _ | .statread _ | .qgrad _ | .full _ => true
  | _ => false

/-- Whether a slot command is a matrix command that runs in the arrays (R133). -/
def slotMatrix : SlotCmd → Bool
  | .mload _ | .mstream _ | .mdrain _ => true
  | _ => false

/-- Whether a slot command belongs to the mover (R284). -/
def slotMover : SlotCmd → Bool
  | .move _ _ | .fill _ _ | .copy _ _ | .xpose _ | .throwTo _ _ _ | .catchAt _ _ _ => true
  | _ => false

/-- Whether a slot command is a vector command (R206). -/
def slotVector : SlotCmd → Bool
  | .vec _ _ => true
  | _ => false

/-- SLACK of a context (R246). -/
def State.slack (s : State) (loom ctx : Nat) : Nat := s.fld (Reg.CTX_BUDGET_SLACK (4 * loom + ctx))
/-- WAIT_LIMIT of a context (R246). -/
def State.waitLimit (s : State) (loom ctx : Nat) : Nat := s.fld (Reg.CTX_BUDGET_WAIT_LIMIT (4 * loom + ctx))

/-- The budget in picks of a command with completion bound `nc` loom cycles (R242), with the 16 cycles that digests
add (R369). -/
def State.budget (s : State) (loom ctx : Nat) (nc : Nat) : Nat :=
  let n := nc + (if s.flag (Reg.LOOM_DIG_CTL_EN loom ctx) then 16 else 0)
  ceilDiv (5 * n) (if s.flag Reg.GCTL_DEV_STATE_CAL_LIGHT then 696 else 768) + s.slack loom ctx

/-- What an engine says of a command it starts. -/
structure Launch where
  /-- N_c, the completion bound in loom cycles (R242); none for a command without a budget. -/
  nc : Option Nat
  handles : Named := {}
  entries : List Nat := []
  reads : List (Nat × Nat) := []
  writes : List (Nat × Nat) := []
  plan : Plan := {}
  frames : List (Option LateFault) := []
  phase : Phase := .plain
  deriving DecidableEq, Repr

/-- The next digest record of a context reserved, when digests are on for a writing command (R366): its address. -/
def State.reserveDigest (s : State) (loom ctx : Nat) (c : SlotCmd) : Option Nat × State :=
  if s.flag (Reg.LOOM_DIG_CTL_EN loom ctx) && slotWrites c then
    let w := s.fld (Reg.LOOM_DIG_CTL_WPTR loom ctx)
    let n := 2 ^ s.fld (Reg.LOOM_DIG_CTL_LOG2N loom ctx)
    (some ((s.reg (Reg.LOOM_DIG_BASE loom ctx)).toNat + 32 * (w % n)), s.addWrap (Reg.LOOM_DIG_CTL_WPTR loom ctx) 1)
  else (none, s)

/-- A command issued: it joins the commands in flight (R237). -/
def State.launch (s : State) (i : IssueCtx) (c : SlotCmd) (l : Launch) : State :=
  let r := s.reserveDigest i.loom i.ctx c
  let cmd : Cmd :=
    { id := s.nextId, loom := i.loom, stream := i.stream, slot := i.slot, tag := i.tag, bno := i.bno, iters := i.iters,
      c := c, issuePick := s.pick, budget := l.nc.map (s.budget i.loom i.ctx), cycles := l.nc.getD 0, dsts := l.handles.dsts, faultOn := l.handles.faultOn, names := l.handles.names,
      wrote := l.handles.wrote, reads := l.reads, writes := l.writes, entries := l.entries,
      plan := l.plan, frames := l.frames, phase := l.phase, digest := r.1, sw := s.swMode }
  { r.2 with cmds := r.2.cmds ++ [cmd], nextId := s.nextId + 1 }

/-! ### Digest records (R367, R368) -/

/-- The 32 bytes of a digest record. -/
def digestRecord (c : Cmd) (digest : Nat) (faulted : Bool) : List Byte :=
  leBytes 8 digest ++ leBytes 3 c.tag.toNat ++
  leBytes 1 (c.stream % 16 + 16 * (c.stream % 4) + 64 * bit faulted) ++
  leBytes 1 (c.slot % 8) ++ leBytes 3 0 ++ (List.range 4).flatMap fun k => leBytes 4 (c.iters.getD k 0)

/-- A word put in its place among words in the order of R367. -/
def insertWord (w : Nat × Nat × Nat) : List (Nat × Nat × Nat) → List (Nat × Nat × Nat)
  | [] => [w]
  | x :: rest =>
    if w.1 < x.1 ∨ (w.1 = x.1 ∧ w.2.1 < x.2.1) then w :: x :: rest else x :: insertWord w rest

/-- The message of R367 from the words as they were written. -/
def digestMessage (ws : List (Nat × Nat × Nat)) : List Nat := (ws.foldr insertWord []).map (·.2.2)

/-- A reserved record filled: with the digest of the words written, or with FAULTED (R366). -/
def State.fillDigest (s : State) (c : Cmd) (words : List (Nat × Nat × Nat)) (faulted : Bool) : State :=
  match c.digest with
  | none => s
  | some a =>
    s.storeBytes a (digestRecord c (if faulted then 0 else gdigest (s.reg Reg.RES_DKEY).toNat 0 (digestMessage words)) faulted)

/-! ### A stream's fault (R236) -/

/-- The name that a record gives a command. -/
def Cmd.name (c : Cmd) : CmdName := { loom := c.loom, stream := c.stream, slot := c.slot, tag := c.tag, iters := c.iters }

/-- The half that a context's claim uses for planes and accumulation: half 0 also for a FULL claim (R135); the flag
says FULL. -/
def LoomSt.claimOf (t : LoomSt) (ctx : Nat) : Option (Nat × Bool) :=
  if t.own0 = some ctx then some (0, t.full) else if t.own1 = some ctx then some (1, false) else none

/-- The open accumulation of a half. -/
def LoomSt.acc (t : LoomSt) (h : Nat) : Option Acc := if h = 0 then t.acc0 else t.acc1
/-- The array state with the accumulation of a half replaced. -/
def LoomSt.setAcc (t : LoomSt) (h : Nat) (a : Option Acc) : LoomSt := if h = 0 then { t with acc0 := a } else { t with acc1 := a }
/-- The plane of a half. -/
def LoomSt.plane (t : LoomSt) (h p : Nat) : Plane := smGet (fun _ => {}) t.planes (2 * h + p)
/-- The array state with a plane replaced. -/
def LoomSt.setPlane (t : LoomSt) (h p : Nat) (x : Plane) : LoomSt := { t with planes := smSet (fun _ => {}) t.planes (2 * h + p) x }
/-- The plane that the most recent MLOAD of a half loaded. -/
def LoomSt.recent (t : LoomSt) (h : Nat) : Option Nat := if h = 0 then t.recent0 else t.recent1
/-- The array state with that plane replaced. -/
def LoomSt.setRecent (t : LoomSt) (h : Nat) (p : Option Nat) : LoomSt :=
  if h = 0 then { t with recent0 := p } else { t with recent1 := p }

/-- The planes of a FULL claim, kept as half 0's, stand in both halves once it is released (R105, R135). -/
def LoomSt.sharePlanes (t : LoomSt) : LoomSt :=
  if t.full then { (t.setPlane 1 0 (t.plane 0 0)).setPlane 1 1 (t.plane 0 1) with recent1 := t.recent0 } else t

/-- The claim of a context on a loom released, with the planes and accumulations of its halves (R118). -/
def LoomSt.release (t : LoomSt) (ctx : Nat) : LoomSt :=
  let t := if t.own0 = some ctx then t.sharePlanes else t
  { t with own0 := if t.own0 = some ctx then none else t.own0
           own1 := if t.own1 = some ctx then none else t.own1
           full := if t.own0 = some ctx then false else t.full
           acc0 := if t.own0 = some ctx then none else t.acc0
           acc1 := if t.own1 = some ctx && t.own0 != some ctx then none else t.acc1
           dropping := t.dropping.filter (·.1 != ctx) }

/-- Whether some matrix command of a stream from an identity on is issued and not retired. -/
def State.matrixBusy (s : State) (loom stream fromId : Nat) : Bool :=
  (s.cmdsOf loom stream).any fun c => slotMatrix c.c && decide (fromId ≤ c.id)

/-- The claim of a context released once the last of the later matrix commands has drained (R133). -/
def State.settleClaim (s : State) (loom stream : Nat) : State :=
  let t := s.loom loom
  match t.dropping.find? (·.1 == stream % 4) with
  | none => s
  | some (_, fromId) => if s.matrixBusy loom stream fromId then s else s.setLoom loom (t.release (stream % 4))

/-- A plane left not loaded (R133). -/
def LoomSt.unload (t : LoomSt) (c : Cmd) : LoomSt :=
  match c.phase with
  | .mload h p _ _ _ _ _ _ => t.setPlane h p {}
  | _ => t

/-- The accumulation that a matrix command works on. -/
def Cmd.accId (c : Cmd) : Option Nat :=
  match c.phase with
  | .mstream _ _ _ aid _ _ _ _ _ _ _ _ _ => some aid
  | .mdrain _ _ a _ _ _ => some a.aid
  | _ => none

/-- Whether a matrix command was passing out an accumulation that its issue closed. -/
def Cmd.closing (c : Cmd) : Bool :=
  match c.phase with
  | .mstream _ _ accm _ _ _ _ _ _ _ _ _ _ => accm == 3
  | .mdrain _ _ _ _ _ _ => true
  | _ => false

/-- What the arrays do at a fault of a stream (R133): the open accumulation is discarded and DISCARDED sets, planes of
MLOADs that fault or drain are left not loaded, and the claim is released when the last matrix command from an identity
on has drained, at once when there is none. -/
def State.arraysFault (s : State) (loom stream fromId : Nat) (gone : List Cmd) : State :=
  let t := s.loom loom
  match t.claimOf (stream % 4) with
  | none => s
  | some (h, _) =>
    let s := if (t.acc h).isSome || gone.any Cmd.closing then s.setFld (Reg.LOOM_ACC_DISCARDED loom h) 1 else s
    let aids := (match t.acc h with | some a => [a.aid] | none => []) ++ gone.filterMap Cmd.accId
    let t := gone.foldl LoomSt.unload (t.setAcc h none)
    let t := { t with cells := t.cells.filter fun p => !aids.contains p.1 }
    let t := { t with dropping := if t.dropping.any (·.1 == stream % 4) then t.dropping else t.dropping ++ [(stream % 4, fromId)] }
    (s.setLoom loom t).settleClaim loom stream

/-- The handle that a record names when a command faults after issue (R504): the destination field, else its first operand. -/
def Cmd.faultHandle (c : Cmd) : Option Handle := c.faultOn.or (c.dsts.head?.or c.names.head?)

/-- A stream whose FULL waits is listed for its engine, after those that reached issue before it. -/
def enqueueFull (s : State) (loom stream : Nat) : State :=
  let die := s.dieOf loom
  let t := s.full die
  if t.waiting.contains (loom, stream) then s else s.setFull die { t with waiting := t.waiting ++ [(loom, stream)] }

/-- A stream that no longer waits for an engine leaves its list. -/
def dequeueFull (s : State) (loom stream : Nat) : State :=
  let die := s.dieOf loom
  let t := s.full die
  s.setFull die { t with waiting := t.waiting.filter (· != (loom, stream)) }

/-- A stream moved to FAULTED by its first fault, with FAULT_INFO (R246, R506); commands not yet issued are dropped
(R236). A swatch program's stream only stops (R400). -/
def State.enterFaulted (s : State) (n : CmdName) (f : LateFault) : State :=
  let s := dequeueFull s n.loom n.stream
  let t := s.stream n.loom n.stream
  let slot := ctxSlot n.loom n.stream
  let t := { t with state := .faulted, faultShown := false, queue := [], hold := none, stopReq := false,
                    fault := some (f.code, f.dw0, f.dw1, f.dw2) }
  if s.swMode then s.setStream n.loom n.stream t
  else
    ((((s.setStream n.loom n.stream t).setFld (Reg.CTX_FAULT_INFO_CODE slot) f.code).setFld
      (Reg.CTX_FAULT_INFO_SLOT slot) n.slot).setFld (Reg.CTX_FAULT_INFO_STREAM slot) n.stream).setFld
      (Reg.CTX_FAULT_INFO_TAG slot) n.tag.toNat

/-- The faulting bundle and every later one never retire (R232, R236); what a selected bundle's trace record becomes
(R484). -/
def State.dropBundles (s : State) (n : CmdName) (code bno : Nat) : Option TraceRec × State :=
  let t := s.stream n.loom n.stream
  let tr := (t.bundles.find? (·.bno == bno)).bind (·.trace)
  (tr.map fun r => { r with faulted := true, code := code },
   s.setStream n.loom n.stream { t with bundles := t.bundles.filter fun b => decide (b.bno < bno) })

/-- The later commands of a stream, already issued, begin to drain: their destinations are poisoned (R220, R236). -/
def State.drainLater (s : State) (loom stream fromId : Nat) : State :=
  let later := (s.cmdsOf loom stream).filter fun c => fromId ≤ c.id && !c.draining
  let s := later.foldl (fun s c => s.poisonAll c.dsts) s
  { s with cmds := s.cmds.map fun c =>
      if c.loom = loom ∧ c.stream = stream ∧ c.sw = s.swMode ∧ fromId ≤ c.id then { c with draining := true } else c }

/-- Matrix commands of a stream that drain after a fault. -/
def State.drainingMatrix (s : State) (loom stream : Nat) : List Cmd := (s.cmdsOf loom stream).filter fun c => slotMatrix c.c && c.draining

/-- A CONTEXT fault of a stream (R236): its record, with SEC when the stream is already FAULTED (R506), the state
change of a first fault, the drain of later commands, and the arrays' part (R133): after a matrix command that has issued, and
after any other when later matrix commands drain with it. `afterId` is the identity from which commands are later than the
faulting one; those that issued before it go on (R210, R236; log entry 53). -/
def State.streamFault (s : State) (n : CmdName) (bno afterId : Nat) (f : LateFault) (handle : Option Handle)
    (matrix : Bool) (gone : List Cmd) : State :=
  let sec := (s.stream n.loom n.stream).state = .faulted
  let d := s.dropBundles n f.code bno
  let s := d.2
  let s := if s.swMode then s else
    (s.raiseQ (s.dieOf n.loom)
      { pick := s.pick, code := f.code, sev := .context, cmd := some n, loom := some n.loom, sec := sec, handle := handle,
        dw0 := f.dw0, dw1 := f.dw1, dw2 := f.dw2, trace := d.1 }).countEvent (128 + n.loom) 0x0E n.stream 1
  let s := if sec then s else s.enterFaulted n f
  let s := s.drainLater n.loom n.stream afterId
  let later := s.drainingMatrix n.loom n.stream
  if matrix || !later.isEmpty then s.arraysFault n.loom n.stream afterId (gone ++ later) else s

/-- The first operand handle of a command in the order of R217, which a record names when no check of a handle failed and
no destination was poisoned (R504). Only handles that the command uses count. -/
def firstOperand : SlotCmd → Option Handle
  | .mload f => some f.w
  | .mstream f => some f.a
  | .mdrain f => if f.mode = 2 then none else some f.d
  | .vec _ f => some f.d
  | .move d _ | .fill d _ | .copy d _ => some d
  | .xpose f => some f.dst
  | .throwTo a _ _ => some a
  | .catchAt d _ _ => some d
  | .statcfg sth _ _ => some sth
  | .statread f => some f.dst
  | .qgrad f => some f.q
  | .full f => some f.s
  | .ckptCut f => some f.list
  | .swatch _ out => some out
  | .mpair _ | .cset _ _ | .cadd _ | .cmp _ | .loop _ _ _ | .endloop | .skipif _ _ _ | .run _ _ _ | .waitsem _ _
  | .signal _ _ _ _ | .waitpick _ | .fence _ | .ckptVote _ => none

/-- A rejection of a command with the handle that its record names (R504). -/
def Reject.named (r : Reject) (c : SlotCmd) : Reject := { r with handle := r.handle.orElse fun _ => firstOperand c }

/-- A slot command rejected at issue, or a bundle that fails decode (R209, R210, R236). -/
def State.rejectAt (s : State) (i : IssueCtx) (r : Reject) : State :=
  s.streamFault { loom := i.loom, stream := i.stream, slot := i.slot, tag := i.tag, iters := i.iters } i.bno s.nextId
    { code := r.code, dw0 := r.dw0, dw1 := r.dw1, dw2 := r.dw2 } r.handle false []

/-! ### Retirement (R212, R231, R237, R244) -/

/-- A trace record enters the buffer of its compute die, or is dropped and counted when the buffer holds 256; the next
record of the die then has GAP (R485). -/
def State.bufferTrace (s : State) (tr : Option TraceRec) : State :=
  match tr with
  | none => s
  | some r =>
    let die := s.dieOf r.loom
    let q := smGet (fun _ => []) s.cnt.traces die
    if 256 ≤ q.length then
      { s with cnt := { s.cnt with gaps := if s.cnt.gaps.contains die then s.cnt.gaps else s.cnt.gaps ++ [die] } }.addSat
        Reg.CNT_TR_DROPS_DROPS 1
    else
      { s with cnt := { s.cnt with traces := smSet (fun _ => []) s.cnt.traces die (q ++ [{ r with gap := s.cnt.gaps.contains die }])
                                   gaps := s.cnt.gaps.filter (· != die) } }

/-- LAST_RETIRED of a stream's context (R244); a swatch program's bundles are no stream's. -/
def State.lastRetired (s : State) (loom stream : Nat) (tag : Tag) : State :=
  if s.swMode then s else
    (s.setFld (Reg.CTX_LAST_RETIRED_TAG (ctxSlot loom stream)) tag.toNat).setFld
      (Reg.CTX_LAST_RETIRED_STREAM (ctxSlot loom stream)) stream

/-- Bundles that have retired leave the list, oldest first, a RUN bundle only when its program has ended: issued, no command of them or of an earlier bundle in
flight, and an empty signal set (a set to perform waits for its event). -/
def State.retireBundles (s : State) (loom stream : Nat) : Nat → State
  | 0 => s
  | n + 1 =>
    let t := s.stream loom stream
    match t.bundles.find? (!·.running) with
    | none => s
    | some b =>
      if b.issued && b.signal == 0 && !((s.cmdsOf loom stream).any fun c => c.bno ≤ b.bno) then
        let t := { t with bundles := t.bundles.filter (·.bno != b.bno), retired := if b.ring then b.endOff else t.retired,
                          pending := if b.ring then t.pending - 1 else t.pending }
        (((s.setStream loom stream t).lastRetired loom stream b.tag).bufferTrace b.trace).retireBundles loom stream n
      else s

/-- A stream whose PENDING is 0 and whose commands have all retired is IDLE (R231). -/
def State.settleIdle (s : State) (loom stream : Nat) : State :=
  let t := s.stream loom stream
  if (t.state = .running ∨ t.state = .held) && t.pending == 0 && t.queue.isEmpty && t.bundles.isEmpty && t.prog.isNone
      && (s.cmdsOf loom stream).isEmpty then
    s.setStream loom stream { t with state := .idle, hold := none }
  else s

/-- The bundles of a stream settled after a change, and the stream's state with them. -/
def State.settle (s : State) (loom stream : Nat) : State :=
  (s.retireBundles loom stream (s.stream loom stream).bundles.length).settleIdle loom stream

/-- A statistics record merged in memory, its reserved bits written as 0 (R171, R173). -/
def State.mergeStat (s : State) (m : StatMerge) : State :=
  let old := s.load m.addr 4
  let mx := if (fp32.decode old).lt (fp32.decode m.maxabs) then m.maxabs else old
  s.storeBytes m.addr (leBytes 4 mx ++ leBytes 2 (min (s.load (m.addr + 4) 2 + m.clip) 0xFFFF) ++
    leBytes 2 (min (s.load (m.addr + 6) 2 + m.vanish) 0xFFFF) ++
    leBytes 4 (min (s.load (m.addr + 8) 4 + m.count) 0xFFFFFFFF) ++
    leBytes 4 (s.load (m.addr + 12) 4 % 4 ||| bit m.nan))

/-- The engine whose flags a command's own flags belong to (R93). -/
def slotGroup : SlotCmd → FlagGroup
  | .mload _ | .mstream _ | .mdrain _ => .array
  | .vec _ _ => .vector
  | .full _ => .full
  | _ => .quant

/-- What a retiring pass two of FULL does beside its writes (R304): the tally into TALLY_ACC of its die, and the count
of passes, which saturates (DESIGN CHOICE, log entry 21). -/
def State.addTally (s : State) (die lo hi : Nat) : State :=
  ((s.setReg (Reg.FUL_TALLY_ACC_LO die) (s.reg (Reg.FUL_TALLY_ACC_LO die) ^^^ BitVec.ofNat 64 lo)).setReg
    (Reg.FUL_TALLY_ACC_HI die) (s.reg (Reg.FUL_TALLY_ACC_HI die) ^^^ BitVec.ofNat 64 hi)).addSat (Reg.FUL_FCOUNT_COUNT die) 1

/-- The counts of a reblocking transpose (R279). -/
def State.addMv (s : State) (loom ctx : Nat) (m : Nat × Nat × Nat × Nat × Nat) : State :=
  ((((s.addSat (Reg.LOOM_MVSTAT_BLOCKS loom ctx) m.1).addSat (Reg.LOOM_MVSTAT_VANISH loom ctx) m.2.1).addSat
    (Reg.LOOM_MVSTAT_DEGEN loom ctx) m.2.2.1).addSat (Reg.LOOM_MVSTAT2_CLIP loom ctx) m.2.2.2.1).addSat
    (Reg.LOOM_MVSTAT2_INV_SRC loom ctx) m.2.2.2.2

/-- The channel, context and VALID bit of watched entry `i` (R174, R183). -/
def watchEntry (s : State) (loom i : Nat) : Nat × Nat × Bool :=
  if i % 2 = 0 then
    (s.fld (Reg.LOOM_WATCH_CHANNEL0 loom (i / 2)), s.fld (Reg.LOOM_WATCH_CTX0 loom (i / 2)), s.flag (Reg.LOOM_WATCH_VALID0 loom (i / 2)))
  else
    (s.fld (Reg.LOOM_WATCH_CHANNEL1 loom (i / 2)), s.fld (Reg.LOOM_WATCH_CTX1 loom (i / 2)), s.flag (Reg.LOOM_WATCH_VALID1 loom (i / 2)))

/-- The watched accumulators of a context's entries cleared (R175, R176). -/
def State.clearWatch (s : State) (loom ctx : Nat) : State :=
  let t := s.loom loom
  s.setLoom loom { t with watch := t.watch.filter fun p => (watchEntry s loom p.1).2.1 != ctx }

/-- What a command leaves when it retires without fault (R95, R173, R176, R177, R237, R366). -/
def State.land (s : State) (c : Cmd) : State :=
  let p := c.plan
  let s := (s.store p.writes).store p.records
  let s := (s.setFlags c.loom (c.stream % 4) (slotGroup c.c) p.own).setFlags c.loom (c.stream % 4) .quant p.quant
  let s := p.stats.foldl State.mergeStat s
  let s := match p.mv with | some m => s.addMv c.loom (c.stream % 4) m | none => s
  let s := match p.tally with | some (_, lo, hi) => s.addTally (s.dieOf c.loom) lo hi | none => s
  let t := s.loom c.loom
  let s := s.setLoom c.loom { t with parts := t.parts.map fun w => if w.cmd = c.id then { w with ready := true } else w }
  let s := if p.unwatch then s.clearWatch c.loom (c.stream % 4) else s
  s.fillDigest c p.words false

/-- Partials of a command that faults or drains are discarded (R174). -/
def State.dropParts (s : State) (c : Cmd) : State :=
  let t := s.loom c.loom
  s.setLoom c.loom { t with parts := t.parts.filter (·.cmd != c.id) }

/-- The fulling engine that ran a command is free again (R286). -/
def State.freeEngine (s : State) (c : Cmd) : State :=
  match c.phase with
  | .full d _ => s.setFull d { s.full d with running := none }
  | _ => s

/-- A command leaves the machine, its bundles and claim settle after it. -/
def State.finish (s : State) (c : Cmd) : State :=
  (((s.freeEngine c).dropCmd c.id).settleClaim c.loom c.stream).settle c.loom c.stream

/-- A command retires (R237): a draining one writes nothing and sets nothing. -/
def State.retire (s : State) (c : Cmd) : State :=
  if c.draining then ((s.dropParts c).fillDigest c [] true).finish c
  else (s.land c).finish c

/-- A command that completes at once after its checks (R116, R218, R241, R273). -/
def launchNow (s : State) (i : IssueCtx) (c : SlotCmd) (l : Launch) : State :=
  let s' := s.launch i c l
  match s'.cmd? s.nextId with
  | some c => s'.retire c
  | none => s'

/-- A command launched, or complete at once with nothing written where some extent is 0 (R241). -/
def launchUnless (empty : Bool) (s : State) (i : IssueCtx) (c : SlotCmd) (l : Launch) : State :=
  if empty then launchNow s i c { l with plan := {}, frames := [] } else s.launch i c l

/-- The start of the row that a byte lies in (R249): 256 bytes in a bobbin, 512 in beam, 64 in HBM. -/
def rowStart (a : Nat) : Nat :=
  match tierOf a with
  | .bobbin => a / 256 * 256
  | .beam => a / 512 * 512
  | _ => a / 64 * 64

/-- The start of the piece that an access of a command writes at once (R249, R250): an aligned 32-byte part for the narrow
accesses of the vector engine and the statistics unit, a row for any other. -/
def pieceStart (c : SlotCmd) (a : Nat) : Nat :=
  match c with
  | .vec _ _ | .statread _ | .statcfg _ _ _ => a / 32 * 32
  | _ => rowStart a

/-- What a faulting command had written holds old or new contents, each row or narrow part whole, by a free choice (R205,
R250, R281); a bank that has closed since it issued keeps it (R268). QGRAD changes no entry (R181). -/
def landedRows (s : State) (c : Cmd) : List BWrite :=
  match c.c with
  | .qgrad _ => []
  | _ => c.plan.writes.filter fun w => !s.lostTo c.id w.addr && Config.rowLanded s.freeCtr (pieceStart c.c w.addr)

/-- Flags of which some may have been set: which operations a faulting command had completed is open (R95), so each
flag is kept by a free choice. -/
def Flags.some (f : Flags) (n : Nat) : Flags :=
  { ovf := f.ovf && n.testBit 0, unf := f.unf && n.testBit 1, inx := f.inx && n.testBit 2, inv := f.inv && n.testBit 3,
    long := f.long && n.testBit 4 }

/-- The flags that a faulting command sets (R95): those gathered so far for a matrix command, a free part of those of
a command computed at issue. -/
def State.setFaultFlags (s : State) (c : Cmd) : State :=
  let n := Config.freeValue s.freeCtr
  let own := if slotMatrix c.c then c.plan.own else c.plan.own.some n
  let q := if slotMatrix c.c then c.plan.quant else c.plan.quant.some (n / 32)
  (s.setFlags c.loom (c.stream % 4) (slotGroup c.c) own).setFlags c.loom (c.stream % 4) .quant q

/-- A command faults after issue (R133, R205, R281, R307): some of its rows may stand, its destinations are poisoned,
the fault is its stream's, and it ends. A draining command raises nothing and ends (R236). -/
def State.lateFault (s : State) (c : Cmd) (f : LateFault) : State :=
  if c.draining then ((s.dropParts c).fillDigest c [] true).finish c
  else
    let s := s.storeAll (landedRows s c)
    let s := s.setFaultFlags c
    let s := { s with freeCtr := s.freeCtr + 1 }
    let s := (s.dropParts c).poisonAll c.dsts
    let s := s.dropCmd c.id
    let s := s.streamFault c.name c.bno (c.id + 1) f c.faultHandle (slotMatrix c.c) [c]
    ((s.fillDigest c [] true).freeEngine c |>.settleClaim c.loom c.stream).settle c.loom c.stream

/-- A command whose access reaches a bank that serves none faults (R268). -/
def State.bankFault (s : State) (c : Cmd) (a : Nat) : State :=
  (s.lateFault c { code := 0x0302, dw0 := a, dw1 := bankOf a }).countEvent (21 + bankOf a / 16) 6 0 1

/-- The first address among the ends of some runs that lies in a bank that serves no access. -/
def darkRun (s : State) (rs : List (Nat × Nat)) : Option Nat := (rs.flatMap fun r => [r.1, r.2]).find? s.shut

/-- The first byte among some writes that lies in such a bank. -/
def darkWrite (s : State) (ws : List BWrite) : Option Nat := (ws.find? fun w => s.shut w.addr).map (·.addr)

/-! ### Stopping and holding (R231, R511) -/

/-- STOP, a gate or a vote stop acts on a stream (R511): at once at a bundle boundary, else at the next one. -/
def State.stopStream (s : State) (loom stream : Nat) : State :=
  let t := s.stream loom stream
  match t.state with
  | .idle => s.setStream loom stream { t with state := .stopped }
  | .running | .held =>
    if t.queue.isEmpty then s.setStream loom stream { t with state := .stopped, hold := none, stopReq := false }
    else s.setStream loom stream { t with stopReq := true }
  | _ => s

/-- A stream held: its state, the kind of the hold and the pick it began (R231, R243). -/
def State.holdStream (s : State) (loom stream : Nat) (k : HoldKind) : State :=
  let t := s.stream loom stream
  let since := match t.hold with | some (k', p) => if k' = k then p else s.pick | none => s.pick
  s.setStream loom stream { t with state := if t.state = .running ∨ t.state = .idle then .held else t.state, hold := some (k, since)
                                   heldOut := if t.hold = some (k, since) then t.heldOut else 0 }

/-- The hold of a stream ends. -/
def State.unhold (s : State) (loom stream : Nat) : State :=
  let t := s.stream loom stream
  s.setStream loom stream { t with state := if t.state = .held then .running else t.state, hold := none }

/-- The power state of a logical loom (LPWR, R439): 0 ON, 1 GATED, 2 DARK. -/
def State.loomPower (s : State) (loom : Nat) : Nat := s.fld (Reg.PWR_LPWR_STATE loom)

end Sys2Proof.Machine
end

