-- ==== Sys2Proof/Machine/Trans.lean ====
section
/-! DEFINITION. The correctly rounded elementary functions (R158, R190, R198 to R200): exact cases first, then an
enclosure of the exact real value between two fractions, tightened until both ends round to one encoding. Where the
last precision does not decide, the value is `Config.roundedFallback` (log entry 12). -/
namespace Sys2Proof.Machine

/-- An enclosure of a real number: `lo / 2^P ≤ x ≤ hi / 2^P` for the working precision `P`. -/
structure Encl where
  lo : Int
  hi : Int
  deriving DecidableEq, Repr

/-- Floor and ceiling of an integer quotient by a positive integer. -/
def floorQ (a b : Int) : Int := a / b
/-- The ceiling of `a / b` for positive `b`. -/
def ceilQ (a b : Int) : Int := -((-a) / b)

/-- The enclosure of a signed fraction. -/
def Encl.ofFrac (P : Nat) (neg : Bool) (num den : Nat) : Encl :=
  let n : Int := (if neg then -(num : Int) else num) * 2 ^ P
  ⟨floorQ n den, ceilQ n den⟩

/-- Sum of enclosures. -/
def Encl.add (a b : Encl) : Encl := ⟨a.lo + b.lo, a.hi + b.hi⟩
/-- Negation of an enclosure. -/
def Encl.neg (a : Encl) : Encl := ⟨-a.hi, -a.lo⟩
/-- Product of enclosures. -/
def Encl.mul (P : Nat) (a b : Encl) : Encl :=
  let p := a.lo * b.lo
  let q := a.lo * b.hi
  let r := a.hi * b.lo
  let s := a.hi * b.hi
  ⟨floorQ (min (min p q) (min r s)) (2 ^ P), ceilQ (max (max p q) (max r s)) (2 ^ P)⟩
/-- Quotient of an enclosure by a positive integer. -/
def Encl.divNat (a : Encl) (n : Nat) : Encl := ⟨floorQ a.lo n, ceilQ a.hi n⟩
/-- An enclosure widened by one unit on each side. -/
def Encl.widen (a : Encl) : Encl := ⟨a.lo - 1, a.hi + 1⟩
/-- Quotient of enclosures, the divisor positive. -/
def Encl.div (P : Nat) (a b : Encl) : Encl :=
  let dl := max b.lo 1
  ⟨floorQ (a.lo * 2 ^ P) (if 0 ≤ a.lo then b.hi else dl), ceilQ (a.hi * 2 ^ P) (if 0 ≤ a.hi then dl else b.hi)⟩
/-- The enclosure of one. -/
def Encl.one (P : Nat) : Encl := ⟨2 ^ P, 2 ^ P⟩
/-- The enclosure of an integer multiple. -/
def Encl.scaleInt (a : Encl) (k : Int) : Encl := if 0 ≤ k then ⟨a.lo * k, a.hi * k⟩ else ⟨a.hi * k, a.lo * k⟩

/-- The integer square root, built bit by bit from bit `b` down. -/
def isqrtBits (n : Nat) : Nat → Nat → Nat
  | 0, acc => acc
  | b + 1, acc =>
    let c := acc + 2 ^ b
    isqrtBits n b (if c * c ≤ n then c else acc)

/-- The integer square root of `n`. -/
def isqrt (n : Nat) : Nat := isqrtBits n (Nat.log2 n / 2 + 1) 0

/-- `sum of w^k / (2k+1)` for k up to `n`, by Horner from the last term. -/
def oddSeries (P : Nat) (w : Encl) : Nat → Nat → Encl → Encl
  | 0, _, acc => acc
  | n + 1, k, acc => oddSeries P w n (k - 1) (((Encl.one P).divNat (2 * k + 1)).add (w.mul P acc))

/-- Inverse hyperbolic tangent of an enclosed value of at most 1/3. -/
def atanhE (P : Nat) (z : Encl) : Encl :=
  let w := z.mul P z
  (z.mul P (oddSeries P w (P / 3 + 4) (P / 3 + 3) ⟨0, 0⟩)).widen

/-- Inverse tangent of `1 / n` for n at least 5. -/
def atanInvE (P n : Nat) : Encl :=
  let w := (Encl.ofFrac P true 1 (n * n))
  (((oddSeries P w (P / 4 + 4) (P / 4 + 3) ⟨0, 0⟩)).divNat n).widen

/-- The natural logarithm of 2. -/
def ln2E (P : Nat) : Encl := (atanhE P (Encl.ofFrac P false 1 3)).scaleInt 2

/-- The circle constant, by Machin's formula. -/
def piE (P : Nat) : Encl := ((atanInvE P 5).scaleInt 16).add ((atanInvE P 239).scaleInt (-4))

/-- The square root of an enclosure of a positive number. -/
def sqrtE (P : Nat) (a : Encl) : Encl :=
  ⟨isqrt (a.lo.toNat * 2 ^ P), (isqrt (a.hi.toNat * 2 ^ P) : Int) + 1⟩

/-- Exponential of a small enclosed value (magnitude at most one half), by Horner on the Taylor series. -/
def expSmall (P : Nat) (r : Encl) : Nat → Encl → Encl
  | 0, acc => acc
  | k + 1, acc => expSmall P r k ((Encl.one P).add ((r.mul P acc).divNat (k + 1)))

/-- An enclosure with a binary exponent: the value lies in `[lo, hi] * 2 ^ (ex - P)`. -/
structure EnclX where
  e : Encl
  ex : Int
  deriving DecidableEq, Repr

/-- Exponential of an enclosed value. -/
def expE (P : Nat) (x : Encl) : EnclX :=
  let big : Int := 2 ^ P * 8192
  if big < x.lo then ⟨Encl.one P, 12000⟩
  else if x.hi < -big then ⟨⟨0, 1⟩, -11000⟩
  else
    let l2 := ln2E P
    let k := (2 * x.lo + l2.lo) / (2 * l2.lo)
    let r := x.add (l2.scaleInt (-k))
    ⟨(expSmall P r (P + 8) (Encl.one P)).widen, k⟩

/-- An `EnclX` as a plain enclosure (for values of at most about one). -/
def EnclX.flat (a : EnclX) : Encl :=
  if 0 ≤ a.ex then ⟨a.e.lo * 2 ^ a.ex.toNat, a.e.hi * 2 ^ a.ex.toNat⟩
  else ⟨floorQ a.e.lo (2 ^ (-a.ex).toNat), ceilQ a.e.hi (2 ^ (-a.ex).toNat)⟩

/-- Natural logarithm of the positive fraction `num / den`. -/
def logE (P num den : Nat) : Encl :=
  let e := ratLog2 num den
  let n := if 0 ≤ e then num else num <<< (-e).toNat
  let d := if 0 ≤ e then den <<< e.toNat else den
  let z := Encl.ofFrac P false (n - d) (n + d)
  ((ln2E P).scaleInt e).add ((atanhE P z).scaleInt 2)

/-- The logistic function of an enclosed value. -/
def sigmoidE (P : Nat) (v : Encl) : EnclX :=
  if 0 ≤ v.lo then
    let t := (expE P v.neg).flat
    ⟨Encl.div P (Encl.one P) ((Encl.one P).add t), 0⟩
  else if v.hi ≤ 0 then
    let t := expE P v
    let d := (Encl.one P).add t.flat
    ⟨Encl.div P t.e d, t.ex⟩
  else ⟨⟨0, 2 ^ P⟩, 0⟩

/-- `sum of y^n / (2n+1)!!`, all terms positive, for the fraction `y = yn / yd`. -/
def dfactSeries (P yn yd : Nat) : Nat → Nat → Encl → Encl → Encl
  | 0, _, _, acc => acc
  | f + 1, k, term, acc =>
    let t : Encl := ⟨floorQ (term.lo * yn) (yd * (2 * k + 1)), ceilQ (term.hi * yn) (yd * (2 * k + 1))⟩
    dfactSeries P yn yd f (k + 1) t (acc.add t)

/-- The error function part `pref * e^(-y/2) * sum` with `pref` enclosed and `y` a fraction; equal to one within
`2^-P` once `y` exceeds four times the precision. -/
def erfCore (P : Nat) (pref : Encl) (yn yd : Nat) : Encl :=
  if 4 * P * yd < yn then ⟨2 ^ P - 1, 2 ^ P⟩
  else
    let s := dfactSeries P yn yd (P + 2 * (yn / yd) + 16) 1 (Encl.one P) (Encl.one P)
    let s' : Encl := ⟨s.lo, s.hi + 2⟩
    let ex := expE P (Encl.ofFrac P true yn (2 * yd))
    let w : EnclX := ⟨(pref.mul P s').mul P ex.e, ex.ex⟩
    ⟨w.flat.lo - 1, min (w.flat.hi + 1) (2 ^ P)⟩

/-- The elementary functions that need an enclosure. -/
inductive SFn where
  | exp2 | log2 | exp | log | tanh | erf | sigmoid | geluTanh | geluErf | silu | sqrt | rsqrt
  deriving DecidableEq, Repr

/-- The number under which a function's fallback value stands. -/
def SFn.num : SFn → Nat
  | .exp2 => 0
  | .log2 => 1
  | .exp => 2
  | .log => 3
  | .tanh => 4
  | .erf => 5
  | .sigmoid => 6
  | .geluTanh => 7
  | .geluErf => 8
  | .silu => 9
  | .sqrt => 10
  | .rsqrt => 11

/-- The product of an enclosure by a fraction. -/
def Encl.mulFrac (a : Encl) (num den : Nat) : Encl := ⟨floorQ (a.lo * num) den, ceilQ (a.hi * num) den⟩

/-- The square root of 2 over the circle constant. -/
def sqrt2OverPi (P : Nat) : Encl := sqrtE P (Encl.div P ((Encl.one P).scaleInt 2) (piE P))

/-- An enclosure of `f` at the non-zero fraction of sign `neg`, at precision `P`; the sign of the result is part of
the enclosure. Not used in the exact cases of `sfnExact`. -/
def sfnEncl (f : SFn) (P : Nat) (neg : Bool) (num den : Nat) : EnclX :=
  let x := Encl.ofFrac P neg num den
  let m := Encl.ofFrac P false num den
  let sg (a : EnclX) : EnclX := if neg then ⟨a.e.neg, a.ex⟩ else a
  let xs (s : EnclX) : EnclX := sg ⟨s.e.mulFrac num den, s.ex⟩
  match f with
  | .exp2 =>
    let k := if neg then -((num / den : Nat) : Int) else (num / den : Nat)
    let r := (Encl.ofFrac P neg (num % den) den)
    let v := expE P (r.mul P (ln2E P))
    ⟨v.e, v.ex + max (-20000) (min 20000 k)⟩
  | .log2 =>
    let l := logE P num den
    let c := ln2E P
    ⟨⟨floorQ (l.lo * 2 ^ P) (if 0 ≤ l.lo then c.hi else c.lo), ceilQ (l.hi * 2 ^ P) (if 0 ≤ l.hi then c.lo else c.hi)⟩, 0⟩
  | .exp => expE P x
  | .log => ⟨logE P num den, 0⟩
  | .tanh =>
    let t := (expE P (m.scaleInt (-2))).flat
    sg ⟨Encl.div P ((Encl.one P).add t.neg) ((Encl.one P).add t), 0⟩
  | .erf =>
    let pref := (Encl.div P ((Encl.one P).scaleInt 2) (sqrtE P (piE P))).mulFrac num den
    sg ⟨erfCore P pref (2 * num * num) (den * den), 0⟩
  | .sigmoid => sigmoidE P x
  | .silu => xs (sigmoidE P x)
  | .geluTanh =>
    let c := sqrt2OverPi P
    let n := num * (1000000 * den * den + 44715 * num * num)
    let d := 1000000 * den * den * den
    let u := (c.mulFrac n d).scaleInt 2
    xs (sigmoidE P (if neg then u.neg else u))
  | .geluErf =>
    let pref := (sqrt2OverPi P).mulFrac num den
    let e := erfCore P pref (num * num) (den * den)
    let phi := if neg then (Encl.one P).add e.neg else (Encl.one P).add e
    xs ⟨⟨max 0 phi.lo, phi.hi⟩, -1⟩
  | .sqrt => ⟨sqrtE P (Encl.ofFrac P false num den), 0⟩
  | .rsqrt => ⟨sqrtE P (Encl.ofFrac P false den num), 0⟩

/-- The value of one end of an enclosure, as an exact number. -/
def endValue (P : Nat) (z ex : Int) : FVal := .scaled (z < 0) z.natAbs (ex - P)

/-- The rounding of one end of an enclosure. The enclosed value is irrational, so it is not zero: an end at zero stands
for a value nearer to zero than any encoding, of the sign `neg` that the other end shows (R71, R158). -/
def endRound (fmt : FFmt) (P : Nat) (neg : Bool) (z ex : Int) : FRes :=
  if z = 0 then { code := bit neg * fmt.signBit, fl := { unf := true, inx := true } } else fmt.round .rne (endValue P z ex)

/-- The encoding both ends of an enclosure round to, when they agree; the exact value is irrational, so INX sets. -/
def enclRound (fmt : FFmt) (P : Nat) (a : EnclX) : Option FRes :=
  let l := endRound fmt P false a.e.lo a.ex
  let h := endRound fmt P true a.e.hi a.ex
  if l.code = h.code then
    some { code := l.code, fl := { (l.fl.or h.fl) with inx := true } }
  else none

/-- The first precision of a list at which an enclosure decides. -/
def firstDecided (fmt : FFmt) (enc : Nat → EnclX) : List Nat → Option FRes
  | [] => none
  | p :: ps => match enclRound fmt p (enc p) with
    | some r => some r
    | none => firstDecided fmt enc ps

/-- The working precisions, in order. -/
def precisions : List Nat := [64, 160, 400, 1200, 3600, 12000]

/-- A correctly rounded value from its enclosures, with the fallback of log entry 12. -/
def roundEncl (fmt : FFmt) (enc : Nat → EnclX) (fnum : Nat) (neg : Bool) (num den : Nat) : FRes :=
  match firstDecided fmt enc precisions with
  | some r => r
  | none => { code := Config.roundedFallback fnum fmt.width (bit neg) num den % 2 ^ fmt.width, fl := { inx := true } }

/-- Whether `n / d` is a power of two, and its exponent. -/
def powerOfTwo? (n d : Nat) : Option Int :=
  let e := ratLog2 n d
  if (if 0 ≤ e then d <<< e.toNat = n else d = n <<< (-e).toNat) then some e else none

/-- The exact value of `f` at a number where it is rational or special (R158, R190), with the INV that making a NaN
sets; none where an enclosure is needed. DESIGN CHOICE (log entry 54), where R190 states no value: LOG and LOG2 of −0 give −∞ as of +0,
without a flag; TANH and ERF of ±∞, LOG, LOG2, SQRT, EXP and EXP2 of +∞ and RSQRT of +∞ give the function's limit, without a flag. -/
def sfnExact (f : SFn) (x : FVal) : Option (FVal × Bool) :=
  match x with
  | .nan => some (.nan, false)
  | .inf neg =>
    match f with
    | .exp2 | .exp => some (if neg then .fin false 0 1 else .inf false, false)
    | .log2 | .log => some (if neg then (.nan, true) else (.inf false, false))
    | .tanh | .erf => some (.fin neg 1 1, false)
    | .sigmoid | .geluTanh | .geluErf | .silu => some (if neg then .fin true 0 1 else .inf false, false)
    | .sqrt => some (if neg then (.nan, true) else (.inf false, false))
    | .rsqrt => some (if neg then (.nan, true) else (.fin false 0 1, false))
  | .fin neg num den =>
    match f with
    | .exp2 =>
      if num % den = 0 then
        let k := num / den
        if 20000 < k then some (if neg then .scaled false 1 (-20000) else .scaled false 1 20000, false)
        else some (.scaled false 1 (if neg then -(k : Int) else k), false)
      else none
    | .exp => if num = 0 then some (.fin false 1 1, false) else none
    | .log2 =>
      if num = 0 then some (.inf true, false)
      else if neg then some (.nan, true)
      else match powerOfTwo? num den with
        | some e => some (.ofInt e, false)
        | none => none
    | .log =>
      if num = 0 then some (.inf true, false)
      else if neg then some (.nan, true)
      else if num = den then some (.fin false 0 1, false) else none
    | .tanh | .erf | .geluTanh | .geluErf | .silu => if num = 0 then some (.fin neg 0 1, false) else none
    | .sigmoid => if num = 0 then some (.fin false 1 2, false) else none
    | .sqrt =>
      if num = 0 then some (.fin neg 0 1, false)
      else if neg then some (.nan, true)
      else
        let r := isqrt (num * den)
        if r * r = num * den then some (.fin false r den, false) else none
    | .rsqrt =>
      if num = 0 then some (.inf neg, false)
      else if neg then some (.nan, true)
      else
        let r := isqrt (num * den)
        if r * r = num * den then some (.fin false r num, false) else none

/-- RN(f): the exact real value of `f` at an exact input, rounded once to a format (R190). -/
def sfnRound (fmt : FFmt) (f : SFn) (x : FVal) : FRes :=
  match sfnExact f x with
  | some r => fmt.roundOp r
  | none =>
    match x with
    | .fin neg num den => roundEncl fmt (fun P => sfnEncl f P neg num den) f.num neg num den
    | _ => { code := fmt.nanCode }

/-- RN(m + log2 l) for a finite `m` and a positive finite `l` that is no power of two (R199); the other cases are
sums of exact values. -/
def lseRound (fmt : FFmt) (m l : FVal) : FRes :=
  match sfnExact .log2 l with
  | some r => let s := m.add r.1
              fmt.roundOp (s.1, s.2 || r.2)
  | none =>
    match m, l with
    | .fin neg mn md, .fin lneg num den =>
      roundEncl fmt (fun P => ⟨(Encl.ofFrac P neg mn md).add (sfnEncl .log2 P lneg num den).e, 0⟩) 12 neg (mn * den + num) (md * den)
    | .inf s, _ => fmt.roundOp (.inf s, false)
    | _, _ => { code := fmt.nanCode }

end Sys2Proof.Machine
end

