-- ==== Sys2Proof/Machine/Epilogue.lean ====
section
/-! DEFINITION. The epilogue chain, the quantiser and the per-conversion statistics (R155 to R174). -/
namespace Sys2Proof.Machine

/-- The scale position of an element of a tensor whose channel dimension is `cd`, from its coordinates (R162). -/
def scalePos (o : Operand) (cd : Nat) (c : List Nat) : Nat :=
  let i := c.getD cd 0
  if dBdir o.words = cd then i / o.B else i

/-- n_s, the number of scale positions (R162). -/
def scaleCount (o : Operand) (cd : Nat) : Nat := if dBdir o.words = cd then ceilDiv (o.ext cd) o.B else o.ext cd

/-- Entry `n` of a scale or bias vector; a vector of extent 1 gives its entry 0 to every column (R157). -/
def vecEntry (s : State) (o : Operand) (n : Nat) : FVal :=
  let i := if o.ext 0 = 1 then 0 else n
  o.fmt.value (readElem s o (i * o.stride 0))

/-- The result of the activation stage: its value and its flags (R158). ACT 2 to 4 round their input to FP32 first. -/
def activate (cfg : EpiCfg) (y : FVal) : FVal × Flags :=
  let sfu (f : SFn) : FVal × Flags :=
    let x := fp32.round .rne y
    let r := sfnRound fp32 f (fp32.decode x.code)
    (fp32.decode r.code, x.fl.or r.fl)
  match cfg.act with
  | 1 => (if y.isNan then .nan else if FVal.zero.lt y then y else .zero, {})
  | 2 => sfu .geluTanh
  | 3 => sfu .geluErf
  | 4 => sfu .silu
  | 5 =>
    let lo := fp32.decode cfg.lo
    let hi := fp32.decode cfg.hi
    if lo.isNan || hi.isNan then (.nan, { inv := true })
    else if y.isNan then (.nan, {})
    else if hi.lt lo then (hi, {})
    else ((y.max lo).min hi, {})
  | _ => (y, {})

/-- The scale, bias and activation stages on one total (R155 to R158): the value that enters the conversion and the
ARRAY flags. -/
def epiChain (s : State) (cfg : EpiCfg) (n : Nat) (total : Nat) : FVal × Flags :=
  let y0 := fp64.decode total
  let y1 : FVal × Flags := match cfg.scl with
    | none => (y0, {})
    | some o => let r := fp64.roundOp (y0.mul (vecEntry s o n)); (fp64.decode r.code, r.fl)
  let y2 : FVal × Flags := match cfg.bias with
    | none => (y1.1, {})
    | some o => let r := fp64.roundOp (y1.1.add (vecEntry s o n)); (fp64.decode r.code, r.fl)
  let y3 := activate cfg y2.1
  (y3.1, (y1.2.or y2.2).or y3.2)

/-- A conversion's outcome: the code written, its flags, the value it represents, and whether it clipped. -/
structure Conv where
  code : Nat
  fl : Flags
  val : FVal
  clip : Bool
  deriving DecidableEq, Repr

/-- The conversion of a value into a narrow format under a scale code (R74), or into BF16 or FP32 (R71, R72). `u` is
the random value when the rounding is stochastic. -/
def convertTo (f : EFmt) (scale : Nat) (u : Option Nat) (x : FVal) : Conv :=
  if f.isNarrow then
    let r := toNarrow f.limit u x (bf16.decode scale)
    { code := ofSigned f.bits r.1, fl := r.2, val := ((FVal.ofInt r.1).mul (bf16.decode scale)).1, clip := r.2.ovf }
  else
    let ff := (f.float?).getD fp32
    let m := match f, u with
      | .bf16, some v => RMode.stoch v
      | _, _ => RMode.rne
    let r := ff.round m x
    { code := r.code, fl := r.fl, val := ff.decode r.code, clip := r.fl.ovf }

/-- The statistics of one conversion, merged into the record at an address (R172). -/
def statOf (addr : Nat) (x : FVal) (c : Conv) : StatMerge :=
  if x.isNan then { addr := addr, maxabs := 0, clip := 0, vanish := 0, count := 0, nan := true }
  else
    let mx := fp32.round .up x.abs
    { addr := addr, maxabs := mx.code, clip := bit c.clip, vanish := bit (!x.isZero && c.val.isZero), count := 1, nan := false }

/-- A merge added to the merges gathered so far, by record (R173). -/
def gatherStat (l : List StatMerge) (m : StatMerge) : List StatMerge :=
  match l with
  | [] => [m]
  | x :: rest =>
    if x.addr = m.addr then
      { addr := x.addr, maxabs := if (fp32.decode x.maxabs).lt (fp32.decode m.maxabs) then m.maxabs else x.maxabs,
        clip := x.clip + m.clip, vanish := x.vanish + m.vanish, count := x.count + m.count, nan := x.nan || m.nan } :: rest
    else x :: gatherStat rest m

/-- One more square in a command's partial of a watched entry (R174). -/
def bumpPart (ctx cmd entry e2 : Nat) : List WatchPart → List WatchPart
  | [] => [{ ctx := ctx, cmd := cmd, entry := entry, count := 1, sse := (fp64.round .rne ((fp64.decode 0).add (fp64.decode e2)).1).code, ready := false }]
  | p :: rest =>
    if p.cmd = cmd ∧ p.entry = entry then
      { p with count := p.count + 1, sse := (fp64.round .rne ((fp64.decode p.sse).add (fp64.decode e2)).1).code } :: rest
    else if cmd < p.cmd then
      { ctx := ctx, cmd := cmd, entry := entry, count := 1, sse := (fp64.round .rne ((fp64.decode 0).add (fp64.decode e2)).1).code, ready := false } :: p :: rest
    else p :: bumpPart ctx cmd entry e2 rest

/-- The squared error of one conversion of context `ctx` in column `n`, added to the command's partial of every watched entry
that is valid at the conversion (R174). The partials stand in issue order. -/
def watchAdd (s : State) (loom ctx cmd n : Nat) (x : FVal) (c : Conv) (parts : List WatchPart) : List WatchPart :=
  if x.isNan then parts
  else
    let e := fp64.round .rne (x.sub c.val).1
    let e2 := fp64.round .rne ((fp64.decode e.code).mul (fp64.decode e.code)).1
    ((List.range 64).filter fun k => watchEntry s loom k == (n, ctx, true)).foldl (fun ps k => bumpPart ctx cmd k e2.code ps) parts

/-- What writing a row gathers: writes, the flags of the two groups, merges, partials and digest words. -/
structure RowOut where
  writes : List BWrite := []
  arr : Flags := {}
  quant : Flags := {}
  stats : List StatMerge := []
  parts : List WatchPart := []
  words : List (Nat × Nat × Nat) := []
  blocks : List Nat := []
  deriving DecidableEq, Repr

/-- One element through the chain and the conversion, and what it gathers (R155 to R174). -/
def epiElem (s : State) (loom ctx cmd : Nat) (dr : Drain) (cfg : EpiCfg) (row n total : Nat) (o : RowOut) : RowOut :=
  let y := epiChain s cfg n total
  let c := ((List.replicate 6 0).set dr.dndim n).set dr.dmdim row
  let e := indexOf dr.d.exts c
  let u := if cfg.rnd then some (randomU e (0x01000000 + dr.d.handle.toNat) cfg.step cfg.seed) else none
  let sc := dr.scales.getD (scalePos dr.d dr.dndim c) 0
  let v := convertTo dr.d.fmt sc u y.1
  { writes := o.writes ++ dr.d.put (dr.d.elemOff c) v.code
    arr := o.arr.or y.2
    quant := o.quant.or v.fl
    stats := match cfg.stat with
      | some st => gatherStat o.stats (statOf (entryAddr st.w0 (16 * n)) y.1 v)
      | none => o.stats
    parts := if cfg.stats then watchAdd s loom ctx cmd n y.1 v o.parts else o.parts
    words := o.words ++ [(0, e, v.code)]
    blocks := if dr.d.scaled then o.blocks ++ [dr.d.blockOf c] else o.blocks }

/-- A row through the epilogue: its totals are those of columns `n0`, `n0 + 1`, and so on. -/
def epiRow (s : State) (loom ctx cmd : Nat) (dr : Drain) (cfg : EpiCfg) (row n0 : Nat) (totals : List Nat) (o : RowOut) : RowOut :=
  totals.zipIdx.foldl (fun o (t, i) => epiElem s loom ctx cmd dr cfg row (n0 + i) t o) o

/-- The scale position of a block (R162): the coordinate of the block along the channel dimension. -/
def blockScalePos (o : Operand) (cd b : Nat) : Nat := (coordsOf (dims6.map o.blocksAlong) b).getD cd 0

/-- The entry that the quantiser writes for a block (R164). -/
def drainEntry (dr : Drain) (b : Nat) : Nat := dr.scales.getD (blockScalePos dr.d dr.dndim b) 0

/-- The writes and words of the frames that some blocks need and that are not written yet (R164). -/
def drainFrames (dr : Drain) (blocks : List Nat) : List BWrite × List Nat :=
  let fs := (nubNat (blocks.map (· / 30))).filter fun f => !dr.framesDone.contains f
  (fs.flatMap fun f => frameWrites dr.d f (drainEntry dr), fs)

/-! ### Checks at issue (R159, R161, R163) -/

/-- The EPICFG fields of a configuration. -/
structure EpiRaw where
  act : Nat
  rnd : Bool
  scl : Bool
  bias : Bool
  stats : Bool
  svec : Handle
  bvec : Handle
  qsc : Handle
  deriving DecidableEq, Repr

/-- The configuration that EPI selects (R156). -/
def epiRaw (s : State) (loom ctx e : Nat) : EpiRaw :=
  { act := s.fld (Reg.LOOM_EPICFG_ACT loom ctx e)
    rnd := s.flag (Reg.LOOM_EPICFG_RND loom ctx e)
    scl := s.flag (Reg.LOOM_EPICFG_SCL loom ctx e)
    bias := s.flag (Reg.LOOM_EPICFG_BIAS loom ctx e)
    stats := s.flag (Reg.LOOM_EPICFG_STATS loom ctx e)
    svec := BitVec.ofNat 16 (s.fld (Reg.LOOM_EPICFG_SVEC loom ctx e))
    bvec := BitVec.ofNat 16 (s.fld (Reg.LOOM_EPICFG_BVEC loom ctx e))
    qsc := BitVec.ofNat 16 (s.fld (Reg.LOOM_EPICFG_QSC loom ctx e)) }

/-- An optional handle resolved. -/
def resolveIf (use : Bool) (s : State) (h : Handle) : Except Reject (Option Operand) :=
  if use then (resolve s h).map some else .ok none

/-- Order 4 of R161: the handles in use, in order. -/
def resolveEpi (s : State) (i : IssueCtx) (r : EpiRaw) (d : Operand) : Except Reject EpiCfg :=
  match resolveIf r.scl s r.svec with
  | .error e => .error e
  | .ok sv => match resolveIf r.bias s r.bvec with
    | .error e => .error e
    | .ok bv => match resolveIf d.scaled s r.qsc with
      | .error e => .error e
      | .ok q => match resolveIf (r.stats && s.flag (Reg.LOOM_STATCTL_VALID i.loom i.ctx)) s
          (BitVec.ofNat 16 (s.fld (Reg.LOOM_STATCTL_STH i.loom i.ctx))) with
        | .error e => .error e
        | .ok st => .ok
          { act := r.act, rnd := r.rnd, stats := r.stats, scl := sv, bias := bv, qsc := q, stat := st,
            lo := s.fld (Reg.LOOM_CLAMP_LO i.loom i.ctx), hi := s.fld (Reg.LOOM_CLAMP_HI i.loom i.ctx),
            step := i.step s, seed := (s.reg Reg.GCTL_JOB_SEED).toNat }

/-- The statistics buffer rule of order 5 (R161): in the loom's own bobbin. -/
def statPlace (s : State) (loom : Nat) (o : Operand) : Bool := o.ranges.all (inBobbin loom) && s.nLooms != 0

/-- The statistics buffer rule of order 6 (R161): INT32, stride 1, starting at a multiple of 16 bytes. -/
def checkStatFormat (o : Operand) : Except Reject Unit :=
  check (o.fmt? == some .int32 && o.stride 0 == 1 && entryAddr o.w0 0 % 16 == 0 && dBsize o.words == 0)
    { code := 0x0205, handle := some o.handle }

/-- Orders 5 to 7 of R161 and the format rule of R159, for a drain to `d` whose columns number `nExt`. -/
def checkEpi5 (s : State) (i : IssueCtx) (c : EpiCfg) : Except Reject Unit :=
  check (!c.stats || (match c.stat with | some o => statPlace s i.loom o | none => false)) { code := 0x0103 }

/-- Order 6 of R161. -/
def checkEpi6 (c : EpiCfg) (d : Operand) (dndim dmdim : Nat) : Except Reject Unit :=
  let vec (o : Option Operand) : Except Reject Unit := match o with
    | some v => checkAll [checkFormat v, check (v.fmt == .bf16 || v.fmt == .fp32) { code := 0x0205, handle := some v.handle }]
    | none => .ok ()
  checkAll [
    check (d.fmt != .int32 && d.fmt != .f64) { code := 0x0205, handle := some d.handle },
    check (!d.scaled || dBdir d.words == dndim || dBdir d.words == dmdim) { code := 0x0205, handle := some d.handle },
    vec c.scl, vec c.bias,
    (match c.qsc with
      | some q => checkAll [checkFormat q, check (q.fmt == .bf16) { code := 0x0205, handle := some q.handle }]
      | none => .ok ()),
    (match c.stat with | some o => checkStatFormat o | none => .ok ())]

/-- Order 7 of R161; `n?` is W's N extent, none where the plane or accumulation it needs is missing (R125). -/
def checkEpi7 (c : EpiCfg) (d : Operand) (dndim : Nat) (n? : Option Nat) : Except Reject Unit :=
  let others (o : Operand) : Bool := [1, 2, 3, 4, 5].all fun j => o.ext j == 1
  let nExt := n?.getD 0
  let vec (o : Option Operand) : Except Reject Unit := match o with
    | some v => checkAll [
        check ((n?.isNone || v.ext 0 == nExt || v.ext 0 == 1) && others v)
          { code := 0x0104, dw0 := v.ext 0, dw1 := nExt, handle := some v.handle },
        checkSpan v false]
    | none => .ok ()
  checkAll [vec c.scl, vec c.bias,
    (match c.qsc with
      | some q => checkAll [
          check (q.ext 0 == scaleCount d dndim) { code := 0x0104, dw0 := q.ext 0, dw1 := scaleCount d dndim, handle := some q.handle },
          checkSpan q false]
      | none => .ok ()),
    (match c.stat with
      | some o => checkAll [
          check (n?.isNone || 4 * nExt ≤ o.total) { code := 0x0104, dw0 := 4 * nExt, dw1 := o.total, handle := some o.handle },
          checkSpan o true]
      | none => .ok ())]

/-- The learned scales as the quantiser uses them (R163): each checked under R84, replaced by D's floor. -/
def readScales (s : State) (c : EpiCfg) (d : Operand) (dndim : Nat) : List Nat :=
  match c.qsc with
  | none => []
  | some q => (List.range (scaleCount d dndim)).map fun p =>
    let e := readElem s q (p * q.stride 0)
    if scaleValid e then e else dFloor d.words

/-- The positions whose entry in QSC is invalid, among those of the frames that a drain writes (R163): the first such
block position with its entry. `rows` and `cols` bound the elements written. -/
def badScale (s : State) (c : EpiCfg) (d : Operand) (dndim : Nat) (blocks : List Nat) : Option (Nat × Nat) :=
  match c.qsc with
  | none => none
  | some q =>
    let fs := nubNat (blocks.map (· / 30))
    let bs := fs.flatMap fun f => ((List.range 30).map (30 * f + ·)).filter (· < d.nb)
    bs.findSome? fun b =>
      let e := readElem s q (blockScalePos d dndim b * q.stride 0)
      if scaleValid e then none else some (b, e)

end Sys2Proof.Machine
end

