-- ==== Sys2Proof/Machine/Matrix.lean ====
section
/-! DEFINITION. The loom's matrix arrays: MLOAD, MSTREAM, MPAIR and MDRAIN, their checks and their events (R99 to R133),
and the accumulation path (R136 to R149). -/
namespace Sys2Proof.Machine

/-! ### Modes (R100, R142) -/

/-- D, the pass depth of a mode. -/
def passDepth : EFmt → Nat
  | .int4 => 256
  | .bf16 => 64
  | _ => 128
/-- Nt, the tile columns of a mode. -/
def tileCols : EFmt → Nat
  | .bf16 => 64
  | _ => 128
/-- Tb, the term depth: the block size, or 32 in BF16 mode (R142). -/
def termDepth (f : EFmt) (bsize : Nat) : Nat := if f = .bf16 then 32 else blockSize bsize
/-- The columns of tile `nt` that lie inside the N extent (R103). -/
def liveCols (f : EFmt) (nt nExt : Nat) : Nat := min (tileCols f) (nExt - nt * tileCols f)
/-- The depths of tile `kt` that lie inside the K extent. -/
def liveDepth (f : EFmt) (kt kExt : Nat) : Nat := min (passDepth f) (kExt - kt * passDepth f)
/-- Terms of pass `kt` that are formed (R142). -/
def formedTerms (f : EFmt) (bsize kt kExt : Nat) : Nat := ceilDiv (liveDepth f kt kExt) (termDepth f bsize)

/-! ### One term, one chunk, one promotion (R136 to R143) -/

/-- The exact integer sum of products of two lists of codes (R136). -/
def blockSum (f : EFmt) : List Nat → List Nat → Int
  | a :: as, w :: ws => toSigned f.bits a * toSigned f.bits w + blockSum f as ws
  | _, _ => 0

/-- A tap: rounded products added in increasing depth, from the first product on (R110, R141). -/
def tapChain : List Nat → List Nat → Option Nat → Flags → Nat × Flags
  | a :: as, w :: ws, acc, fl =>
    let p := fp32.roundOp ((bf16.decode a).mul (bf16.decode w))
    match acc with
    | none => tapChain as ws (some p.code) (fl.or p.fl)
    | some c =>
      let r := fp32.roundOp ((fp32.decode c).add (fp32.decode p.code))
      tapChain as ws (some r.code) ((fl.or p.fl).or r.fl)
  | _, _, acc, fl => (acc.getD 0, fl)

/-- A list filled up with zeros (R80, R103). -/
def padTo (n : Nat) (l : List Nat) : List Nat := l ++ List.replicate (n - l.length) 0

/-- The slice of term `b` of a row or column. -/
def termSlice (tb b : Nat) (l : List Nat) : List Nat := padTo tb ((l.drop (b * tb)).take tb)

/-- Block term `b` of a row and a column, rounded once to FP32 (R137, R141), with its flags. -/
def termOf (f : EFmt) (tb b : Nat) (row col : List Nat) (sa sb : Nat) : Nat × Flags :=
  if f = .bf16 then tapChain (termSlice tb b row) (termSlice tb b col) none {}
  else
    let sum := FVal.ofInt (blockSum f (termSlice tb b row) (termSlice tb b col))
    let r := fp32.round .rne (((bf16.decode sa).mul (bf16.decode sb)).1.mul sum).1
    (r.code, r.fl)

/-- A promotion (R139, R140): the chunk joins the total, and the counter advances after the first. -/
def AccCell.promote (a : AccCell) : AccCell × Flags :=
  let r := fp64.roundOp ((fp64.decode a.total).add (fp32.decode a.chunk))
  let sat := !a.first && a.count == 0xFFFFFFFF
  ({ chunk := 0, held := 0, total := r.code, first := false,
     count := if a.first || sat then a.count else a.count + 1 }, r.fl.or { long := sat })

/-- A block term added into the chunk, and the promotion of a chunk that it completes (R138). -/
def AccCell.addTerm (c : Nat) (a : AccCell) (t : Nat × Flags) : AccCell × Flags :=
  let r := fp32.roundOp ((fp32.decode a.chunk).add (fp32.decode t.1))
  let a' := { a with chunk := r.code, held := a.held + 1 }
  let fl := t.2.or r.fl
  if a'.held = c then let p := a'.promote; (p.1, fl.or p.2) else (a', fl)

/-- The open chunk closed (R142): promoted when it holds a term. -/
def AccCell.close (a : AccCell) : AccCell × Flags := if a.held = 0 then (a, {}) else a.promote

/-- A pass over one output element: its formed terms in increasing order (R143). -/
def passCell (p : Plane) (row col sa sb : List Nat) (a : AccCell) : AccCell × Flags :=
  let tb := termDepth p.fmt p.bsize
  (List.range (formedTerms p.fmt p.bsize p.kt p.kExt)).foldl (fun r b =>
    let n := r.1.addTerm (p.cm1 + 1) (termOf p.fmt tb b row col (sa.getD b 0) (sb.getD b 0))
    (n.1, r.2.or n.2)) (a, {})

/-- A pass over one row (R99): each column of the plane inside W's N extent; a column beyond it has weight 0 and sets no
flag (R103). The last element of a row stands for every column that it does not list. -/
def passRow (p : Plane) (row sa : List Nat) (cells : List AccCell) : List AccCell × Flags :=
  let beyond := cells.getLast?.getD {}
  let r := (List.range (max p.cols.length (cells.length - 1))).foldl (fun r n =>
    let c := passCell p row (p.cols.getD n []) sa (p.scales.getD n []) (if n + 1 < cells.length then cells.getD n {} else beyond)
    (r.1 ++ [c.1], if n < p.cols.length then r.2.or c.2 else r.2)) ([], {})
  (r.1 ++ [(passCell p row [] sa [] beyond).1], r.2)

/-- The totals of the first `n` columns of a row once its chunks are closed (R103, R142). -/
def closeRow (n : Nat) (cells : List AccCell) : List Nat × Flags :=
  (cells.take n).foldl (fun r a => let c := a.close; (r.1 ++ [c.1.total], r.2.or c.2)) ([], {})

/-! ### Reading tiles, rows and frames (R103, R112) -/

/-- Coordinates with two dimensions set, the others 0. -/
def coord2 (d1 i1 d2 i2 : Nat) : List Nat := ((List.replicate 6 0).set d1 i1).set d2 i2

/-- The codes of one line of a tensor along dimension `k`, from index `k0`, at index `m` of dimension `j`. -/
def readLine (s : State) (o : Operand) (k k0 n j m : Nat) : List Nat :=
  (List.range n).map fun i => o.read s (coord2 k (k0 + i) j m)

/-- The block indices of the formed terms of one line. -/
def lineBlocks (o : Operand) (f : EFmt) (k kt kExt j m : Nat) : List Nat :=
  if f = .bf16 then []
  else (List.range (formedTerms f (dBsize o.words) kt kExt)).map fun b =>
    o.blockOf (coord2 k (kt * passDepth f + b * o.B) j m)

/-- A scale from frames already read, after R84, and whether it was replaced. -/
def scaleFrom (o : Operand) (got : List (Nat × List Nat)) (b : Nat) : Nat × Bool :=
  let e := (((got.find? (·.1 == b / 30)).map (·.2)).getD []).getD (b % 30) 0
  if scaleValid e then (e, false) else (dFloor o.words, true)

/-- The frames of some blocks that have not been read yet. -/
def missingFrames (blocks : List Nat) (got : List (Nat × List Nat)) : List Nat :=
  (nubNat (blocks.map (· / 30))).filter fun f => !got.any (·.1 == f)

/-! ### MPAIR (R118, R119) -/

/-- Whether a claim overlaps arrays that another context owns. -/
def LoomSt.overlaps (t : LoomSt) (ctx claim : Nat) : Bool :=
  let other (c : Claim) : Bool := match c with | some x => x != ctx | none => false
  match claim with
  | 1 => other t.own0 || other t.own1
  | 2 => other t.own0
  | 3 => other t.own1
  | _ => false

/-- A claim taken: its planes are not loaded (R119). A FULL claim holds both halves. -/
def LoomSt.claim (t : LoomSt) (ctx claim : Nat) : LoomSt :=
  match claim with
  | 1 => { ((t.setPlane 0 0 {}).setPlane 0 1 {}) with own0 := some ctx, own1 := some ctx, full := true, recent0 := none, acc0 := none }
  | 2 => { ((t.setPlane 0 0 {}).setPlane 0 1 {}) with own0 := some ctx, recent0 := none, acc0 := none }
  | _ => { ((t.setPlane 1 0 {}).setPlane 1 1 {}) with own1 := some ctx, recent1 := none, acc1 := none }

/-- What holds an MPAIR before any check (R119): a claim over arrays that another context owns; a RELEASE until the
context's matrix commands have retired. -/
def mpairHold (s : State) (i : IssueCtx) (claim : Nat) : Option HoldKind :=
  let t := s.loom i.loom
  if claim = 0 then
    if (t.claimOf i.ctx).isSome && (s.cmdsOfCtx i.loom i.ctx).any (slotMatrix ·.c) then some .other else none
  else if t.overlaps i.ctx claim then some .arrays
  else none

/-- MPAIR at issue, once nothing holds it (R118, R119). -/
def issueMpair (i : IssueCtx) (claim : Nat) (s : State) : IssueRes :=
  let t := s.loom i.loom
  match t.claimOf i.ctx with
  | none => if claim = 0 then .issued s else .issued (s.setLoom i.loom (t.claim i.ctx claim))
  | some (h, _) =>
    if claim ≠ 0 ∨ (t.acc h).isSome then .rejected { code := 0x0103 }
    else .issued (s.setLoom i.loom (t.release i.ctx))

/-! ### MLOAD (R122, R125, R127) -/

/-- Whether a plane is the target of an MLOAD in flight, or reserved by an MSTREAM that has rows to feed (R105). -/
def planeBusy (s : State) (loom h p : Nat) : Bool :=
  s.cmds.any fun c => c.loom == loom && !c.draining && match c.phase with
    | .mload h' p' _ _ _ _ _ _ => h' == h && p' == p
    | .mstream h' p' _ _ _ _ _ _ mrows _ _ fed _ => h' == h && p' == p && fed < mrows
    | _ => false

/-- The free plane with the lower index (R105). -/
def freePlane (s : State) (loom h : Nat) : Option Nat :=
  [0, 1].find? fun p => !planeBusy s loom h p && (s.loom loom).recent h != some p

/-- The STRICT check of R147. -/
def strictOk (f : EFmt) (bsize c kw : Nat) : Bool :=
  c ≤ (if f = .bf16 then 16 else 32) && kw ≤ termDepth f bsize * c * 2 ^ 32

/-- Every dimension other than two has extent 1 (R104). -/
def onlyDims (o : Operand) (a b : Nat) : Except Reject Unit :=
  match dims6.find? fun j => j ≠ a ∧ j ≠ b ∧ o.ext j ≠ 1 with
  | some j => .error { code := 0x0104, dw0 := o.ext j, dw1 := 1, handle := some o.handle }
  | none => .ok ()

/-- Orders 4 to 8 of R125 for an MLOAD. -/
def checkMload (s : State) (i : IssueCtx) (f : MLoad) (kt nt : Nat) : Except Reject Operand := do
  let w ← resolve s f.w
  let wk := f.wkdim.toNat
  let wn := f.wndim.toNat
  let hd := some w.handle
  check (w.nearLoom s i.loom) { code := 0x0103, handle := hd }
  checkFormat w
  check (w.fmt == .int8 || w.fmt == .int4 || w.fmt == .bf16) { code := 0x0205, handle := hd }
  check (w.stride wn == 1) { code := 0x0205, handle := hd }
  check (!w.scaled || dBdir w.words == wk) { code := 0x0204, handle := hd }
  onlyDims w wk wn
  check (kt * passDepth w.fmt < w.ext wk) { code := 0x0104, dw0 := kt * passDepth w.fmt, dw1 := w.ext wk, handle := hd }
  check (nt * tileCols w.fmt < w.ext wn) { code := 0x0104, dw0 := nt * tileCols w.fmt, dw1 := w.ext wn, handle := hd }
  checkSpan w false
  checkBanks s [w]
  check (f.bc || strictOk w.fmt (dBsize w.words) (f.cm1.toNat + 1) (w.ext wk))
    { code := 0x0203, dw0 := w.ext wk, dw1 := f.cm1.toNat + 1, handle := hd }
  pure w

/-- The blocks of a tile's weight scales, by column. -/
def tileBlocks (w : Operand) (wk wn kt nt : Nat) : List (List Nat) :=
  (List.range (liveCols w.fmt nt (w.ext wn))).map fun n =>
    lineBlocks w w.fmt wk kt (w.ext wk) wn (nt * tileCols w.fmt + n)

/-- The completion bound of an MLOAD in loom cycles (R127). -/
def mloadCycles (f : EFmt) (full : Bool) (frames : Nat) : Nat :=
  let wb := (if f = .bf16 then 8 else 16) * (if full then 1 else 2)
  10 + max wb (ceilDiv frames (if full then 4 else 2))

/-- An accepted MLOAD: its plane is taken, W's codes are read under the mapping of issue (R107), its frames follow. The
plane is the owner's most recent one from here on, so RECENT and MODE of PLANES (R135) change at issue: DESIGN CHOICE (log
entry 53). -/
def startMload (s : State) (i : IssueCtx) (f : MLoad) (h p : Nat) (full : Bool) (w : Operand) (kt nt : Nat) : State :=
  let wk := f.wkdim.toNat
  let wn := f.wndim.toNat
  let cols := (List.range (liveCols w.fmt nt (w.ext wn))).map fun n =>
    readLine s w wk (kt * passDepth w.fmt) (liveDepth w.fmt kt (w.ext wk)) wn (nt * tileCols w.fmt + n)
  let need := nubNat ((tileBlocks w wk wn kt nt).flatten.map (· / 30))
  let pl : Plane :=
    { loaded := false, w := w.handle, names := w.names, fmt := w.fmt, kt := kt, nt := nt, cm1 := f.cm1.toNat, bc := f.bc,
      bsize := dBsize w.words, kExt := w.ext wk, nExt := w.ext wn }
  let t := ((s.loom i.loom).setPlane h p pl).setRecent h (some p)
  (s.setLoom i.loom t).launch i (.mload f)
    { nc := some (mloadCycles w.fmt full need.length)
      handles := { nameAll s [f.w] [] with names := w.names }
      entries := w.entries s
      reads := ((List.range (liveDepth w.fmt kt (w.ext wk))).flatMap fun k =>
        w.elemRuns (w.elemOff (coord2 wk (kt * passDepth w.fmt + k) wn (nt * tileCols w.fmt))) (liveCols w.fmt nt (w.ext wn))) ++
        need.flatMap w.frameRuns
      phase := .mload h p w wk wn cols need [] }

/-- An MLOAD is held before any check while its claim has no free plane (R105, R125). -/
def mloadHold (s : State) (i : IssueCtx) : Option HoldKind :=
  match (s.loom i.loom).claimOf i.ctx with
  | some (h, _) => if (freePlane s i.loom h).isNone then some .other else none
  | none => none

/-- MLOAD at issue. -/
def issueMload (i : IssueCtx) (f : MLoad) (s : State) : IssueRes :=
  match (s.loom i.loom).claimOf i.ctx with
  | none => .rejected { code := 0x0103 }
  | some (h, full) =>
    match freePlane s i.loom h with
    | none => .held .other
    | some p =>
      match checkMload s i f (i.ctr f.kt.toNat) (i.ctr f.nt.toNat) with
      | .error r => .rejected r
      | .ok w => .issued (startMload s i f h p full w (i.ctr f.kt.toNat) (i.ctr f.nt.toNat))

/-- The next weight frame of an MLOAD arrives and is checked (R91, R112, R127). -/
def mloadFrame (s : State) (c : Cmd) (h p : Nat) (w : Operand) (wk wn : Nat) (cols : List (List Nat))
    (need : List Nat) (got : List (Nat × List Nat)) : State :=
  match need with
  | [] => s
  | f :: rest =>
    let pl := (s.loom c.loom).plane h p
    let blocks := (tileBlocks w wk wn pl.kt pl.nt).flatten
    match if c.draining then none else frameFault s w f blocks, if c.draining then none else darkRun s (w.frameRuns f) with
    | _, some a => s.bankFault c a
    | some e, none => s.lateFault c e
    | none, none => s.setCmd { c with phase := .mload h p w wk wn cols rest (got ++ [(f, (readFrame s w f).2)]) }

/-- MLOAD_COMPLETE (R127): the plane is complete, with its scales, and the MLOAD retires. -/
def mloadDone (s : State) (c : Cmd) (h p : Nat) (w : Operand) (wk wn : Nat) (cols : List (List Nat))
    (got : List (Nat × List Nat)) : State :=
  if c.draining then s.retire c
  else
    let t := s.loom c.loom
    let pl := t.plane h p
    let sc := (tileBlocks w wk wn pl.kt pl.nt).map fun bs => bs.map (scaleFrom w got)
    let s := s.setLoom c.loom (t.setPlane h p { pl with loaded := true, cols := cols, scales := sc.map fun l => l.map (·.1) })
    let c := { c with plan := { c.plan with own := { inv := sc.any fun l => l.any (·.2) } } }
    ((s.setCmd c).retire c).countEvent (128 + c.loom) 6 c.stream 1

/-! ### MSTREAM (R123, R125, R128) -/

/-- Rows of a row group (R113). -/
def groupRows (full : Bool) : Nat := if full then 4 else 2

/-- The MSTREAMs of a claim that have rows to feed. -/
def unfed (s : State) (loom h : Nat) : List Cmd :=
  s.cmds.filter fun c => c.loom == loom && !c.draining && match c.phase with
    | .mstream h' _ _ _ _ _ _ _ mrows _ _ fed _ => h' == h && fed < mrows
    | _ => false

/-- Row groups that an MSTREAM has still to feed. -/
def groupsLeft (full : Bool) (c : Cmd) : Nat :=
  match c.phase with
  | .mstream _ _ _ _ _ _ _ _ mrows _ _ fed _ => ceilDiv (mrows - fed) (groupRows full)
  | _ => 0

/-- Whether ACCM drains through the epilogue (R114). -/
def accmDrains (a : Nat) : Bool := a == 0 || a == 3

/-- Whether an MLOAD that fills a plane is in flight. -/
def planeLoading (s : State) (loom h p : Nat) : Bool :=
  s.cmds.any fun c => c.loom == loom && !c.draining && match c.phase with
    | .mload h' p' _ _ _ _ _ _ => h' == h && p' == p
    | _ => false

/-- What naming the plane's W handle names, as MLOAD resolved it (R107, R217), of a plane that is loaded or that an MLOAD in flight
fills. -/
def planeHandle (s : State) (i : IssueCtx) : List Handle :=
  let t := s.loom i.loom
  match t.claimOf i.ctx with
  | none => []
  | some (h, _) => match t.recent h with
    | some p => if (t.plane h p).loaded || planeLoading s i.loom h p then (t.plane h p).names else []
    | none => []

/-- The handles that a drain to `d` through configuration `e` names beside some handles read (R161, R217). -/
def drainNames (s : State) (i : IssueCtx) (reads : List Handle) (d : Handle) (e : Nat) : Named :=
  let e := epiRaw s i.loom i.ctx e
  let scaled := match EFmt.ofCode (dFormat (s.desc (handleIndex d))) with | some g => g.isNarrow | none => false
  let st := BitVec.ofNat 16 (s.fld (Reg.LOOM_STATCTL_STH i.loom i.ctx))
  nameAll s (reads ++ (if e.scl then [e.svec] else []) ++ (if e.bias then [e.bvec] else []) ++
    (if scaled then [e.qsc] else []) ++ (if e.stats && s.flag (Reg.LOOM_STATCTL_VALID i.loom i.ctx) then [st] else [])) [d]

/-- The handles an MSTREAM names (R217), the plane's W handle among them (R107). -/
def mstreamNames (s : State) (i : IssueCtx) (f : MStream) : Named :=
  let n := if accmDrains f.accm.toNat then drainNames s i [f.a] f.d f.epi.toNat
    else nameAll s [f.a] (if f.accm = 4 then [f.d] else [])
  { n with names := n.names ++ planeHandle s i }

/-- The operands of an accepted matrix command. -/
structure MOps where
  a : Operand
  d : Option Operand
  epi : Option EpiCfg
  deriving DecidableEq, Repr

/-- The poison check of the plane's W handle (R107). -/
def checkPlanePoison (s : State) (p : Option Plane) : Except Reject Unit :=
  match p with
  | none => .ok ()
  | some p =>
    let d := s.desc (handleIndex p.w)
    check (!(dValid d && dGen d == handleGen p.w && dPoison d)) { code := 0x0106, handle := some p.w }

/-- The optional operands of an epilogue. -/
def EpiCfg.operands (c : EpiCfg) : List Operand := c.scl.toList ++ c.bias.toList ++ c.qsc.toList ++ c.stat.toList

/-- The lowest dimension of D that is neither DMDIM nor DNDIM (R117). -/
def rawDim (dn dm : Nat) : Nat := (dims6.find? fun j => j ≠ dn ∧ j ≠ dm).getD 0

/-- Order 4 of R125 for an MSTREAM: A, D, the plane's W, the epilogue's handles. -/
def resolveMstream (s : State) (i : IssueCtx) (f : MStream) (pl : Option Plane) : Except Reject MOps := do
  let drain := accmDrains f.accm.toNat
  let a ← resolve s f.a
  let d ← resolveIf (drain || f.accm == 4) s f.d
  checkPlanePoison s pl
  match drain, d with
  | true, some d => do
    let e ← resolveEpi s i (epiRaw s i.loom i.ctx f.epi.toNat) d
    pure { a := a, d := some d, epi := some e }
  | _, _ => pure { a := a, d := d, epi := none }

/-- Order 6 of R125 for the activation tensor. -/
def checkActFormat (a : Operand) (ak : Nat) (pl : Option Plane) : Except Reject Unit :=
  checkAll [
    checkFormat a,
    check (match pl with | some p => a.fmt == p.fmt | none => true) { code := 0x0205, handle := some a.handle },
    check (a.stride ak == 1) { code := 0x0205, handle := some a.handle },
    check (!a.scaled || dBdir a.words == ak) { code := 0x0204, handle := some a.handle },
    check (!a.scaled || (match pl with | some p => dBsize a.words == p.bsize | none => true))
      { code := 0x0204, handle := some a.handle }]

/-- Order 6 for D. -/
def checkOutFormat (o : MOps) (f : MStream) (pl : Option Plane) : Except Reject Unit :=
  match o.d with
  | none => .ok ()
  | some d => checkAll [
    checkFormat d,
    check (f.accm != 4 || (match pl with | some p => d.fmt == (if p.fmt = .bf16 then .fp32 else .int32) | none => true))
      { code := 0x0205, handle := some d.handle },
    (match o.epi with | some e => checkEpi6 e d f.dndim.toNat f.dmdim.toNat | none => .ok ())]

/-- D's extents for a drain (R125 order 7). -/
def checkOutExtents (d : Operand) (dn dm need : Nat) (nExt : Option Nat) : Except Reject Unit :=
  checkAll [
    checkSpan d true,
    check (match nExt with | some n => d.ext dn == n | none => true)
      { code := 0x0104, dw0 := d.ext dn, dw1 := nExt.getD 0, handle := some d.handle },
    check (need ≤ d.ext dm) { code := 0x0104, dw0 := need, dw1 := d.ext dm, handle := some d.handle }]

/-- The N extent that an MSTREAM's D must have (R117): its plane's, and for LAST that of the accumulation it passes out, as for the
MDRAIN in its place (R124; log entry 53). A LAST without an open accumulation compares D with the plane's, before order 9 rejects it
(R125; DESIGN CHOICE, log entry 53). -/
def outExtent (pl : Option Plane) (acc : Option Acc) (accm : Nat) : Option Nat :=
  match accm, acc with
  | 3, some a => some a.nExt
  | _, _ => pl.map (·.nExt)

/-- Order 7 of R125 for an MSTREAM. -/
def checkMstream7 (s : State) (o : MOps) (f : MStream) (pl : Option Plane) (acc : Option Acc) (full : Bool) (m0 mrows : Nat) :
    Except Reject Unit := do
  let ak := f.akdim.toNat
  let am := f.amdim.toNat
  onlyDims o.a ak am
  checkSpan o.a false
  check (match pl with | some p => o.a.ext ak == p.kExt | none => true)
    { code := 0x0104, dw0 := o.a.ext ak, dw1 := (pl.map (·.kExt)).getD 0, handle := some o.a.handle }
  check (m0 + mrows ≤ o.a.ext am) { code := 0x0104, dw0 := m0 + mrows, dw1 := o.a.ext am, handle := some o.a.handle }
  match o.d with
  | none => pure ()
  | some d => do
    checkOutExtents d f.dndim.toNat f.dmdim.toNat (m0 + mrows) (outExtent pl acc f.accm.toNat)
    match f.accm == 4, pl with
    | true, some p =>
      let n := passDepth p.fmt / termDepth p.fmt p.bsize
      let bd := rawDim f.dndim.toNat f.dmdim.toNat
      check (n ≤ d.ext bd) { code := 0x0104, dw0 := n, dw1 := d.ext bd, handle := some d.handle }
    | _, _ => pure ()
    match o.epi with
    | some e => checkEpi7 e d f.dndim.toNat (outExtent pl acc f.accm.toNat)
    | none => pure ()
  check (f.accm != 1 || mrows ≤ (if full then 512 else 256))
    { code := 0x0104, dw0 := mrows, dw1 := if full then 512 else 256, handle := some o.a.handle }
  checkBanks s ([o.a] ++ o.d.toList ++ (match o.epi with | some e => e.operands | none => []))

/-- Order 9 of R125 (R115): the plane and the accumulation state. -/
def checkAccState (pl : Option Plane) (acc : Option Acc) (accm mrows : Nat) : Except Reject Unit :=
  check (match pl, acc with
    | none, _ => false
    | some _, none => accm != 2 && accm != 3
    | some p, some a =>
      (accm == 2 || accm == 3) && p.fmt == a.fmt && p.nt == a.nt && p.cm1 == a.cm1 && p.bc == a.bc
        && p.kt == a.nextKt && mrows == a.rows) { code := 0x0103 }

/-- Orders 1 to 9 of R125, with R161, for an MSTREAM whose claim is on half `h`. -/
def checkMstream (s : State) (i : IssueCtx) (f : MStream) (h : Nat) (full : Bool) (m0 mrows : Nat) : Except Reject MOps := do
  let t := s.loom i.loom
  let pl := (t.recent h).map (t.plane h)
  let o ← resolveMstream s i f pl
  check (o.a.nearLoom s i.loom) { code := 0x0103, handle := some o.a.handle }
  check (match o.d with | some d => d.nearLoom s i.loom | none => true) { code := 0x0103, handle := some f.d }
  match o.epi with | some e => checkEpi5 s i e | none => pure ()
  checkActFormat o.a f.akdim.toNat pl
  checkOutFormat o f pl
  checkMstream7 s o f pl (t.acc h) full m0 mrows
  checkAccState pl (t.acc h) f.accm.toNat mrows
  pure o

/-- The reserved ACT check of R161, order 1. -/
def checkAct (s : State) (i : IssueCtx) (e : Nat) : Except Reject Unit :=
  check ((epiRaw s i.loom i.ctx e).act < 6) { code := 0x0101, dw0 := i.hdr, dw1 := i.word }

/-- Loom cycles from the entry of the last row group to retirement (R128, R179). -/
def streamTail (f : EFmt) (accm : Nat) (stats : Bool) : Nat :=
  if accm = 4 then (if f = .bf16 then 35 else 8)
  else (if f = .bf16 then 46 else 19) + (if accmDrains accm then (if stats then 26 else 18) else 1)

/-- The completion bound of an MSTREAM (R128 to R131), with its waits for the plane, for the MSTREAMs before it and for
the interlock at their largest (log entry 9). -/
def mstreamCycles (s : State) (i : IssueCtx) (h : Nat) (full : Bool) (pl : Plane) (o : MOps) (accm mrows : Nat) : Nat :=
  let g := ceilDiv mrows (groupRows full)
  let rate := match o.epi, o.d with | some _, some d => if d.fmt = .fp32 then 2 else 1 | _, _ => 1
  let before := (unfed s i.loom h).foldl (fun n c => n + 2 * groupsLeft full c) 0
  let load := if pl.loaded then 0 else mloadCycles pl.fmt full (liveCols pl.fmt pl.nt pl.nExt * 8)
  10 + load + before + (if accm = 2 ∨ accm = 3 then 13 - g else 0) + (g - 1) * rate +
    streamTail pl.fmt accm (match o.epi with | some e => e.stats | none => false)

/-- The blocks of D that a drain of some rows and columns touches (R164). -/
def drainBlocks (d : Operand) (dn dm m0 rows n0 cols : Nat) : List Nat :=
  if d.scaled then
    nubNat ((List.range rows).flatMap fun i => (List.range cols).map fun n => d.blockOf (coord2 dn (n0 + n) dm (m0 + i)))
  else []

/-- The drain of a matrix command, with the learned scales as they stand at issue (R163). -/
def mkDrain (s : State) (d : Operand) (dn dm m0 n0 : Nat) (sat : Bool) (e : Option EpiCfg) (raw : Bool) : Drain :=
  { d := d, dndim := dn, dmdim := dm, m0 := m0, n0 := n0, sat := sat, epi := e, raw := raw,
    scales := match e with | some c => readScales s c d dn | none => [] }

/-- The bytes that an MSTREAM reads of its activations: rows `m0` on over a pass, and their frames (R112, R113). -/
def rowRuns (pl : Plane) (a : Operand) (ak am m0 rows : Nat) (frames : Bool) : List (Nat × Nat) :=
  (List.range rows).flatMap fun r =>
    a.elemRuns (a.elemOff (coord2 ak (pl.kt * passDepth pl.fmt) am (m0 + r))) (liveDepth pl.fmt pl.kt pl.kExt) ++
    (if frames then (lineBlocks a pl.fmt ak pl.kt pl.kExt am (m0 + r)).flatMap fun b => a.frameRuns (b / 30) else [])

/-- What a bad entry of QSC does to a drain at issue (R163): the fault that the command meets before any row, or the
INV flag. -/
def scaleVerdict (s : State) (e : Option EpiCfg) (d : Option Operand) (dn : Nat) (blocks : List Nat) : Option LateFault × Bool :=
  match e, d with
  | some c, some d =>
    match badScale s c d dn blocks with
    | some (b, x) => if dInvFault d.words then (some { code := 0x0202, dw0 := b, dw1 := x }, false) else (none, true)
    | none => (none, false)
  | _, _ => (none, false)

/-- The accumulation record after an accepted MSTREAM (R115). -/
def accAfter (p : Plane) (acc : Option Acc) (accm aid mrows : Nat) : Option Acc :=
  match accm with
  | 1 => some { aid := aid, fmt := p.fmt, nt := p.nt, cm1 := p.cm1, bc := p.bc, rows := mrows, nextKt := p.kt + 1,
                bsize := p.bsize, kExt := p.kExt, nExt := p.nExt }
  | 2 => acc.map fun a => { a with nextKt := a.nextKt + 1 }
  | 3 => none
  | _ => acc

/-- A command just launched meets the fault of R163 at once; otherwise it goes on. -/
def launchVerdict (s : State) (id : Nat) (v : Option LateFault) : State :=
  match v, s.cmd? id with
  | some e, some c => s.lateFault c e
  | _, _ => s

/-- An accepted MSTREAM with rows. DESIGN CHOICE (log entry 53): each MSTREAM starts with an empty frame buffer, since R112 does not say
whether frames stay from one MSTREAM to the next. -/
def startMstream (s : State) (i : IssueCtx) (f : MStream) (h : Nat) (full : Bool) (o : MOps) (m0 mrows : Nat) : State :=
  let t := s.loom i.loom
  let p := (t.recent h).getD 0
  let pl := t.plane h p
  let accm := f.accm.toNat
  let aid := match t.acc h with | some a => a.aid | none => s.nextId
  let cols := liveCols pl.fmt pl.nt ((outExtent (some pl) (t.acc h) accm).getD 0)
  let n0 := pl.nt * tileCols pl.fmt
  let dn := f.dndim.toNat
  let dr := o.d.map fun d => mkDrain s d dn f.dmdim.toNat m0 n0 f.sat o.epi (accm == 4)
  let blocks := match o.epi, o.d with | some _, some d => drainBlocks d dn f.dmdim.toNat m0 mrows n0 cols | _, _ => []
  let v := scaleVerdict s o.epi o.d dn blocks
  let t := t.setAcc h (accAfter pl (t.acc h) accm aid mrows)
  let t := if accm = 1 then { t with cells := smSet (fun _ => []) t.cells aid (List.replicate mrows []) } else t
  let s' := (s.setLoom i.loom t).launch i (.mstream f)
    { nc := some (mstreamCycles s i h full pl o accm mrows)
      handles := mstreamNames s i f
      entries := o.a.entries s ++ o.d.toList.flatMap (·.entries s) ++ (match o.epi with | some e => e.operands.flatMap (·.entries s) | none => [])
      reads := rowRuns pl o.a f.akdim.toNat f.amdim.toNat m0 mrows (accm != 4) ++ (match o.epi with | some e => e.operands.flatMap Operand.dataRuns | none => [])
      writes := o.d.toList.flatMap Operand.runs
      plan := { quant := { inv := v.2 } }
      phase := .mstream h p accm aid o.a f.akdim.toNat f.amdim.toNat m0 mrows dr [] 0 [] }
  launchVerdict s' s.nextId v.1

/-- A third MSTREAM of a claim is held before any check while two have rows to feed (R125, R128). -/
def mstreamHold (s : State) (i : IssueCtx) : Option HoldKind :=
  match (s.loom i.loom).claimOf i.ctx with
  | some (h, _) => if 2 ≤ (unfed s i.loom h).length then some .other else none
  | none => none

/-- Whether an output exists and has an extent of 0: its command completes at once and writes nothing (R218, R241). -/
def emptyOut (d : Option Operand) : Bool := match d with | some d => d.isEmpty | none => false

/-- MSTREAM at issue, once nothing holds it and its ACT has passed. A LAST with an empty output closes its accumulation
all the same (log entry 53). -/
def issueMstream (i : IssueCtx) (f : MStream) (s : State) : IssueRes :=
  match (s.loom i.loom).claimOf i.ctx with
  | none => .rejected { code := 0x0103 }
  | some (h, full) =>
    let m0 := i.ctr f.m0.toNat
    let mrows := i.ctr f.mrows.toNat
    match checkMstream s i f h full m0 mrows with
    | .error r => .rejected r
    | .ok o =>
      if mrows = 0 then .issued (launchNow s i (.mstream f) { nc := none, handles := mstreamNames s i f })
      else if emptyOut o.d then
        let s := if f.accm = 3 then s.setLoom i.loom ((s.loom i.loom).setAcc h none) else s
        .issued (launchNow s i (.mstream f) { nc := none, handles := mstreamNames s i f })
      else .issued (startMstream s i f h full o m0 mrows)

/-! ### Feeding rows (R113, R128, R130) -/

/-- The blocks of A that the next row group needs. -/
def groupBlocks (pl : Plane) (a : Operand) (ak am m0 fed n : Nat) : List Nat :=
  (List.range n).flatMap fun j => lineBlocks a pl.fmt ak pl.kt pl.kExt am (m0 + fed + j)

/-- One row of an MSTREAM through the arrays: its codes, its scales, and whether one was replaced (R84). -/
def fedRow (s : State) (pl : Plane) (a : Operand) (ak am m : Nat) (got : List (Nat × List Nat)) : List Nat × List Nat × Bool :=
  let row := readLine s a ak (pl.kt * passDepth pl.fmt) (liveDepth pl.fmt pl.kt pl.kExt) am m
  let sc := (lineBlocks a pl.fmt ak pl.kt pl.kExt am m).map (scaleFrom a got)
  (row, sc.map (·.1), sc.any (·.2))

/-- The block sums, or taps, of one row and column, with the flags of BF16 roundings (R117). -/
def rawTerms (pl : Plane) (row col : List Nat) : List Nat × Flags :=
  let tb := termDepth pl.fmt pl.bsize
  (List.range (passDepth pl.fmt / tb)).foldl (fun r b =>
    if pl.fmt = .bf16 then
      let t := tapChain (termSlice tb b row) (termSlice tb b col) none {}
      (r.1 ++ [t.1], r.2.or t.2)
    else (r.1 ++ [ofSigned 32 (blockSum pl.fmt (termSlice tb b row) (termSlice tb b col))], r.2)) ([], {})

/-- The writes and digest words of a RAW row (R117). -/
def rawRow (pl : Plane) (dr : Drain) (m : Nat) (row : List Nat) : List BWrite × List (Nat × Nat × Nat) × Flags :=
  let bd := rawDim dr.dndim dr.dmdim
  pl.cols.zipIdx.foldl (fun r (col, n) =>
    let t := rawTerms pl row col
    let ws := t.1.zipIdx.map fun (v, b) =>
      let c := (coord2 dr.dndim (pl.nt * tileCols pl.fmt + n) dr.dmdim m).set bd b
      (dr.d.put (dr.d.elemOff c) v, (0, indexOf dr.d.exts c, v))
    (r.1 ++ ws.flatMap (·.1), r.2.1 ++ ws.map (·.2), r.2.2.or t.2)) ([], [], {})

/-- What the rows of a row group leave. -/
structure FedState where
  cells : List (List AccCell)
  rows : List (Nat × List Nat)
  own : Flags
  words : List (Nat × Nat × Nat)
  writes : List BWrite := []

/-- A row of an MSTREAM enters its array (R114): its terms are added; a completed row waits for the epilogue, with the columns inside
D's column extent; a RAW row is written. -/
def feedRow (s : State) (pl : Plane) (accm : Nat) (a : Operand) (ak am m0 : Nat) (dr : Option Drain) (got : List (Nat × List Nat))
    (j : Nat) (x : FedState) : FedState :=
  let r := fedRow s pl a ak am (m0 + j) got
  let n := match dr with | some dr => liveCols pl.fmt pl.nt (dr.d.ext dr.dndim) | none => pl.cols.length
  match accm, dr with
  | 4, some dr =>
    let w := rawRow pl dr (m0 + j) r.1
    { x with writes := x.writes ++ w.1, own := x.own.or w.2.2, words := x.words ++ w.2.1 }
  | 0, _ =>
    let p := passRow pl r.1 r.2.1 []
    let t := closeRow n p.1
    { x with rows := x.rows ++ [(m0 + j, t.1)], own := ((x.own.or { inv := r.2.2 }).or p.2).or t.2 }
  | _, _ =>
    let p := passRow pl r.1 r.2.1 (x.cells.getD j [])
    let cells := x.cells.set j p.1
    if accm = 3 then
      let t := closeRow n p.1
      { x with cells := cells, rows := x.rows ++ [(m0 + j, t.1)], own := ((x.own.or { inv := r.2.2 }).or p.2).or t.2 }
    else { x with cells := cells, own := (x.own.or { inv := r.2.2 }).or p.2 }

/-- What the entries of a row group, read from the frame buffer, raise (R85): every read of an entry is validated, also one
from a frame that an earlier group fetched (R112). -/
def bufferedFault (a : Operand) (got : List (Nat × List Nat)) (blocks : List Nat) : Option LateFault :=
  if dInvFault a.words then
    blocks.findSome? fun b =>
      let e := (((got.find? (·.1 == b / 30)).map (·.2)).getD []).getD (b % 30) 0
      if scaleValid e then none else some { code := 0x0202, dw0 := b, dw1 := e }
  else none

/-- A frame put into the frame buffer: four for each array of the claim, so the oldest that the row group does not need
leaves a full one (R112; log entry 53). -/
def bufferFrame (full : Bool) (blocks : List Nat) (got : List (Nat × List Nat)) (f : Nat × List Nat) : List (Nat × List Nat) :=
  if got.length < 4 * groupRows full then got ++ [f]
  else match got.find? fun g => !blocks.any (· / 30 == g.1) with
    | some g => got.erase g ++ [f]
    | none => got ++ [f]

/-- ROW_GROUP_ENTER (R128): the next row group of the oldest MSTREAM with rows to feed enters the arrays, once its plane
is complete and its frames have been read; an invalid entry under INV_FAULT faults the command instead (R85). -/
def rowGroup (s : State) (c : Cmd) : State :=
  match c.phase with
  | .mstream h p accm aid a ak am m0 mrows dr got fed rows =>
    let t := s.loom c.loom
    let pl := t.plane h p
    let n := min (groupRows t.full) (mrows - fed)
    let first := match unfed s c.loom h with | x :: _ => x.id == c.id | [] => false
    let blocks := if accm = 4 then [] else groupBlocks pl a ak am m0 fed n
    if !c.draining && pl.loaded && first && (missingFrames blocks got).isEmpty && decide (fed < mrows) then
      let x := (List.range n).foldl (fun x j => feedRow s pl accm a ak am m0 dr got (fed + j) x)
        { cells := smGet (fun _ => []) t.cells aid, rows := rows, own := c.plan.own, words := c.plan.words }
      match bufferedFault a got blocks, (darkRun s (rowRuns pl a ak am (m0 + fed) n false)).or (darkWrite s x.writes) with
      | _, some b => s.bankFault c b
      | some e, none => s.lateFault c e
      | none, none =>
        let t' := { t with cells := smSet (fun _ => []) t.cells aid (if accm == 3 && fed + n == mrows then [] else x.cells) }
        (((s.store x.writes).countEvent (128 + c.loom) 5 c.stream 1).setLoom c.loom t').setCmd
          { c with plan := { c.plan with own := x.own, words := x.words }
                   phase := .mstream h p accm aid a ak am m0 mrows dr got (fed + n) x.rows }
    else s
  | _ => s

/-- The first frame that the next row group of an MSTREAM still needs (R112). -/
def mstreamFrame (s : State) (c : Cmd) : State :=
  match c.phase with
  | .mstream h p accm aid a ak am m0 mrows dr got fed rows =>
    let t := s.loom c.loom
    let pl := t.plane h p
    let n := min (groupRows t.full) (mrows - fed)
    let blocks := groupBlocks pl a ak am m0 fed n
    match if c.draining || accm == 4 then [] else missingFrames blocks got with
    | [] => s
    | f :: _ =>
      match frameFault s a f blocks, darkRun s (a.frameRuns f) with
      | _, some b => s.bankFault c b
      | some e, none => s.lateFault c e
      | none, none =>
        s.setCmd { c with phase := .mstream h p accm aid a ak am m0 mrows dr (bufferFrame t.full blocks got (f, (readFrame s a f).2)) fed rows }
  | _ => s

/-! ### MDRAIN (R124, R130) -/

/-- The handles an MDRAIN names. -/
def mdrainNames (s : State) (i : IssueCtx) (f : MDrain) : Named :=
  if f.mode = 0 then drainNames s i [] f.d f.epi.toNat
  else if f.mode = 1 then nameAll s [] [f.d]
  else {}

/-- The checks of R125 and R161 for an MDRAIN; no D for DISCARD. -/
def checkMdrain (s : State) (i : IssueCtx) (f : MDrain) (acc : Option Acc) (m0 : Nat) :
    Except Reject (Option Operand × Option EpiCfg) := do
  let d ← resolveIf (f.mode != 2) s f.d
  match d with
  | none => do
    check acc.isSome { code := 0x0103 }
    pure (none, none)
  | some d => do
    let e ← (if f.mode = 0 then (resolveEpi s i (epiRaw s i.loom i.ctx f.epi.toNat) d).map some else .ok none)
    match e with | some e => checkEpi5 s i e | none => pure ()
    checkFormat d
    check (f.mode != 1 || d.fmt == .f64) { code := 0x0205, handle := some d.handle }
    match e with | some e => checkEpi6 e d f.dndim.toNat f.dmdim.toNat | none => pure ()
    checkOutExtents d f.dndim.toNat f.dmdim.toNat (match acc with | some a => m0 + a.rows | none => 0) (acc.map (·.nExt))
    match e with | some e => checkEpi7 e d f.dndim.toNat (acc.map (·.nExt)) | none => pure ()
    checkBanks s ([d] ++ (match e with | some e => e.operands | none => []))
    check acc.isSome { code := 0x0103 }
    pure (some d, e)

/-- The completion bound of an MDRAIN (R130, R179), with its wait for the updates at its largest (log entry 9). -/
def mdrainCycles (s : State) (i : IssueCtx) (h : Nat) (full : Bool) (mode rows : Nat) (d : Option Operand) (e : Option EpiCfg) : Nat :=
  let wait := (unfed s i.loom h).foldl (fun n c => n + 2 * groupsLeft full c) 0 + 47
  let g := ceilDiv rows (groupRows full)
  wait + (match mode with
    | 0 => (g - 1) * (match d with | some d => if d.fmt = .fp32 then 2 else 1 | none => 1) +
        (match e with | some e => if e.stats then 26 else 18 | none => 18)
    | 1 => (rows - 1) * (if full then 1 else 2) + 6
    | _ => 1)

/-- An accepted MDRAIN: it takes the accumulation with it. -/
def startMdrain (s : State) (i : IssueCtx) (f : MDrain) (h : Nat) (full : Bool) (acc : Acc) (d : Option Operand)
    (e : Option EpiCfg) (m0 : Nat) : State :=
  let t := s.loom i.loom
  let cols := liveCols acc.fmt acc.nt acc.nExt
  let n0 := acc.nt * tileCols acc.fmt
  let dn := f.dndim.toNat
  let dr := d.map fun d => mkDrain s d dn f.dmdim.toNat m0 n0 f.sat e false
  let blocks := match e, d with | some _, some d => drainBlocks d dn f.dmdim.toNat m0 acc.rows n0 cols | _, _ => []
  let v := scaleVerdict s e d dn blocks
  let s' := (s.setLoom i.loom (t.setAcc h none)).launch i (.mdrain f)
    { nc := some (mdrainCycles s i h full f.mode.toNat acc.rows d e)
      handles := mdrainNames s i f
      entries := d.toList.flatMap (·.entries s) ++ (match e with | some e => e.operands.flatMap (·.entries s) | none => [])
      reads := (match e with | some e => e.operands.flatMap Operand.dataRuns | none => [])
      writes := d.toList.flatMap Operand.runs
      plan := { quant := { inv := v.2 } }
      phase := .mdrain h f.mode.toNat acc dr false [] }
  launchVerdict s' s.nextId v.1

/-- MDRAIN at issue, once its ACT has passed. An empty D drains nothing, and the accumulation closes (log entry 53). -/
def issueMdrain (i : IssueCtx) (f : MDrain) (s : State) : IssueRes :=
  match (s.loom i.loom).claimOf i.ctx with
  | none => .rejected { code := 0x0103 }
  | some (h, full) =>
    let t := s.loom i.loom
    match checkMdrain s i f (t.acc h) (i.ctr f.m0.toNat), t.acc h with
    | .error r, _ => .rejected r
    | .ok _, none => .rejected { code := 0x0103 }
    | .ok o, some a =>
      if emptyOut o.1 then
        .issued (launchNow (s.setLoom i.loom { (t.setAcc h none) with cells := smSet (fun _ => []) t.cells a.aid [] }) i (.mdrain f)
          { nc := none, handles := mdrainNames s i f })
      else .issued (startMdrain s i f h full a o.1 o.2 (i.ctr f.m0.toNat))

/-- The ACT check of a draining matrix command, order 1 of R125 (R161). -/
def matrixAct (s : State) (i : IssueCtx) : SlotCmd → Except Reject Unit
  | .mstream f => if accmDrains f.accm.toNat then checkAct s i f.epi.toNat else .ok ()
  | .mdrain f => if f.mode = 0 then checkAct s i f.epi.toNat else .ok ()
  | _ => .ok ()

/-- The rows of an accumulation with their chunks closed (R142), from row `m0` of D on. -/
def drainRows (acc : Acc) (cells : List (List AccCell)) (m0 : Nat) : List (Nat × List Nat) × Flags :=
  let n := liveCols acc.fmt acc.nt acc.nExt
  (List.range acc.rows).foldl (fun r j =>
    let t := closeRow n (cells.getD j [])
    (r.1 ++ [(m0 + j, t.1)], r.2.or t.2)) ([], {})

/-- The writes and words of binary64 totals (R124). -/
def totalWrites (dr : Drain) (n0 : Nat) (rows : List (Nat × List Nat)) : List BWrite × List (Nat × Nat × Nat) :=
  let ws := rows.flatMap fun (m, ts) => ts.zipIdx.map fun (v, n) =>
    let c := coord2 dr.dndim (n0 + n) dr.dmdim m
    (dr.d.put (dr.d.elemOff c) v, (0, indexOf dr.d.exts c, v))
  (ws.flatMap (·.1), ws.map (·.2))

/-- MDRAIN_START (R130): once every update of its accumulation is complete, the MDRAIN closes the chunks. TOTAL64 writes
its rows, DISCARD drops them, EPI passes them to the epilogue. -/
def mdrainBegin (s : State) (c : Cmd) : State :=
  match c.phase with
  | .mdrain h mode acc dr false _ =>
    let busy := (unfed s c.loom h).any fun x => x.accId == some acc.aid
    if c.draining || busy then s
    else
      let t := s.loom c.loom
      let cells := smGet (fun _ => []) t.cells acc.aid
      let s := s.setLoom c.loom { t with cells := smSet (fun _ => []) t.cells acc.aid [] }
      let r := drainRows acc cells (match dr with | some d => d.m0 | none => 0)
      match mode, dr with
      | 0, _ => s.setCmd { c with plan := { c.plan with own := r.2 }, phase := .mdrain h mode acc dr true r.1 }
      | 1, some d =>
        let w := totalWrites d d.n0 r.1
        match darkWrite s w.1 with
        | some b => s.bankFault c b
        | none => (s.store w.1).setCmd { c with plan := { c.plan with own := r.2, words := w.2 }, phase := .mdrain h mode acc dr true [] }
      | _, _ => s.setCmd { c with phase := .mdrain h mode acc dr true [] }
  | _ => s

/-! ### EPILOGUE_ROW (R179) -/

/-- Rows through the epilogue: what they gather, the frames that hold their blocks, and the command's plan and drain after
them (R164). -/
def epiGroup (s : State) (c : Cmd) (dr : Drain) (cfg : EpiCfg) (rows : List (Nat × List Nat)) : RowOut × Plan × Drain :=
  let o := rows.foldl (fun o (m, ts) => epiRow s c.loom (c.stream % 4) c.id dr cfg m dr.n0 ts o)
    { stats := c.plan.stats, parts := (s.loom c.loom).parts }
  let fr := drainFrames dr o.blocks
  let fw := fr.2.flatMap fun f => (frameWords dr.d f (drainEntry dr)).zipIdx.map fun (w, i) => (1, 8 * f + i, w)
  ({ o with writes := o.writes ++ fr.1 },
   { c.plan with own := c.plan.own.or o.arr, quant := c.plan.quant.or o.quant, stats := o.stats,
                 words := c.plan.words ++ o.words ++ fw },
   { dr with framesDone := dr.framesDone ++ fr.2 })

/-- The drain of a command and its rows that wait for the epilogue. -/
def Cmd.draining? (c : Cmd) : Option (Drain × List (Nat × List Nat)) :=
  match c.phase with
  | .mstream _ _ _ _ _ _ _ _ _ (some dr) _ _ rows => some (dr, rows)
  | .mdrain _ _ _ (some dr) true rows => some (dr, rows)
  | _ => none

/-- The phase with the drain and the waiting rows replaced. -/
def Phase.drained (p : Phase) (dr : Drain) (rows : List (Nat × List Nat)) : Phase :=
  match p with
  | .mstream h p accm aid a ak am m0 mrows _ got fed _ => .mstream h p accm aid a ak am m0 mrows (some dr) got fed rows
  | .mdrain h mode acc _ started _ => .mdrain h mode acc (some dr) started rows
  | p => p

/-- The next row group that waits for the epilogue runs through it; a row that meets a closed bank faults its command (R268). -/
def epilogueRows (s : State) (c : Cmd) : State :=
  let n := groupRows (s.loom c.loom).full
  match if c.draining then none else c.draining? with
  | some (dr, x :: rest) =>
    match dr.epi with
    | some cfg =>
      let r := epiGroup s c dr cfg ((x :: rest).take n)
      match darkWrite s r.1.writes with
      | some b => s.bankFault c b
      | none =>
        let s := s.setLoom c.loom { s.loom c.loom with parts := r.1.parts }
        ((s.store r.1.writes).countEvent (128 + c.loom) 7 c.stream (min n (rest.length + 1))).setCmd
          { c with plan := r.2.1, phase := c.phase.drained r.2.2 ((x :: rest).drop n) }
    | none => s
  | _ => s

/-- Whether a command merges statistics when it retires, or gathers watched partials (R173, R174). -/
def Cmd.mergesStats (c : Cmd) : Bool :=
  match c.phase with
  | .mstream _ _ _ _ _ _ _ _ _ (some dr) _ _ _ => match dr.epi with | some e => e.stats | none => false
  | .mdrain _ _ _ (some dr) _ _ => match dr.epi with | some e => e.stats | none => false
  | _ => false

/-- WATCH_PARTIAL_MERGE (R174): the oldest partial of a context merges, once its command has retired and no earlier command
of the context can still update a watched entry. -/
def mergePart (s : State) (loom ctx : Nat) : State :=
  let t := s.loom loom
  match t.parts.find? (·.ctx == ctx) with
  | none => s
  | some p =>
    if p.ready && !(s.cmdsOfCtx loom ctx).any fun c => c.mergesStats && !c.draining && decide (c.id < p.cmd) then
      let w := smGet (fun _ => (0, 0)) t.watch p.entry
      let sse := (fp64.round .rne ((fp64.decode w.2).add (fp64.decode p.sse)).1).code
      s.setLoom loom { t with watch := smSet (fun _ => (0, 0)) t.watch p.entry ((w.1 + p.count) % 2 ^ 64, sse),
                              parts := t.parts.erase p }
    else s

end Sys2Proof.Machine
end

