-- ==== Sys2Proof/Machine/Stats.lean ====
section
/-! DEFINITION. The statistics slot: STATCFG, STATREAD and QGRAD (R175 to R180). -/
namespace Sys2Proof.Machine

/-- Whether an earlier command of a context still has statistics to merge (R175, R176). -/
def statsBusy (s : State) (loom ctx : Nat) : Bool :=
  (s.cmdsOfCtx loom ctx).any (fun c => c.mergesStats && !c.draining) || (s.loom loom).parts.any (·.ctx == ctx)

/-- The statistics handle of a context. -/
def statHandle (s : State) (i : IssueCtx) : Handle := BitVec.ofNat 16 (s.fld (Reg.LOOM_STATCTL_STH i.loom i.ctx))
/-- The scale-gradient handle of a context. -/
def sgHandle (s : State) (i : IssueCtx) : Handle := BitVec.ofNat 16 (s.fld (Reg.LOOM_STATCTL_SGH i.loom i.ctx))
/-- STATCTL VALID of a context. -/
def statValid (s : State) (i : IssueCtx) : Bool := s.flag (Reg.LOOM_STATCTL_VALID i.loom i.ctx)

/-- The writes that put a code into every element of a tensor. -/
def fillWrites (o : Operand) (code : Nat) : List BWrite :=
  (List.range o.total).flatMap fun e => elemWrites o (o.elemOff (coordsOf o.exts e)) code

/-- Loom cycles of a fill in the loom's bobbin (R280). -/
def fillCycles (o : Operand) : Nat := 32 + ceilDiv o.span 1024

/-! ### STATCFG (R175) -/

/-- The checks of a STATCFG. -/
def checkStatcfg (s : State) (i : IssueCtx) (sth sgh : Handle) (clear : Bool) : Except Reject (Operand × Operand) := do
  let st ← resolve s sth
  let sg ← resolve s sgh
  check (statPlace s i.loom st) { code := 0x0103, handle := some sth }
  check (statPlace s i.loom sg) { code := 0x0103, handle := some sgh }
  checkStatFormat st
  check (sg.fmt? == some .fp32 && sg.stride 0 == 1 && entryAddr sg.w0 0 % 16 == 0 && dBsize sg.words == 0)
    { code := 0x0205, handle := some sgh }
  checkSpan st clear
  checkSpan sg clear
  checkBanks s [st, sg]
  pure (st, sg)

/-- STATCFG at issue. -/
def issueStatcfg (i : IssueCtx) (sth sgh : Handle) (clear : Bool) (s : State) : IssueRes :=
  if statsBusy s i.loom i.ctx then .held .other
  else
    match checkStatcfg s i sth sgh clear with
    | .error r => .rejected r
    | .ok (st, sg) =>
      let s1 := ((s.setFld (Reg.LOOM_STATCTL_STH i.loom i.ctx) sth.toNat).setFld (Reg.LOOM_STATCTL_SGH i.loom i.ctx)
        sgh.toNat).setFld (Reg.LOOM_STATCTL_VALID i.loom i.ctx) 1
      .issued (s1.launch i (.statcfg sth sgh clear)
        { nc := some (4 + if clear then fillCycles st + fillCycles sg else 0)
          handles := if clear then nameAll s [] [sth, sgh] else nameAll s [sth, sgh] []
          entries := st.entries s ++ sg.entries s
          writes := if clear then st.runs ++ sg.runs else []
          plan := { writes := if clear then fillWrites st 0 ++ fillWrites sg 0 else [], unwatch := clear } })

/-! ### STATREAD (R176, R177) -/

/-- The eight words of a watched entry's record (R176). -/
def watchRecord (s : State) (loom ctx e : Nat) : List Nat :=
  let we := watchEntry s loom e
  let w := if we.2.2 && we.2.1 == ctx then smGet (fun _ => (0, 0)) (s.loom loom).watch e else (0, 0)
  let mse := if w.1 = 0 then 0 else (fp64.round .rne ((fp64.decode w.2).div (FVal.ofInt w.1)).1).code
  let raw := (s.reg (Reg.LOOM_WATCH loom (e / 2))).toNat / (if e % 2 = 0 then 1 else 2 ^ 32) % 2 ^ 32
  [raw, 0, w.1 % 2 ^ 32, w.1 / 2 ^ 32, w.2 % 2 ^ 32, w.2 / 2 ^ 32, mse % 2 ^ 32, mse / 2 ^ 32]

/-- Element codes by index as writes and digest words. -/
def elemPlan (d : Operand) (codes : List (Nat × Nat)) : List BWrite × List (Nat × Nat × Nat) :=
  (codes.flatMap fun (e, v) => d.put (d.elemOff (coordsOf d.exts e)) v, codes.map fun (e, v) => (0, e, v))

/-- STATREAD WATCH once it may issue. A DST of another stride than 1 raises FORMAT_MISMATCH (DESIGN CHOICE, log entry 56: R176 asks for
stride 1 and no row of R182 names the fault). -/
def readWatch (i : IssueCtx) (f : StatRead) (s : State) : IssueRes :=
  match (do
    let d ← resolve s f.dst
    check (d.fmt? == some .int32 && d.stride 0 == 1 && dBsize d.words == 0) { code := 0x0205, handle := some f.dst }
    check (512 ≤ d.total) { code := 0x0104, dw0 := 512, dw1 := d.total, handle := some f.dst }
    checkSpan d true
    checkBanks s [d]
    pure d : Except Reject Operand) with
  | .error r => .rejected r
  | .ok d =>
    let codes := ((List.range 64).flatMap (watchRecord s i.loom i.ctx)).zipIdx.map fun (v, e) => (e, v)
    let p := elemPlan d codes
    .issued (s.launch i (.statread f)
      { nc := some 12, handles := nameAll s [] [f.dst], entries := d.entries s
        writes := d.runs, plan := { writes := p.1, words := p.2, unwatch := f.clr } })

/-- The channels at a scale position (R162, R177). -/
def channelsAt (ref : Operand) (cd p : Nat) : List Nat :=
  if dBdir ref.words = cd then (List.range (min ref.B (ref.ext cd - p * ref.B))).map (p * ref.B + ·) else [p]

/-- The largest MAXABS of some channels. -/
def maxAbsOf (s : State) (st : Operand) (chs : List Nat) : Nat :=
  chs.foldl (fun m n =>
    let x := leValue ((List.range 4).map fun j => s.operandByte (entryAddr st.w0 (16 * n) + j))
    if (fp32.decode m).lt (fp32.decode x) then x else m) 0

/-- The initial learned scale of a position from its largest MAXABS (R177): its code, whether QUANT OVF sets, and
whether it is degenerate. -/
def initScale (ref : Operand) (m : Nat) : Nat × Bool × Bool :=
  let x := fp32.decode m
  if x.isZero then (dFloor ref.words, false, true)
  else
    let r := bf16.round .up (x.div (FVal.ofInt ref.fmt.limit)).1
    if r.code = bf16.infCode then (0x7F7F, true, false)
    else if (bf16.decode r.code).lt (bf16.decode (dFloor ref.words)) then (dFloor ref.words, false, false)
    else (r.code, false, false)

/-- What STATREAD INIT changes in the record of a channel: DEGENERATE sets, and with CLR the other fields are zeroed. Bytes
12 to 15 are written with their reserved bits 0 (R171). -/
def initRecord (st : Operand) (degen clr : Bool) (n : Nat) : List BWrite :=
  let a := entryAddr st.w0 (16 * n)
  let keep : Byte := (if clr then 0 else 1) + (if degen then 0 else 2)
  (if clr then plainWrites a (List.replicate 12 0) else []) ++
  (if degen || clr then
    { addr := a + 12, mask := ~~~keep, val := if degen then 2 else 0 } :: plainWrites (a + 13) [0, 0, 0]
  else [])

/-- The checks of a STATREAD INIT. -/
def checkInit (s : State) (i : IssueCtx) (f : StatRead) : Except Reject (Operand × Operand × Operand) := do
  let cd := f.cdim.toNat
  let d ← resolve s f.dst
  let r ← resolve s f.ref
  check (statValid s i) { code := 0x0103 }
  let st ← resolve s (statHandle s i)
  check (statPlace s i.loom st) { code := 0x0103, handle := some st.handle }
  check r.scaled { code := 0x0205, handle := some f.ref }
  checkFormat r
  checkFormat d
  checkStatFormat st
  check (d.fmt == .bf16 && d.ext 0 == scaleCount r cd) { code := 0x0104, dw0 := d.ext 0, dw1 := scaleCount r cd, handle := some f.dst }
  check (4 * r.ext cd ≤ st.total) { code := 0x0104, dw0 := 4 * r.ext cd, dw1 := st.total, handle := some st.handle }
  checkSpan d true
  checkSpan r false
  checkSpan st true
  checkBanks s [d, r, st]
  pure (d, r, st)

/-- STATREAD INIT once it may issue: the records are read as it issues; they change, and DST is written, as it retires. -/
def readInit (i : IssueCtx) (f : StatRead) (s : State) : IssueRes :=
  match checkInit s i f with
  | .error r => .rejected r
  | .ok (d, r, st) =>
    let cd := f.cdim.toNat
    let ps := (List.range (scaleCount r cd)).map fun p => (p, initScale r (maxAbsOf s st (channelsAt r cd p)))
    let recs := ps.flatMap fun (p, v) => (channelsAt r cd p).flatMap (initRecord st v.2.2 f.clr)
    let w := elemPlan d (ps.map fun (p, v) => (p, v.1))
    .issued (launchUnless d.isEmpty s i (.statread f)
      { nc := some (8 + ceilDiv (r.ext cd) 64)
        handles := nameAll s [f.ref, statHandle s i] [f.dst]
        entries := d.entries s ++ r.entries s ++ st.entries s
        reads := st.runs, writes := d.runs
        plan := { writes := w.1, records := recs, words := w.2, quant := { ovf := ps.any (·.2.2.1) } } })

/-- STATREAD at issue. -/
def issueStatread (i : IssueCtx) (f : StatRead) (s : State) : IssueRes :=
  if statsBusy s i.loom i.ctx then .held .other
  else if f.mode then readInit i f s else readWatch i f s

/-! ### QGRAD (R178) -/

/-- The contribution of one element: the straight-through gradient of its scale, with its flags. -/
def qgradTerm (lim : Nat) (q : Int) (scale : Nat) (x g : FVal) : FVal × Flags :=
  let t := (x.div (bf16.decode scale)).1
  let inside := match t with | .fin _ n d => decide (n ≤ lim * d) | _ => false
  let dq := if inside then ((FVal.ofInt q).sub t).1 else FVal.ofInt q
  let r := fp64.roundOp (g.mul dq)
  (fp64.decode r.code, r.fl)

/-- The checks of a QGRAD. -/
def checkQgrad (s : State) (i : IssueCtx) (f : QGradF) : Except Reject (Operand × Operand × Operand × Operand) := do
  let cd := f.cdim.toNat
  let q ← resolve s f.q
  let x ← resolve s f.x
  let g ← resolve s f.g
  check (statValid s i) { code := 0x0103 }
  let sg ← resolve s (sgHandle s i)
  check q.scaled { code := 0x0205, handle := some f.q }
  checkFormat q
  checkFormat x
  check (x.fmt == .bf16 || x.fmt == .fp32) { code := 0x0205, handle := some f.x }
  checkFormat g
  check (g.fmt == .bf16 || g.fmt == .fp32) { code := 0x0205, handle := some f.g }
  check (sg.fmt? == some .fp32 && dBsize sg.words == 0) { code := 0x0205, handle := some sg.handle }
  sameExts x q f.x
  sameExts g q f.g
  check (sg.ext 0 == scaleCount q cd) { code := 0x0104, dw0 := sg.ext 0, dw1 := scaleCount q cd, handle := some sg.handle }
  checkSpan q false
  checkSpan x false
  checkSpan g false
  checkSpan sg true
  checkBanks s [q, x, g, sg]
  pure (q, x, g, sg)

/-- The partial of a scale position: contributions in increasing element index, each addition rounded to binary64. -/
def qgradPartial (s : State) (q x g : Operand) (cd p : Nat) : Option (FVal × Flags) :=
  (List.range q.total).foldl (fun acc e =>
    let c := coordsOf q.exts e
    if scalePos q cd c = p then
      let sc := scaleOf s q (q.blockOf c)
      let t := qgradTerm q.fmt.limit (toSigned q.fmt.bits (q.read s c)) sc.1 (x.fmt.value (x.read s c)) (g.fmt.value (g.read s c))
      let a := acc.getD (FVal.zero, {})
      let r := fp64.roundOp (a.1.add t.1)
      some (fp64.decode r.code, ((a.2.or t.2).or r.fl).or { inv := sc.2 })
    else acc) none

/-- Whether every block of Q at a scale position has an entry that may be used (R85). -/
def qgradWhole (s : State) (q : Operand) (cd p : Nat) : Bool :=
  (List.range q.total).all fun e =>
    let c := coordsOf q.exts e
    scalePos q cd c != p || usable s q (q.blockOf c)

/-- The scale gradients that QGRAD writes: each position that has elements and usable entries, with its present gradient and its
partial added and rounded once to FP32, and the flags of its arithmetic (R178). -/
def qgradSums (s : State) (q x g sg : Operand) (cd : Nat) : List (Nat × Nat × Flags) :=
  ((List.range (scaleCount q cd)).filter (qgradWhole s q cd)).filterMap fun p =>
    (qgradPartial s q x g cd p).map fun r =>
      let n := fp32.roundOp ((sg.fmt.value (readElem s sg (p * sg.stride 0))).add r.1)
      (p, n.code, r.2.or n.fl)

/-- QGRAD at issue. -/
def issueQgrad (i : IssueCtx) (f : QGradF) (s : State) : IssueRes :=
  match checkQgrad s i f with
  | .error r => .rejected r
  | .ok (q, x, g, sg) =>
    let upd := qgradSums s q x g sg f.cdim.toNat
    let w := elemPlan sg (upd.map fun (p, v, _) => (p, v))
    .issued (launchUnless (q.isEmpty || sg.isEmpty) s i (.qgrad f)
      { nc := some (12 + ceilDiv q.total 512)
        handles := nameAll s [f.q, f.x, f.g] [sg.handle]
        entries := q.entries s ++ x.entries s ++ g.entries s ++ sg.entries s
        reads := q.runs ++ x.runs ++ g.runs ++ sg.runs, writes := sg.runs
        plan := { writes := w.1, words := w.2, quant := upd.foldl (fun fl u => fl.or u.2.2) {} }
        frames := if q.isEmpty then [] else framesFor s q (List.range q.nb) })

end Sys2Proof.Machine
end

