-- ==== Sys2Proof/Machine/Tree.lean ====
section
/-! DEFINITION. The fixed reduction tree (R149). -/
namespace Sys2Proof.Machine

/-- The flags of some roundings together. -/
def gatherFlags (l : List FRes) : Flags := l.foldl (fun fl x => fl.or x.fl) ({} : Flags)

/-- One level of the tree: neighbours meet, the lower rank on the left; a last value without a partner passes up. -/
def treeLevel (f : FFmt) : List Nat → List Nat × Flags
  | a :: b :: rest =>
    let r := f.roundOp ((f.decode a).add (f.decode b))
    let t := treeLevel f rest
    (r.code :: t.1, r.fl.or t.2)
  | l => (l, {})

/-- The levels of the tree, at most `fuel` of them. -/
def treeLevels (f : FFmt) : Nat → List Nat → Flags → List Nat × Flags
  | 0, l, fl => (l, fl)
  | n + 1, l, fl =>
    match l with
    | _ :: _ :: _ => let t := treeLevel f l; treeLevels f n t.1 (fl.or t.2)
    | _ => (l, fl)

/-- The tree sum of some encodings in the precision of `f`, in rank order, with the flags of its roundings (R149,
R151). -/
def treeSum (f : FFmt) (l : List Nat) : Nat × Flags :=
  let r := treeLevels f l.length l {}
  (r.1.headD 0, r.2)

end Sys2Proof.Machine
end

