-- ==== Sys2Proof/Machine/Vector.lean ====
section
/-! DEFINITION. The vector engine (R184 to R205): VBIN, VUN, VRED, the online-softmax family, VINT, dropout, the causal
mask and conversion. -/
namespace Sys2Proof.Machine

/-! ### Operands (R187 to R189) -/

/-- Whether D is read before it is written (R188). -/
def readsD (op : VOp) (fn : Nat) : Bool := op == .vbin && (fn == 6 || fn == 7 || fn == 10)

/-- The handles a vector command names: the softmax state is written as well as read (R197, log entry 16). -/
def vectorNames (s : State) (op : VOp) (f : Vec) : Named :=
  let n := nameAll s (f.a :: (if usesB op f.fn.toNat then [f.b] else [])) [f.d]
  if op = .smstep ∨ op = .smnorm then { n with wrote := n.wrote ++ [f.b] } else n

/-- Whether a format is one that the floating families take as A or B (R189). -/
def floatIn (f : EFmt) : Bool := f != .int32

/-- The coordinates at which an operand is read for D's coordinates: an extent of 1 broadcasts. -/
def bcast (o : Operand) (c : List Nat) : List Nat := c.zipIdx.map fun (i, j) => if o.ext j = 1 then 0 else i

/-- Order of R189 for extents: each is D's extent or 1. -/
def checkBcast (o d : Operand) (skip : Option Nat) : Except Reject Unit :=
  match dims6.find? fun j => some j ≠ skip ∧ o.ext j ≠ d.ext j ∧ o.ext j ≠ 1 with
  | some j => .error { code := 0x0104, dw0 := o.ext j, dw1 := d.ext j, handle := some o.handle }
  | none => .ok ()

/-- The operands of an accepted vector command. -/
structure VOps where
  d : Operand
  a : Operand
  b : Option Operand
  deriving DecidableEq, Repr

/-- The handles of a vector command resolved, in increasing bit position (R217). -/
def resolveVec (s : State) (op : VOp) (f : Vec) : Except Reject VOps := do
  let d ← resolve s f.d
  let a ← resolve s f.a
  let b ← resolveIf (usesB op f.fn.toNat) s f.b
  pure { d := d, a := a, b := b }

/-- Format rules of R189 and R197. -/
def checkVecFormat (op : VOp) (o : VOps) : Except Reject Unit :=
  let bad (x : Operand) : Reject := { code := 0x0205, handle := some x.handle }
  let bs := o.b.toList
  let float (x : Operand) : Except Reject Unit := check (floatIn x.fmt) (bad x)
  let dfloat : Except Reject Unit := check (o.d.fmt.float?.isSome) (bad o.d)
  checkAll ([checkFormat o.d, checkFormat o.a] ++ bs.map checkFormat ++
    match op with
    | .vint => [check (o.d.fmt == .int32) (bad o.d), check (o.a.fmt == .int32) (bad o.a)] ++
        bs.map fun b => check (b.fmt == .int32) (bad b)
    | .convert => []
    | .smstep => [check (o.d.fmt == .bf16 || o.d.fmt == .fp32) (bad o.d), float o.a] ++
        bs.map fun b => check (b.fmt == .fp32) (bad b)
    | .smnorm => [dfloat, check (o.a.fmt == .fp32) (bad o.a)] ++ bs.map fun b => check (b.fmt == .fp32) (bad b)
    | .smrecomp => [dfloat, float o.a] ++ bs.map fun b => check (b.fmt == .fp32) (bad b)
    | _ => [dfloat, float o.a] ++ bs.map float)

/-- Whether a tensor has the extents of a softmax state over the rows of another (R197), or of a row vector when that is
allowed (R200). -/
def stateExtents (b a : Operand) (rowVector : Bool) : Except Reject Unit :=
  checkExts ((if rowVector && b.ext 0 == 1 then [] else [(b.ext 0, 4)]) ++ (b.ext 1, a.ext 1) :: [2, 3, 4, 5].map fun j => (b.ext j, 1)) b.handle

/-- Extent rules of R189, R191, R197 and R200. -/
def checkVecExtent (op : VOp) (dim : Nat) (o : VOps) : Except Reject Unit :=
  let flat : Except Reject Unit :=
    match [2, 3, 4, 5].find? fun j => o.a.ext j != 1 with
    | some j => .error { code := 0x0104, dw0 := o.a.ext j, dw1 := 1, handle := some o.a.handle }
    | none => .ok ()
  let same : Except Reject Unit := sameExts o.a o.d o.a.handle
  checkAll ((match op with
    | .vred => [check (o.d.ext dim == 1) { code := 0x0104, dw0 := o.d.ext dim, dw1 := 1, handle := some o.d.handle },
        checkBcast o.a o.d (some dim)] ++ o.b.toList.map fun b => checkAll [checkBcast b o.d (some dim),
          check (b.ext dim == o.a.ext dim || b.ext dim == 1) { code := 0x0104, dw0 := b.ext dim, dw1 := o.a.ext dim, handle := some b.handle }]
    | .smstep => [flat, same] ++ o.b.toList.map fun b => stateExtents b o.a false
    | .smnorm => [flat, checkBcast o.a o.d none] ++ o.b.toList.map fun b => stateExtents b o.d false
    | .smrecomp => [flat, checkBcast o.a o.d none] ++ o.b.toList.map fun b => stateExtents b o.d true
    | _ => [checkBcast o.a o.d none] ++ o.b.toList.map fun b => checkBcast b o.d none) ++
    [checkSpan o.d true, checkSpan o.a false] ++ o.b.toList.map fun b => checkSpan b (op == .smstep || op == .smnorm))

/-- The checks of a vector command. The spec gives no table of their order: handles as R217 has them, then places, VRED's
handles, formats, extents and spans, banks. DESIGN CHOICE (log entry 54). -/
def checkVec (s : State) (i : IssueCtx) (op : VOp) (f : Vec) : Except Reject VOps := do
  let o ← resolveVec s op f
  checkAll (([o.a] ++ o.b.toList ++ [o.d]).map fun x => check (x.nearLoom s i.loom) { code := 0x0103, handle := some x.handle })
  check (op != .vred || (f.d != f.a && !(f.fn == 4 && f.d == f.b))) { code := 0x0103, handle := some f.d }
  checkVecFormat op o
  checkVecExtent op (f.x.toNat % 8) o
  checkBanks s ([o.d, o.a] ++ o.b.toList)
  pure o

/-! ### Element functions (R188, R190) -/

/-- An operand's value at D's coordinates, and whether its scale was replaced (R84). -/
def operandAt (s : State) (o : Operand) (c : List Nat) : FVal × Bool := elemValue s o (bcast o c)

/-- The sign bit of an operand's element (COPYSIGN). -/
def signAt (s : State) (o : Operand) (c : List Nat) : Bool :=
  let code := o.read s (bcast o c)
  match o.fmt.float? with
  | some f => code.testBit (f.width - 1)
  | none => toSigned o.fmt.bits code < 0

/-- VBIN (R188): the exact result and whether a NaN was made. -/
def vbinVal (fn : Nat) (a b d : FVal) (bneg : Bool) : FVal × Bool :=
  let one : FVal := .fin false 1 1
  match fn with
  | 0 => a.add b
  | 1 => a.sub b
  | 2 => a.mul b
  | 3 => a.div b
  | 4 => (a.min b, false)
  | 5 => (a.max b, false)
  | 6 => let p := a.mul b; let r := p.1.add d; (r.1, (p.2 && !d.isNan) || r.2)
  | 7 => let p := d.mul b; let r := p.1.add a; (r.1, (p.2 && !a.isNan) || r.2)
  | 8 => (if a.lt b then one else .zero, false)
  | 9 => (if a.eqv b then one else .zero, false)
  | 10 => (if FVal.zero.lt d then a else b, false)
  | _ => (if bneg then a.abs.neg else a.abs, false)

/-- VUN (R188): a function of one operand, rounded once to D's format. -/
def vunRound (ff : FFmt) (fn : Nat) (a : FVal) : FRes :=
  match fn with
  | 0 => ff.round .rne a.neg
  | 1 => ff.round .rne a.abs
  | 2 => ff.roundOp (a.mul a)
  | 3 => ff.round .rne a
  | 4 => sfnRound ff .sqrt a
  | 5 => sfnRound ff .rsqrt a
  | 6 => ff.roundOp ((FVal.fin false 1 1).div a)
  | 7 => sfnRound ff .exp2 a
  | 8 => sfnRound ff .log2 a
  | 9 => sfnRound ff .exp a
  | 10 => sfnRound ff .log a
  | 11 => sfnRound ff .tanh a
  | 12 => sfnRound ff .erf a
  | 13 => sfnRound ff .sigmoid a
  | 14 => sfnRound ff .geluTanh a
  | 15 => sfnRound ff .geluErf a
  | _ => sfnRound ff .silu a

/-- VINT (R188, R73): two signed operands. -/
def vintVal (fn : Nat) (a b : Nat) : Int :=
  let x := toSigned 32 a
  let y := toSigned 32 b
  match fn with
  | 0 => x + y
  | 1 => x - y
  | 2 => x * y
  | 3 => toSigned 32 (a &&& b)
  | 4 => toSigned 32 (a ||| b)
  | 5 => toSigned 32 (a ^^^ b)
  | 6 => x * 2 ^ (b % 32)
  | 7 => x / 2 ^ (b % 32)
  | 8 => min x y
  | _ => max x y

/-- An element's outcome: its code and its flags. -/
abbrev VElem := Nat × Flags

/-- The D format's floating format. -/
def dFloat (d : Operand) : FFmt := (d.fmt.float?).getD fp32

/-- One element of an element-wise command at D's coordinates. -/
def vecElem (s : State) (i : IssueCtx) (op : VOp) (f : Vec) (o : VOps) (e : Nat) (c : List Nat) : VElem :=
  let a := operandAt s o.a c
  let b := match o.b with | some b => operandAt s b c | none => (.nan, false)
  let inv : Flags := { inv := a.2 || b.2 }
  let ff := dFloat o.d
  match op with
  | .vbin =>
    let d := if readsD op f.fn.toNat then (o.d.fmt.value (o.d.read s c)) else .nan
    let bneg := match o.b with | some b => signAt s b c | none => false
    let r := ff.roundOp (vbinVal f.fn.toNat a.1 b.1 d bneg)
    (r.code, r.fl.or inv)
  | .vun => let r := vunRound ff f.fn.toNat a.1; (r.code, r.fl.or inv)
  | .vint =>
    let bc := match o.b with | some b => b.read s (bcast b c) | none => 0
    let r := satWrap 32 (f.x.toNat.testBit 0) (vintVal f.fn.toNat (o.a.read s (bcast o.a c)) bc)
    (ofSigned 32 r.1, { ovf := r.2 })
  | .dropout =>
    let u := randomU e (0x02000000 + s.fld (Reg.LOOM_VDROP_STREAM i.loom i.ctx)) (i.step s) (s.reg Reg.GCTL_JOB_SEED).toNat
    if s.fld (Reg.LOOM_VDROP_THRESH i.loom i.ctx) ≤ u then
      let r := ff.roundOp (a.1.mul (fp32.decode (s.fld (Reg.LOOM_VDSCALE_KEEP_SCALE i.loom i.ctx))))
      (r.code, r.fl.or inv)
    else (0, inv)
  | .causal =>
    let delta := toSigned 32 (i.ctr (f.x.toNat % 16))
    if (c.getD 1 0 : Int) + delta < (c.getD 0 0 : Int) then (ff.infCode + ff.signBit, inv)
    else let r := ff.round .rne a.1; (r.code, r.fl.or inv)
  | .convert =>
    match o.d.fmt with
    | .int32 =>
      let sat := f.x.toNat.testBit 0
      let r := roundInt 32 a.1
      let w := satWrap 32 sat r.1
      let code := match a.1, sat with | .inf n, false => Config.infinityToInt n % 2 ^ 32 | _, _ => ofSigned 32 w.1
      (code, (r.2.or { ovf := w.2 }).or inv)
    | g =>
      if g.isNarrow then
        let sc := scaleOf s o.d (o.d.blockOf c)
        let r := toNarrow g.limit none a.1 (bf16.decode sc.1)
        (ofSigned g.bits r.1, (r.2.or inv).or { inv := sc.2 })
      else let r := ff.round .rne a.1; (r.code, r.fl.or inv)
  | .smrecomp =>
    let st := match o.b with | some b => b.fmt.value (b.read s [if b.ext 0 = 4 then 3 else 0, c.getD 1 0, 0, 0, 0, 0]) | none => .nan
    if a.1.isNan || st.isNan then (ff.nanCode, { inv := true })
    else if st = .inf true then (0, inv)
    else
      let x := a.1.sub st
      let r := sfnRound ff .exp2 x.1
      (r.code, (r.fl.or { inv := x.2 }).or inv)
  | .smnorm =>
    let l := match o.b with | some b => b.read s [1, c.getD 1 0, 0, 0, 0, 0] | none => fp32.nanCode
    if l = 0 then (0, {})
    else let r := ff.roundOp (a.1.div (fp32.decode l)); (r.code, r.fl)
  | _ => (0, {})

/-! ### Reductions (R191, R192) -/

/-- The exact extreme of a line (MAX, MIN, MAXABS). -/
def lineExtreme (fn : Nat) : List FVal → FVal
  | [] => .nan
  | x :: rest => rest.foldl (fun m v => match fn with
      | 1 => m.max v
      | 2 => m.min v
      | _ => m.max v.abs) (if fn = 5 then x.abs else x)

/-- The coordinates at which a VRED reads an operand, in increasing order along the reduced dimension. -/
def redCoords (f : Vec) (o : VOps) (x : Operand) (c : List Nat) : List (List Nat) :=
  let dim := f.x.toNat % 8
  (List.range (o.a.ext dim)).map fun k => (bcast x c).set dim (if x.ext dim = 1 then 0 else k)

/-- One output of VRED, over the line of A at D's coordinates. -/
def redElem (s : State) (f : Vec) (o : VOps) (c : List Nat) : VElem :=
  let dim := f.x.toNat % 8
  let n := o.a.ext dim
  let ff := dFloat o.d
  let tf := if o.d.fmt = .f64 then fp64 else fp32
  let as := (redCoords f o o.a c).map (elemValue s o.a)
  let inv : Flags := { inv := as.any (·.2) }
  let fn := f.fn.toNat
  if fn = 1 ∨ fn = 2 ∨ fn = 5 then
    let r := ff.round .rne (lineExtreme fn (as.map (·.1)))
    (r.code, r.fl.or inv)
  else
    let bs : List (FVal × Bool) := match fn, o.b with | 4, some b => (redCoords f o b c).map (elemValue s b) | _, _ => []
    let leaves : List FRes := match fn with
      | 3 => as.map fun x => tf.roundOp (x.1.mul x.1)
      | 4 => (as.zip bs).map fun (x, y) => tf.roundOp (x.1.mul y.1)
      | _ => as.map fun x => tf.round .rne x.1
    let t := treeSum tf (leaves.map (·.code))
    let r := ff.round .rne (tf.decode t.1)
    (r.code, (((gatherFlags leaves).or t.2).or r.fl).or
      { inv := inv.inv || bs.any (·.2), long := 2 ^ 32 < n })

/-! ### SMSTEP (R198) -/

/-- One row of SMSTEP: its probabilities, the new m, l and α, and its flags. -/
structure SmRow where
  p : List Nat
  m : Nat
  l : Nat
  alpha : Nat
  fl : Flags
  deriving DecidableEq, Repr

/-- SMSTEP on the scores of a row, from its state's m and l. -/
def smstepRow (ff : FFmt) (sc : List FVal) (m l : Nat) : SmRow :=
  if sc.any FVal.isNan then
    { p := sc.map fun _ => ff.nanCode, m := fp32.nanCode, l := fp32.nanCode, alpha := fp32.nanCode, fl := { inv := true } }
  else
    let mv := fp32.decode m
    let bm := match sc with | [] => FVal.inf true | x :: rest => rest.foldl FVal.max x
    let mn := mv.max bm
    if mn = .inf true then
      { p := sc.map fun _ => 0, m := fp32.infCode + fp32.signBit, l := l, alpha := 0x3F800000, fl := {} }
    else
      let ex (g : FFmt) (x : FVal) : FRes :=
        let d := x.sub mn
        let r := sfnRound g .exp2 d.1
        { r with fl := r.fl.or { inv := d.2 } }
      let ps := sc.map (ex ff)
      let al := ex fp32 mv
      let rs := treeSum fp32 (ps.map fun r => (fp32.round .rne (ff.decode r.code)).code)
      let pr := (fp32.decode l).mul (fp32.decode al.code)
      let su := pr.1.add (fp32.decode rs.1)
      let ln := fp32.round .rne su.1
      let mr := fp32.round .rne mn
      { p := ps.map (·.code), m := mr.code, l := ln.code, alpha := al.code
        fl := (((((gatherFlags ps).or al.fl).or rs.2).or ln.fl).or mr.fl).or
          { inv := pr.2 || su.2, long := 2 ^ 32 < sc.length } }

/-- The writes that put a code into an entry of a softmax state. -/
def stateWrite (b : Operand) (k row code : Nat) : List BWrite := b.put (b.elemOff [k, row, 0, 0, 0, 0]) code

/-- SMSTEP as a plan. -/
def smstepPlan (s : State) (o : VOps) (b : Operand) : Plan :=
  let whole (i : Nat) : Bool := (List.range (o.a.ext 0)).all fun j => usable s o.a (o.a.blockOf [j, i, 0, 0, 0, 0])
  let rows := ((List.range (o.a.ext 1)).filter whole).map fun i =>
    let sc := (List.range (o.a.ext 0)).map fun j => elemValue s o.a [j, i, 0, 0, 0, 0]
    let r := smstepRow (dFloat o.d) (sc.map (·.1)) (b.read s [0, i, 0, 0, 0, 0]) (b.read s [1, i, 0, 0, 0, 0])
    (i, r, sc.any (·.2))
  let codes := rows.flatMap fun (i, r, _) => r.p.zipIdx.map fun (v, j) => (indexOf o.d.exts [j, i, 0, 0, 0, 0], v)
  let w := elemPlan o.d codes
  { writes := w.1 ++ rows.flatMap fun (i, r, _) => stateWrite b 0 i r.m ++ stateWrite b 1 i r.l ++ stateWrite b 2 i r.alpha
    words := w.2, elems := o.d.total
    own := rows.foldl (fun fl x => (fl.or x.2.1.fl).or { inv := x.2.2 }) {} }

/-- The log-sum-exp entries that SMNORM writes into its state (R199), with their flags. -/
def smnormState (s : State) (b : Operand) : List BWrite × Flags :=
  (List.range (b.ext 1)).foldl (fun acc i =>
    let l := b.read s [1, i, 0, 0, 0, 0]
    let r : FRes := if l = 0 then { code := fp32.infCode + fp32.signBit }
      else lseRound fp32 (b.fmt.value (b.read s [0, i, 0, 0, 0, 0])) (fp32.decode l)
    (acc.1 ++ stateWrite b 3 i r.code, acc.2.or r.fl)) ([], {})

/-! ### The whole command -/

/-- Whether no result element at D's coordinates needs an invalid entry under INV_FAULT (R85). -/
def vecUsable (s : State) (op : VOp) (f : Vec) (o : VOps) (c : List Nat) : Bool :=
  if op = .vred then
    ((redCoords f o o.a c).all fun x => usable s o.a (o.a.blockOf x)) &&
      o.b.toList.all fun b => (redCoords f o b c).all fun x => usable s b (b.blockOf x)
  else
    usable s o.a (o.a.blockOf (bcast o.a c)) && (o.b.toList.all fun b => usable s b (b.blockOf (bcast b c))) &&
      (op != .convert || usable s o.d (o.d.blockOf c))

/-- What a vector command computes (R185). -/
def vectorPlan (s : State) (i : IssueCtx) (op : VOp) (f : Vec) (o : VOps) : Plan :=
  if o.d.isEmpty || o.a.isEmpty then {}
  else
    match op, o.b with
    | .smstep, some b => smstepPlan s o b
    | _, _ =>
      let es := ((List.range o.d.total).filter fun e => vecUsable s op f o (coordsOf o.d.exts e)).map fun e =>
        let c := coordsOf o.d.exts e
        (e, if op = .vred then redElem s f o c else vecElem s i op f o e c)
      let w := elemPlan o.d (es.map fun (e, v) => (e, v.1))
      let st := match op, o.b with | .smnorm, some b => smnormState s b | _, _ => ([], {})
      { writes := w.1 ++ st.1, words := w.2, elems := o.d.total, own := es.foldl (fun fl x => fl.or x.2.2) st.2 }

/-- The frames that a vector command reads, with what each raises: those of narrow operands, then those of a VCVT
destination (R189, R193). -/
def vectorFrames (s : State) (op : VOp) (o : VOps) : List (Option LateFault) :=
  if o.d.isEmpty || o.a.isEmpty then []
  else ([o.a] ++ o.b.toList ++ (if op = .convert then [o.d] else [])).flatMap fun x =>
    if x.scaled then framesFor s x (List.range x.nb) else []

/-- The completion bound of a vector command (R204). -/
def vectorCycles (op : VOp) (fn dim : Nat) (o : VOps) : Nat :=
  let n := if op = .vred then o.a.total else o.d.total
  let half := o.d.fmt == .bf16 && o.a.fmt == .bf16 && o.b.toList.all (·.fmt == .bf16)
  let wide := if half then 512 else 256
  let lg (k : Nat) : Nat := if k ≤ 1 then 0 else Nat.log2 (k - 1) + 1
  let rx : Nat × Nat := match op with
    | .vbin => (if fn = 3 then 64 else wide, 0)
    | .vun => (if 4 ≤ fn then 64 else wide, 0)
    | .vred => (256, 2 * lg (o.a.ext dim))
    | .smstep => (64, 2 * lg (o.a.ext 0) + 8)
    | .smnorm | .smrecomp => (64, 4)
    | _ => (wide, 0)
  20 + ceilDiv n rx.1 + rx.2

/-- A vector command at issue. -/
def issueVector (i : IssueCtx) (op : VOp) (f : Vec) (s : State) : IssueRes :=
  match checkVec s i op f with
  | .error r => .rejected r
  | .ok o =>
    .issued (launchUnless (o.d.isEmpty || o.a.isEmpty || o.b.toList.any Operand.isEmpty) s i (.vec op f)
      { nc := some (vectorCycles op f.fn.toNat (f.x.toNat % 8) o)
        handles := vectorNames s op f
        entries := o.d.entries s ++ o.a.entries s ++ o.b.toList.flatMap (·.entries s)
        reads := o.a.runs ++ o.b.toList.flatMap Operand.runs ++ (if readsD op f.fn.toNat then o.d.dataRuns else []) ++
          (if op = .convert then bufRuns o.d.m0 0 o.d.mspan else [])
        writes := o.d.dataRuns ++ (if op = .smstep ∨ op = .smnorm then o.b.toList.flatMap Operand.dataRuns else [])
        plan := vectorPlan s i op f o
        frames := vectorFrames s op o })

end Sys2Proof.Machine
end

