-- ==== Sys2Proof/Machine/Mover.lean ====
section
/-! DEFINITION. The mover's local commands: MOVE, FILL, COPY and XPOSE (R273 to R281). -/
namespace Sys2Proof.Machine

/-- A bobbin window of no logical loom among the judged bytes of an operand (R31, R273 order 4): its index. -/
def absentWindow (s : State) (o : Operand) : Option Nat :=
  o.ranges.findSome? fun r =>
    if r.1 < bobbinEnd ∧ bobbinBase + 0x400000 * s.nLooms ≤ r.2 then some (max (bobbinLoom r.1) s.nLooms) else none

/-- Order 4 of R273. -/
def checkAbsent (s : State) (o : Operand) : Except Reject Unit :=
  match absentWindow s o with
  | some w => .error { code := 0x0102, dw0 := w, handle := some o.handle }
  | none => .ok ()

/-- Two operands resolved, DST before SRC (R214, R217), each with its mordant handle when `mord`. -/
def resolvePair (s : State) (mord : Bool) (dst src : Handle) : Except Reject (Operand × Operand) := do
  let r := if mord then resolve s else resolvePlain s
  let d ← r dst
  let a ← r src
  pure (d, a)

/-- The run of elements of a tensor that lie one after another in logical order, from dimension 0 (DESIGN CHOICE, log entry 9: R280
does not say in which order a run counts). -/
def denseRun (o : Operand) : Nat :=
  let rec go : Nat → Nat → Nat → Nat
    | 0, _, run => run
    | n + 1, j, run => if o.ext j = 1 ∨ o.stride j = run then go n (j + 1) (run * o.ext j) else run
  go 6 0 1

/-- Data traffic of an operand in bytes, each contiguous run as at least 64 (R280). -/
def traffic (o : Operand) : Nat :=
  let run := denseRun o
  if run = 0 then 0 else (o.total / run) * max 64 (ceilDiv (run * o.fmt.bits) 8)

/-- The rate of a mover command for the slowest tier it touches (R280). -/
def moverRate (os : List Operand) (bobbin beam hbm : Nat) : Nat :=
  let ts := os.flatMap fun o => o.ranges.map fun r => tierOf r.1
  if ts.contains .hbm then hbm else if ts.contains .beam then beam else bobbin

/-- The completion bound of a mover command (R280). -/
def moverCycles (os : List Operand) (frames bobbin beam hbm : Nat) : Nat :=
  32 + ceilDiv (os.foldl (fun n o => max n (traffic o)) 0 + 64 * frames) (moverRate os bobbin beam hbm)

/-- Where the element at an offset lies: twice its device address, one more for a high nibble. -/
def Operand.nibble (o : Operand) (off : Nat) : Nat :=
  2 * entryAddr o.w0 (off * o.fmt.bits / 8) + (if o.fmt = .int4 then off % 2 else 0)

/-- Whether a tensor writes at a nibble place: with an element there, or with its mordant stream. An INT4 element writes its own half
of a byte only (R68). -/
def Operand.writesAt (d : Operand) (place : Nat) : Bool :=
  inRuns d.runs (place / 2) && (d.fmt != .int4 || inRuns (bufRuns d.m0 0 d.mspan) (place / 2) ||
    (List.range d.total).any fun e => d.nibble (d.elemOff (coordsOf d.exts e)) == place)

/-- Whether the source element of a destination element may have been overwritten before it is read, since no order of the
rows is stated (R281): DST writes where it lies, and its own destination lies elsewhere. -/
def overwritten (a d : Operand) (aOff dOff : Nat) : Bool := a.nibble aOff != d.nibble dOff && d.writesAt (a.nibble aOff)

/-- Whether a frame of SRC may have been overwritten before it is read, in the same way. -/
def frameOverwritten (a d : Operand) (af df : Nat) : Bool :=
  entryAddr a.m0 (64 * af) != entryAddr d.m0 (64 * df) && (List.range 64).any fun k => inRuns d.runs (entryAddr a.m0 (64 * af + k))

/-- A code, or where it is open a free value of the place it is written to (log entry 1). -/
def openCode (isOpen : Bool) (place bits code : Nat) : Nat :=
  if isOpen then Config.lostCode (place / 2) (place % 2) % 2 ^ bits else code

/-- The place of the entry of a block. -/
def Operand.entryPlace (o : Operand) (b : Nat) : Nat := 2 * entryAddr o.m0 (64 * (b / 30) + 4 + 2 * (b % 30))

/-- The frames of a tensor checked under R91 alone. -/
def skewFrames (s : State) (o : Operand) : List (Option LateFault) :=
  if o.scaled then (List.range o.frames).map fun f => frameFault s o f [] else []

/-- Entry `b` of a mordant stream as memory holds it. -/
def rawEntry (s : State) (o : Operand) (b : Nat) : Nat := (readFrame s o (b / 30)).2.getD (b % 30) 0

/-- A whole mordant stream written, with its digest words (R90, R367). -/
def streamPlan (d : Operand) (entry : Nat → Nat) : List BWrite × List (Nat × Nat × Nat) :=
  if d.scaled then
    ((List.range d.frames).flatMap fun f => frameWrites d f entry,
     (List.range d.frames).flatMap fun f => (frameWords d f entry).zipIdx.map fun (w, i) => (1, 8 * f + i, w))
  else ([], [])

/-- The launch that mover commands share. -/
def moverLaunch (s : State) (i : IssueCtx) (c : SlotCmd) (n : Named) (d : Operand) (srcs : List Operand) (cycles : Nat)
    (p : Plan) (frames : List (Option LateFault)) : IssueRes :=
  let l : Launch :=
    { nc := some cycles, handles := n
      entries := (d :: srcs).flatMap (·.entries s), reads := srcs.flatMap Operand.runs, writes := d.runs
      plan := p, frames := frames }
  if d.isEmpty then .issued (launchNow s i c { l with plan := {}, frames := [] })
  else .issued (s.launch i c l)

/-- The handles of a mover command: DST's mordant handle is poisoned with it (R281). -/
def moverNames (s : State) (srcs : List Handle) (dst : Handle) : Named :=
  let n := nameAll s srcs [dst]
  { n with dsts := n.wrote }
/-- Those of a MOVE or XPOSE. -/
def moveNames (s : State) (dst src : Handle) : Named := moverNames s [src] dst

/-! ### FILL (R275) -/

/-- The code that FILL writes (R214). -/
def fillCode (f : EFmt) (v : W32) : Nat :=
  match f with
  | .f64 => (fp64.round .rne (fp32.decode v.toNat)).code
  | f => v.toNat % 2 ^ f.bits

/-- The checks of a FILL (R273). -/
def checkFill (s : State) (dst : Handle) : Except Reject Operand := do
  let d ← resolvePlain s dst
  checkAbsent s d
  checkFormat d
  check d.dense { code := 0x0205, handle := some dst }
  checkSpan d true
  checkBanks s [d]
  pure d

/-- FILL at issue. -/
def issueFill (i : IssueCtx) (dst : Handle) (v : W32) (s : State) : IssueRes :=
  match checkFill s dst with
  | .error r => .rejected r
  | .ok d =>
    let code := fillCode d.fmt v
    let w := elemPlan d ((List.range d.total).map fun e => (e, code))
    moverLaunch s i (.fill dst v) (moverNames s [] dst) d [] (moverCycles [d] 0 1024 512 128) { writes := w.1, words := w.2 } []

/-! ### COPY (R276) -/

/-- Order 5 of R276: both in HBM, in one bobbin, or in the beam of one compute die. -/
def copyPlace (a d : Operand) : Bool :=
  let rs := a.ranges ++ d.ranges
  match rs with
  | [] => true
  | r :: _ => rs.all inHbmRange || rs.all (inBobbin (bobbinLoom r.1)) || rs.all (inBeam (bankOf r.1 / 96))

/-- The checks of a COPY (R273). -/
def checkCopy (s : State) (dst src : Handle) : Except Reject (Operand × Operand) := do
  let (d, a) ← resolvePair s false dst src
  checkAbsent s d
  checkAbsent s a
  check (copyPlace a d) { code := 0x0103, handle := some dst }
  checkFormat d
  checkFormat a
  check (a.fmt == d.fmt && a.dense && d.dense) { code := 0x0205, handle := some dst }
  checkSpan d true
  checkSpan a false
  sameExts d a dst
  checkBanks s [d, a]
  pure (d, a)

/-- A byte-by-byte copy in the order that R276 gives, on a scratch copy of memory. -/
def copyScratch (s : State) (a d : Operand) : State :=
  let n := d.span
  let idx := if entryAddr a.w0 0 < entryAddr d.w0 0 then List.range n else (List.range n).reverse
  idx.foldl (fun st k =>
    let v := st.byte (entryAddr a.w0 k)
    let old := st.byte (entryAddr d.w0 k)
    let half := d.fmt == .int4 && d.total % 2 == 1 && k + 1 == n
    st.poke (entryAddr d.w0 k) (if half then (old &&& 0xF0) ||| (v &&& 0x0F) else v)) s

/-- COPY at issue. -/
def issueCopy (i : IssueCtx) (dst src : Handle) (s : State) : IssueRes :=
  match checkCopy s dst src with
  | .error r => .rejected r
  | .ok (d, a) =>
    let st := copyScratch s a d
    let w := elemPlan d ((List.range d.total).map fun e => (e, readElem st d e))
    moverLaunch s i (.copy dst src) (moveNames s dst src) d [a] (moverCycles [d, a] 0 512 256 64)
      { writes := w.1, words := w.2 } []

/-! ### MOVE (R274) -/

/-- The checks that MOVE and XPOSE share: orders 3 to 8 of R273 with DST's dimension `j` holding SRC's `perm j`. -/
def checkMove (s : State) (dst src : Handle) (perm : Nat → Nat) (rb : Bool) : Except Reject (Operand × Operand) := do
  let (d, a) ← resolvePair s true dst src
  checkAbsent s d
  checkAbsent s a
  checkFormat d
  checkFormat a
  check (a.fmt == d.fmt && (!rb || a.scaled)) { code := 0x0205, handle := some dst }
  check (rb || !a.scaled || (dBsize d.words == dBsize a.words && dBdir d.words == perm (dBdir a.words)))
    { code := 0x0204, handle := some dst }
  checkSpan d true
  checkSpan a false
  match dims6.find? fun j => d.ext j ≠ a.ext (perm j) with
  | some j => .error { code := 0x0104, dw0 := d.ext j, dw1 := a.ext (perm j), handle := some dst }
  | none => .ok ()
  checkBanks s [d, a]
  pure (d, a)

/-- Coordinates with dimensions exchanged. -/
def permute (perm : Nat → Nat) (c : List Nat) : List Nat := dims6.map fun j => c.getD (perm j) 0

/-- MOVE, and XPOSE without reblock, as a plan: codes and entries moved bit for bit (R274, R277). -/
def movePlan (s : State) (d a : Operand) (perm : Nat → Nat) : Plan :=
  let w := elemPlan d ((List.range d.total).map fun e =>
    let dc := coordsOf d.exts e
    let ac := permute perm dc
    (e, openCode (overwritten a d (a.elemOff ac) (d.elemOff dc)) (d.nibble (d.elemOff dc)) d.fmt.bits (a.read s ac)))
  let m := streamPlan d fun b =>
    let ab := indexOf (dims6.map a.blocksAlong) (permute perm (coordsOf (dims6.map d.blocksAlong) b))
    openCode (frameOverwritten a d (ab / 30) (b / 30)) (d.entryPlace b) 16 (rawEntry s a ab)
  { writes := w.1 ++ m.1, words := w.2 ++ m.2 }

/-- MOVE at issue. -/
def issueMove (i : IssueCtx) (dst src : Handle) (s : State) : IssueRes :=
  match checkMove s dst src id false with
  | .error r => .rejected r
  | .ok (d, a) =>
    let nf := if d.scaled then d.frames + a.frames else 0
    moverLaunch s i (.move dst src) (moveNames s dst src) d [a] (moverCycles [d, a] nf 512 256 128) (movePlan s d a id)
      (skewFrames s a)

/-! ### XPOSE (R277 to R279) -/

/-- Dimensions `da` and `db` exchanged. -/
def swapDims (da db j : Nat) : Nat := if j = da then db else if j = db then da else j

/-- The scale that reblocking gives a DST block from its largest magnitude: its code, whether it saturated, and whether it
is degenerate (R278). -/
def reblockScale (d : Operand) (m : FVal) : Nat × Bool × Bool :=
  if m.isZero then (dFloor d.words, false, true)
  else
    let r := bf16.round .up (m.div (FVal.ofInt d.fmt.limit)).1
    let c := if r.code = bf16.infCode then 0x7F7F else r.code
    ((if (bf16.decode c).lt (bf16.decode (dFloor d.words)) then dFloor d.words else c), r.code = bf16.infCode, false)

/-- The elements of DST block `b`, by logical index. -/
def blockElems (d : Operand) (b : Nat) : List Nat :=
  let bc := coordsOf (dims6.map d.blocksAlong) b
  let bd := dBdir d.words
  (List.range d.B).filterMap fun k =>
    let x := bc.getD bd 0 * d.B + k
    if x < d.ext bd then some (indexOf d.exts (bc.set bd x)) else none

/-- What reblocking one DST block gives: its scale, its elements' codes, and what it gathers. -/
structure Reblocked where
  scale : Nat
  codes : List (Nat × Nat)
  fl : Flags
  vanish : Nat
  clip : Nat
  degen : Bool
  deriving DecidableEq, Repr

/-- Reblocking one DST block (R278). -/
def reblock (s : State) (d a : Operand) (perm : Nat → Nat) (stream step seed b : Nat) : Reblocked :=
  let vs := (blockElems d b).map fun e => (e, elemValue s a (permute perm (coordsOf d.exts e)))
  let m := vs.foldl (fun m v => if m.lt v.2.1.abs then v.2.1.abs else m) FVal.zero
  let sc := reblockScale d m
  let qs : List (Nat × FVal × Int × Flags) := vs.map fun (e, v) => (e, v.1, toNarrow d.fmt.limit (some (randomU e stream step seed)) v.1 (bf16.decode sc.1))
  { scale := sc.1
    codes := qs.map fun (e, _, r) => (e, ofSigned d.fmt.bits r.1)
    fl := qs.foldl (fun fl x => fl.or x.2.2.2) { ovf := sc.2.1, inv := vs.any (·.2.2) }
    vanish := (qs.filter fun x => !x.2.1.isZero && x.2.2.1 == 0).length
    clip := (qs.filter fun x => x.2.2.2.ovf).length
    degen := sc.2.2 }

/-- XPOSE with reblock as a plan. A DST block that needs an invalid entry under INV_FAULT is not formed (R85), and the stream, whole
under R90, then neither. -/
def reblockPlan (s : State) (i : IssueCtx) (f : XPose) (d a : Operand) : Plan :=
  let perm := swapDims f.da.toNat f.db.toNat
  let stream := 0x03000000 + f.sid.toNat * 2 ^ 16 + f.dst.toNat
  let whole (b : Nat) : Bool := (blockElems d b).all fun e => usable s a (a.blockOf (permute perm (coordsOf d.exts e)))
  let bs := (List.range d.nb).map (reblock s d a perm stream (i.step s) (s.reg Reg.GCTL_JOB_SEED).toNat)
  let lost (b : Nat) : Bool := (blockElems d b).any fun e =>
    let dc := coordsOf d.exts e
    let ac := permute perm dc
    overwritten a d (a.elemOff ac) (d.elemOff dc) || frameOverwritten a d (a.blockOf ac / 30) (b / 30)
  let done := bs.zipIdx.filter fun r => whole r.2
  let w := elemPlan d (done.flatMap fun (r, b) => r.codes.map fun (e, v) => (e, openCode (lost b) (d.nibble (d.elemOff (coordsOf d.exts e))) d.fmt.bits v))
  let m := if done.length = bs.length then
      streamPlan d fun b => match bs[b]? with | some r => openCode (lost b) (d.entryPlace b) 16 r.scale | none => 0
    else ([], [])
  { writes := w.1 ++ m.1, words := w.2 ++ m.2
    quant := done.foldl (fun fl b => fl.or b.1.fl) {}
    mv := some (d.nb, bs.foldl (fun n b => n + b.vanish) 0, (bs.filter (·.degen)).length, bs.foldl (fun n b => n + b.clip) 0,
      ((List.range a.nb).filter fun b => (scaleOf s a b).2).length) }

/-- XPOSE at issue. -/
def issueXpose (i : IssueCtx) (f : XPose) (s : State) : IssueRes :=
  let perm := swapDims f.da.toNat f.db.toNat
  match checkMove s f.dst f.src perm f.rb with
  | .error r => .rejected r
  | .ok (d, a) =>
    let nf := if d.scaled then d.frames + a.frames else 0
    let p := if f.rb then reblockPlan s i f d a else movePlan s d a perm
    moverLaunch s i (.xpose f) (moveNames s f.dst f.src) d [a]
      (if f.rb then moverCycles [d, a] nf 256 256 128 else moverCycles [d, a] nf 512 256 128) p
      (if f.rb then framesFor s a (List.range a.nb) else skewFrames s a)

end Sys2Proof.Machine
end

