-- ==== Sys2Proof/Machine/Fulling.lean ====
section
/-! DEFINITION. The fulling engine (R285 to R308): programs, the layer record, the two passes, and the tally. -/
namespace Sys2Proof.Machine

/-! ### Instruction words (R292, R293) -/

/-- OP of an instruction word. -/
def fOp (w : W32) : Nat := bitsOf w.toNat 4 0
/-- SCOPE: 0 ELEM, 1 ROW, 2 COL, 3 ONCE. -/
def fScope (w : W32) : Nat := bitsOf w.toNat 6 5
/-- P1. -/
def fP1 (w : W32) : Bool := bitAt w.toNat 7
/-- P2. -/
def fP2 (w : W32) : Bool := bitAt w.toNat 8
/-- FD. -/
def fFd (w : W32) : Nat := bitsOf w.toNat 15 12
/-- FA. -/
def fFa (w : W32) : Nat := bitsOf w.toNat 19 16
/-- FB. -/
def fFb (w : W32) : Nat := bitsOf w.toNat 23 20
/-- FC. -/
def fFc (w : W32) : Nat := bitsOf w.toNat 27 24
/-- N. -/
def fN (w : W32) : Nat := bitsOf w.toNat 31 28

/-- Which of FD, FA, FB, FC and N an opcode uses (R293). -/
def fUses (op : Nat) : Bool × Bool × Bool × Bool × Bool :=
  match op with
  | 0x01 | 0x02 | 0x03 | 0x08 | 0x09 => (true, true, true, false, false)
  | 0x04 | 0x0A | 0x0B => (true, true, true, true, false)
  | 0x05 | 0x06 | 0x07 | 0x0C | 0x0D | 0x0E | 0x0F => (true, true, false, false, false)
  | 0x10 | 0x11 | 0x12 => (true, false, false, false, true)
  | 0x13 => (true, true, false, false, true)
  | 0x14 | 0x15 => (false, true, false, false, true)
  | 0x16 | 0x17 => (false, true, false, false, false)
  | _ => (false, false, false, false, false)

/-- Whether an instruction takes a binding: LD, DEQ, ST or QST. -/
def fBinds (w : W32) : Bool := [0x10, 0x13, 0x14, 0x15].contains (fOp w)
/-- Whether an instruction stores to a binding. -/
def fStores (w : W32) : Bool := fOp w == 0x14 || fOp w == 0x15

/-- Rules 1, 3 and 6 of R294 and the part of rule 4 that one word breaks. -/
def fWordRule (w : W32) : Option Nat :=
  let u := fUses (fOp w)
  if fOp w = 0 ∨ 0x18 ≤ fOp w ∨ bitsOf w.toNat 11 9 ≠ 0 ∨ (!u.1 && fFd w != 0) ∨ (!u.2.1 && fFa w != 0) ∨ (!u.2.2.1 && fFb w != 0)
      ∨ (!u.2.2.2.1 && fFc w != 0) ∨ (!u.2.2.2.2 && fN w != 0) then some 1
  else if (!fP1 w && !fP2 w) ∨ (fP1 w && (fScope w != 0 || [0x14, 0x15, 0x12, 0x0F].contains (fOp w)))
      ∨ (fP2 w && [0x16, 0x17].contains (fOp w)) then some 3
  else if fOp w = 0x12 ∧ 2 < fN w then some 4
  else if fBinds w ∧ 7 < fN w then some 6
  else none

/-- Rules 4 and 5 of R294 for a word among the words before it and in the whole program. -/
def fProgRule (ws before : List W32) (w : W32) : Option Nat :=
  let has (op : Nat) : Bool := ws.any fun x => fOp x == op
  if ([0x16, 0x17].contains (fOp w) && before.any fun x => fOp x == fOp w) then some 4
  else if fOp w = 0x12 ∧ ((fN w = 0 ∧ !has 0x16) ∨ (fN w = 1 ∧ !has 0x17) ∨ (fN w = 2 ∧ !has 0x16 ∧ !has 0x17)) then some 4
  else if fStores w ∧ (fN w = 1 ∨ before.any fun x => fStores x && fN x == fN w) then some 5
  else none

/-- The first rule of R294 that a program breaks, with the instruction. The rules are tested word by word, for each word 1, 3, LDS with
N above 2 (4), 6, then 4 and 5 against the whole program (DESIGN CHOICE, log entry 57: of several the spec names none first). -/
def fCheck (len : Nat) (ws : List W32) : Option (Nat × Nat) :=
  if len = 0 ∨ 32 < len then some (2, 0)
  else ws.zipIdx.findSome? fun (w, i) =>
    match fWordRule w with
    | some r => some (r, i)
    | none => (fProgRule ws (ws.take i) w).map fun r => (r, i)

/-! ### The layer record (R288, R289) -/

/-- A layer record as read at issue. -/
structure LayerRec where
  step : Nat
  nrows : Nat
  ncols : Nat
  fast : Nat
  shard : Nat
  resv : Bool
  sid : Nat
  tmask : Nat
  stats : Handle
  binds : List Handle
  ks : List Nat
  deriving DecidableEq, Repr

/-- The record at a device address (of buffer offset 0 of S). -/
def readLayer (s : State) (o : Operand) : LayerRec :=
  let ld (k n : Nat) : Nat := leValue ((List.range n).map fun j => s.operandByte (entryAddr o.w0 (k + j)))
  let b24 := ld 24 1
  { step := ld 0 8, nrows := ld 8 8, ncols := ld 16 8, fast := b24 % 2, shard := b24 / 2 % 4
    resv := b24 / 8 != 0 || ld 27 1 != 0 || ld 30 2 != 0 || b24 / 2 % 4 == 3
    sid := ld 25 1, tmask := ld 26 1 ||| 1, stats := BitVec.ofNat 16 (ld 28 2)
    binds := (List.range 6).map fun k => BitVec.ofNat 16 (ld (32 + 2 * k) 2)
    ks := (List.range 16).map fun k => ld (64 + 4 * k) 4 }

/-- The update index of R299. -/
def LayerRec.t (r : LayerRec) : Nat := r.step + 1

/-- The bindings that a program names. -/
def fNamed (ws : List W32) : List Nat := (List.range 8).filter fun b => ws.any fun w => fBinds w && fN w == b
/-- Whether PASS includes pass one. -/
def passOne (p : Nat) : Bool := p == 0 || p == 2
/-- Whether PASS includes pass two. -/
def passTwo (p : Nat) : Bool := p == 1 || p == 2

/-- Whether an instruction runs in a pass (R290). -/
def fRuns (two : Bool) (w : W32) : Bool := if two then fP2 w else fP1 w
/-- Whether LD or DEQ reads a binding in a pass. -/
def fReads (ws : List W32) (two : Bool) (b : Nat) : Bool :=
  ws.any fun w => fRuns two w && (fOp w == 0x10 || fOp w == 0x13) && fN w == b
/-- Whether ST or QST stores a binding in a pass. -/
def fWrites (ws : List W32) (two : Bool) (b : Nat) : Bool := ws.any fun w => fRuns two w && fStores w && fN w == b
/-- Whether LD or DEQ reads a binding in a pass that PASS includes. -/
def fReadsIn (ws : List W32) (pass b : Nat) : Bool := (passOne pass && fReads ws false b) || (passTwo pass && fReads ws true b)

/-- The bindings that a pass two stores. -/
def fStored (ws : List W32) : List Nat := (List.range 8).filter (fWrites ws true)

/-- The handle of a binding. -/
def bindHandle (f : FullF) (r : LayerRec) (b : Nat) : Handle :=
  if b = 0 then f.p else if b = 1 then f.g else r.binds.getD (b - 2) 0

/-- The operands of an accepted FULL. -/
structure FullOps where
  s : Operand
  layer : LayerRec
  stats : Operand
  /-- P and every named binding, by number. -/
  binds : List (Nat × Operand)
  ws : List W32
  deriving DecidableEq, Repr

/-- The operand of binding `b`. -/
def FullOps.bind (o : FullOps) (b : Nat) : Option Operand := (o.binds.find? (·.1 == b)).map (·.2)
/-- P. -/
def FullOps.p (o : FullOps) : Operand := (o.bind 0).getD o.s
/-- E_c, columns of P. -/
def FullOps.ec (o : FullOps) : Nat := o.p.ext o.layer.fast
/-- E_r, rows of P. -/
def FullOps.er (o : FullOps) : Nat := o.p.ext (1 - o.layer.fast)

/-! ### Checks (R305) -/

/-- A list of handles resolved in order, each with its number. -/
def resolveBinds (s : State) : List (Nat × Handle) → Except Reject (List (Nat × Operand))
  | [] => .ok []
  | (b, h) :: rest => match resolve s h with
    | .error r => .error r
    | .ok o => match resolveBinds s rest with
      | .error r => .error r
      | .ok l => .ok ((b, o) :: l)

/-- Orders 3 and 4 of R305. -/
def resolveFull (s : State) (f : FullF) : Except Reject FullOps := do
  let ws := (smGet (fun _ => none) s.fprogs f.prog.toNat).getD []
  check (!ws.isEmpty) { code := 0x0103 }
  let so ← resolve s f.s
  let r := readLayer s so
  check (f.pass != 2 || r.shard == 0) { code := 0x0103 }
  let nm := fNamed ws
  let pg ← resolveBinds s ((0, f.p) :: (if nm.contains 1 then [(1, f.g)] else []))
  let st ← resolve s r.stats
  let bs ← resolveBinds s ((nm.filter (2 ≤ ·)).map fun b => (b, bindHandle f r b))
  pure { s := so, layer := r, stats := st, binds := pg ++ bs, ws := ws }

/-- Order 6 of R305 for one instruction. Of an instruction that fails BDIR and a later one that fails a format the earlier decides (DESIGN
CHOICE, log entry 57: the row gives no order of its two faults). -/
def fFormat (o : FullOps) (w : W32) : Except Reject Unit :=
  match o.bind (fN w) with
  | none => .ok ()
  | some x =>
    let bad : Reject := { code := 0x0205, handle := some x.handle }
    match fOp w with
    | 0x10 => check (x.fmt != .int32) bad
    | 0x13 => check x.scaled bad
    | 0x14 => check x.fmt.float?.isSome bad
    | 0x15 => checkAll [check x.scaled bad, check (dBdir x.words == o.layer.fast) { code := 0x0204, handle := some x.handle }]
    | _ => .ok ()

/-- Order 7 of R305 for one instruction: the shape that its scope asks for (R291). -/
def fShape (o : FullOps) (w : W32) : Except Reject Unit :=
  match fBinds w, o.bind (fN w) with
  | true, some x =>
    let fd := o.layer.fast
    let rd := 1 - fd
    let want : Nat × Nat := match fScope w with
      | 0 => (o.ec, o.er)
      | 1 => (1, o.er)
      | 2 => (o.ec, 1)
      | _ => (1, 1)
    let loose := fScope w == 0 && !fStores w
    checkExts ((if loose && x.ext fd == 1 then [] else [(x.ext fd, want.1)]) ++ (if loose && x.ext rd == 1 then [] else [(x.ext rd, want.2)]) ++
      [2, 3, 4, 5].map fun j => (x.ext j, 1)) x.handle
  | _, _ => .ok ()

/-- The extents of the record against P's (R289), columns first, then P's dimensions; the detail words hold the pair that fails
(R508). -/
def fExtents (o : FullOps) : Except Reject Unit :=
  let bad (a b : Nat) : Reject := { code := 0x0104, dw0 := a, dw1 := b, handle := some o.s.handle }
  checkAll [
    check (if o.layer.shard = 2 then o.ec ≤ o.layer.ncols else o.layer.ncols = o.ec) (bad o.layer.ncols o.ec),
    check (if o.layer.shard = 1 then o.er ≤ o.layer.nrows else o.layer.nrows = o.er) (bad o.layer.nrows o.er),
    check (dNdim o.p.words ≤ 2) (bad (dNdim o.p.words) 2)]

/-- The words of the statistics buffer, by index (R295). -/
def statWord (s : State) (o : Operand) (k : Nat) : Nat := readElem s o k

/-- Orders 3 to 9 of R305. An S that is not a dense INT32 tensor fails at order 6 as a format, one of fewer than 64 elements at order 7
(R288; DESIGN CHOICE, log entry 57: no row names it). -/
def checkFull (s : State) (i : IssueCtx) (f : FullF) : Except Reject FullOps := do
  let o ← resolveFull s f
  checkAll (o.binds.map fun (_, x) =>
    check (x.ranges.all fun r => inHbmRange r || inBeam (s.dieOf i.loom) r) { code := 0x0103, handle := some x.handle })
  checkAll ([checkFormat o.s, check (o.s.fmt == .int32 && o.s.dense) { code := 0x0205, handle := some f.s }] ++
    o.binds.map fun (_, x) => checkFormat x)
  check (o.stats.fmt? == some .f64 && o.stats.dense && dBsize o.stats.words == 0) { code := 0x0205, handle := some o.layer.stats }
  check (!o.layer.resv) { code := 0x0205, handle := some f.s }
  checkAll (o.ws.map (fFormat o))
  check (64 ≤ o.s.total) { code := 0x0104, dw0 := 64, dw1 := o.s.total, handle := some f.s }
  fExtents o
  checkAll (o.ws.map (fShape o))
  check (8 + o.er + o.ec ≤ o.stats.total) { code := 0x0104, dw0 := 8 + o.er + o.ec, dw1 := o.stats.total, handle := some o.layer.stats }
  checkSpan o.s true
  checkSpan o.stats true
  checkAll (o.binds.map fun (b, x) => checkSpan x ((fStored o.ws).contains b))
  checkBanks s ([o.s, o.stats] ++ o.binds.map (·.2))
  check (f.pass != 1 || (statWord s o.stats 0 == o.layer.t % 2 ^ 64 && !bitAt (statWord s o.stats 1) 0))
    { code := 0x0206, dw0 := o.layer.t % 2 ^ 64, dw1 := statWord s o.stats 0, handle := some o.layer.stats }
  pure o

/-! ### Running a program (R290, R291, R293) -/

/-- What a pass carries: the registers, the values stored by ST (binding, element, code), the values collected by QST, the
sums and the flags. -/
structure FullRun where
  f : List Nat
  st : List (Nat × Nat × Nat) := []
  q : List (Nat × Nat × Nat) := []
  rs : List Nat
  cs : List Nat
  fl : Flags := {}
  /-- The pass has met an invalid entry under INV_FAULT, which faults the FULL (R85, R301): it computes nothing more. -/
  halt : Bool := false
  deriving DecidableEq, Repr

/-- The statistics of pass two (R297). -/
structure FullStats where
  rs : List Nat
  cs : List Nat
  ts : Nat
  deriving DecidableEq, Repr

/-- The coordinates of a binding at the current row and column. -/
def fCoord (o : FullOps) (x : Operand) (i j : Nat) : List Nat := bcast x (coord2 o.layer.fast j (1 - o.layer.fast) i)

/-- A register's value. -/
def FullRun.reg (x : FullRun) (k : Nat) : FVal := fp32.decode (x.f.getD k 0)
/-- A register written with a rounding's outcome. -/
def FullRun.put (x : FullRun) (k : Nat) (r : FRes) : FullRun := { x with f := x.f.set k r.code, fl := x.fl.or r.fl }

/-- The exact power of R293 STEPPOW. -/
def stepPow (v : FVal) (t : Nat) : FVal :=
  match v with
  | .nan => .nan
  | .inf n => .inf (n && t % 2 == 1)
  | .fin n a b => .fin (n && t % 2 == 1) (a ^ t) (b ^ t)

/-- Whether two bindings have one handle. -/
def FullOps.same (o : FullOps) (b c : Nat) : Bool := b == c || (o.bind b).map (·.handle) == (o.bind c).map (·.handle)

/-- LD (R291, R293): a narrow binding gives its integer code as it stood at issue; another the value last stored, under whichever
binding of its handle. -/
def fLoad (s : State) (o : FullOps) (x : FullRun) (b i j : Nat) : FRes :=
  match o.bind b with
  | none => { code := 0 }
  | some y =>
    let c := fCoord o y i j
    if y.scaled then fp32.round .rne (FVal.ofInt (toSigned y.fmt.bits (y.read s c)))
    else
      let e := indexOf y.exts c
      let code := match x.st.reverse.find? fun p => p.2.1 == e && o.same p.1 b with | some p => p.2.2 | none => y.read s c
      fp32.round .rne (y.fmt.value code)

/-- The statistic that LDS names; none where the scope gives it no index (log entry 1). -/
def fStat (st : FullStats) (scope n i j : Nat) : Option Nat :=
  match n with
  | 0 => if scope = 0 ∨ scope = 1 then some (st.rs.getD i 0) else none
  | 1 => if scope = 0 ∨ scope = 2 then some (st.cs.getD j 0) else none
  | _ => some st.ts

/-- One instruction at row `i` and column `j`. -/
def fStep (s : State) (o : FullOps) (st : FullStats) (i j : Nat) (x : FullRun) (w : W32) : FullRun :=
  if x.halt then x else
  let a := x.reg (fFa w)
  let b := x.reg (fFb w)
  let c := x.reg (fFc w)
  let out (r : FRes) : FullRun := x.put (fFd w) r
  match fOp w with
  | 0x01 => out (fp32.roundOp (a.add b))
  | 0x02 => out (fp32.roundOp (a.sub b))
  | 0x03 => out (fp32.roundOp (a.mul b))
  | 0x04 => let p := a.mul b; let r := p.1.add c; out (fp32.roundOp (r.1, (p.2 && !c.isNan) || r.2))
  | 0x05 => out (fp32.roundOp (a.mul a))
  | 0x06 => out (fp32.round .rne a.abs)
  | 0x07 => out (fp32.round .rne (if a.isNan || a.isZero then a else .fin a.isNeg 1 1))
  | 0x08 => out (fp32.round .rne (a.max b))
  | 0x09 => out (fp32.round .rne (a.min b))
  | 0x0A => out (fp32.round .rne ((a.max b).min c))
  | 0x0B => out (fp32.round .rne (if FVal.zero.lt a then b else c))
  | 0x0C => out (sfnRound fp32 .sqrt a)
  | 0x0D => out (sfnRound fp32 .rsqrt a)
  | 0x0E => out (fp32.roundOp ((FVal.fin false 1 1).div a))
  | 0x0F => out (fp32.round .rne (stepPow a o.layer.t))
  | 0x10 => out (fLoad s o x (fN w) i j)
  | 0x11 => out (fp32.round .rne (fp32.decode (o.layer.ks.getD (fN w) 0)))
  | 0x12 => out { code := (fStat st (fScope w) (fN w) i j).getD (Config.absentStat w.toNat % 2 ^ 32) }
  | 0x13 =>
    match o.bind (fN w) with
    | some y =>
      let k := y.blockOf (fCoord o y i j)
      if usable s y k then out (fp32.roundOp (a.mul (bf16.decode (scaleOf s y k).1))) else { x with halt := true }
    | none => x
  | 0x14 =>
    match o.bind (fN w) with
    | some y =>
      let r := (dFloat y).round .rne a
      { x with st := x.st ++ [(fN w, indexOf y.exts (fCoord o y i j), r.code)], fl := x.fl.or r.fl }
    | none => x
  | 0x15 =>
    match o.bind (fN w) with
    | some y => { x with q := x.q ++ [(fN w, indexOf y.exts (fCoord o y i j), x.f.getD (fFa w) 0)] }
    | none => x
  | 0x16 => let r := fp64.roundOp ((fp64.decode (x.rs.getD i 0)).add a); { x with rs := x.rs.set i r.code, fl := x.fl.or r.fl }
  | 0x17 => let r := fp64.roundOp ((fp64.decode (x.cs.getD j 0)).add a); { x with cs := x.cs.set j r.code, fl := x.fl.or r.fl }
  | _ => x

/-- The instructions of a scope that run in a pass. -/
def fScopeOf (ws : List W32) (scope : Nat) (two : Bool) : List W32 :=
  ws.filter fun w => fScope w == scope && fRuns two w

/-- A pass over the layer (R290). -/
def runPass (s : State) (o : FullOps) (st : FullStats) (two : Bool) : FullRun :=
  let run (scope i j : Nat) (x : FullRun) : FullRun := (fScopeOf o.ws scope two).foldl (fStep s o st i j) x
  let x0 : FullRun := { f := List.replicate 16 0, rs := List.replicate o.er 0, cs := List.replicate o.ec 0 }
  let x1 := if two then (List.range o.ec).foldl (fun x j => run 2 0 j x) (run 3 0 0 x0) else x0
  (List.range o.er).foldl (fun x i =>
    (List.range o.ec).foldl (fun x j => run 0 i j x) (if two then run 1 i 0 x else x)) x1

/-! ### Statistics (R295 to R297) -/

/-- Whether a program has an instruction of some opcode. -/
def fHas (ws : List W32) (op : Nat) : Bool := ws.any fun w => fOp w == op

/-- TOTAL of a pass one (R296). -/
def fTotal (o : FullOps) (x : FullRun) : Nat × Flags := treeSum fp64 (if fHas o.ws 0x16 then x.rs else x.cs)

/-- The words that a pass one writes (R295, R296). The reserved words 5 to 7 and word 1's reserved bits are written as 0 (DESIGN CHOICE,
log entry 57). -/
def statWords (o : FullOps) (x : FullRun) : List Nat :=
  [o.layer.t % 2 ^ 64, 0, (fTotal o x).1, o.er, o.ec, 0, 0, 0] ++ x.rs ++ x.cs

/-- The statistics that pass two uses, from the words of the buffer (R297), with the flags of their roundings. -/
def fStats (o : FullOps) (word : Nat → Nat) : FullStats × Flags :=
  let q (k n : Nat) : FRes := fp32.roundOp ((fp64.decode (word k)).div (FVal.ofInt n))
  let rs := (List.range o.er).map fun i => q (8 + i) o.layer.ncols
  let cs := (List.range o.ec).map fun j => q (8 + o.er + j) o.layer.nrows
  let ts := q 2 (o.layer.nrows * o.layer.ncols)
  ({ rs := rs.map (·.code), cs := cs.map (·.code), ts := ts.code }, ((gatherFlags rs).or (gatherFlags cs)).or ts.fl)

/-! ### What a pass two leaves (R301, R303) -/

/-- A QST binding as the pass leaves it: its scales, its codes and its flags (R301). -/
structure QstOut where
  scales : List Nat
  codes : List (Nat × Nat)
  fl : Flags
  deriving DecidableEq, Repr

/-- The blocks of a QST binding formed from the values collected (R301). A block of which the pass, faulting, has not collected every
value keeps what it holds. -/
def qstBind (s : State) (o : FullOps) (b : Nat) (y : Operand) (x : FullRun) : QstOut :=
  let seed := (s.reg Reg.GCTL_JOB_SEED).toNat
  let stream := 0x04000000 + o.layer.sid * 2 ^ 16 + y.handle.toNat
  (List.range y.nb).foldl (fun acc k =>
    let vs := (blockElems y k).filterMap fun e => (x.q.reverse.find? fun p => p.2.1 == e && o.same p.1 b).map fun p => (e, fp32.decode p.2.2)
    if vs.length ≠ (blockElems y k).length then { acc with scales := acc.scales ++ [rawEntry s y k] } else
    let m := vs.foldl (fun m v => if m.lt v.2.abs then v.2.abs else m) FVal.zero
    let sc := reblockScale y m
    let qs : List (Nat × Int × Flags) := vs.map fun (e, v) =>
      (e, toNarrow y.fmt.limit (some (randomU e stream (o.layer.t % 2 ^ 32) seed)) v (bf16.decode sc.1))
    { scales := acc.scales ++ [sc.1], codes := acc.codes ++ qs.map (fun (e, r) => (e, ofSigned y.fmt.bits r.1))
      fl := qs.foldl (fun fl r => fl.or r.2.2) (acc.fl.or { ovf := sc.2.1 }) }) { scales := [], codes := [], fl := {} }

/-- What a binding holds after a pass two: the code of each element, the entry of each block, and the bytes of its frames. A store
under another binding of its handle counts as its own (R291). -/
structure BindOut where
  b : Nat
  o : Operand
  stored : Bool
  code : List Nat
  entry : List Nat
  frames : List Byte
  fl : Flags
  deriving DecidableEq, Repr

/-- The bytes of a mordant stream as memory holds them. -/
def rawStream (s : State) (o : Operand) : List Byte := (List.range (64 * o.frames)).map fun k => s.operandByte (entryAddr o.m0 k)

/-- A binding after a pass two. -/
def bindAfter (s : State) (o : FullOps) (x : FullRun) (b : Nat) (y : Operand) : BindOut :=
  let base := (List.range y.total).map fun e => y.read s (coordsOf y.exts e)
  let stored := (fStored o.ws).contains b
  if y.scaled then
    if (fStored o.ws).any (o.same b) then
      let q := qstBind s o b y x
      { b := b, o := y, stored := stored, code := q.codes.foldl (fun l (e, v) => l.set e v) base, entry := q.scales
        frames := (List.range y.frames).flatMap fun f => (frameWrites y f fun k => q.scales.getD k 0).map (·.val)
        fl := if stored then q.fl else {} }
    else { b := b, o := y, stored := false, code := base, entry := [], frames := rawStream s y, fl := {} }
  else
    { b := b, o := y, stored := stored, code := (x.st.filter fun p => o.same p.1 b).foldl (fun l p => l.set p.2.1 p.2.2) base
      entry := [], frames := [], fl := {} }

/-- The bytes of elements packed at element size in logical order (R303). -/
def packCodes (f : EFmt) : List Nat → List Byte
  | [] => []
  | [c] => match f with | .int4 => [BitVec.ofNat 8 (c % 16)] | f => leBytes (f.bits / 8) c
  | c :: d :: rest => match f with
    | .int4 => BitVec.ofNat 8 (c % 16 + d % 16 * 16) :: packCodes f rest
    | f => leBytes (f.bits / 8) c ++ packCodes f (d :: rest)

/-- Bytes as little-endian words, the last padded with zeros. -/
def packWords : Nat → List Byte → List Nat
  | 0, _ => []
  | _ + 1, [] => []
  | n + 1, bs => leValue (bs.take 8) :: packWords n (bs.drop 8)

/-- The byte string of a binding in the tally message (R303). -/
def bindBytes (x : BindOut) : List Byte := packCodes x.o.fmt x.code ++ x.frames

/-- The tally message (R303). A TMASK bit of a binding that the program does not name adds nothing (DESIGN CHOICE, log entry 57: such
a binding is not resolved, R287). -/
def tallyMessage (o : FullOps) (bs : List BindOut) : List Nat :=
  (o.layer.t % 2 ^ 64) :: (bs.filter fun x => bitAt o.layer.tmask x.b).flatMap fun x =>
    let bytes := bindBytes x
    (x.b * 2 ^ 56 + bytes.length) :: packWords bytes.length bytes

/-- The writes and digest words of a stored binding (R301, R367). The frames of each binding come after its own elements, before the
next binding's (DESIGN CHOICE, log entry 57). -/
def bindPlan (x : BindOut) : List BWrite × List (Nat × Nat × Nat) :=
  if x.stored then
    let w := elemPlan x.o (x.code.zipIdx.map fun (v, e) => (e, v))
    let m := if x.o.scaled then streamPlan x.o fun b => x.entry.getD b 0 else ([], [])
    (w.1 ++ m.1, w.2.map (fun (_, e, v) => (2 * x.b, e, v)) ++ m.2.map fun (_, e, v) => (2 * x.b + 1, e, v))
  else ([], [])

/-- The writes of the record at the retirement of a pass two (R288, R304). -/
def recordWrites (o : FullOps) (t lo hi : Nat) : List BWrite :=
  let at_ (k : Nat) (bs : List Byte) : List BWrite :=
    bs.zipIdx.map fun (b, i) => { addr := entryAddr o.s.w0 (k + i), mask := 0xFF, val := b }
  at_ 0 (leBytes 8 t) ++ at_ 128 (leBytes 8 lo ++ leBytes 8 hi) ++ at_ 144 (leBytes 8 t)

/-- Whether a narrow binding's scale was replaced where a pass reads it (R84, R301). -/
def fullInv (s : State) (o : FullOps) (pass : Nat) : Bool :=
  o.binds.any fun (b, y) => y.scaled && !dInvFault y.words && fReadsIn o.ws pass b && (List.range y.nb).any fun k => (scaleOf s y k).2

/-- What a FULL computes, as far as it comes: a pass that meets an invalid entry under INV_FAULT halts, and a pass one then writes no
statistics. -/
def fullPlan (s : State) (f : FullF) (o : FullOps) : Plan :=
  let pass := f.pass.toNat
  let one := runPass s o { rs := [], cs := [], ts := 0 } false
  let words := statWords o one
  let statW := if one.halt then [] else words.zipIdx.flatMap fun (v, k) => elemWrites o.stats k v
  let gathers := fHas o.ws 0x16 || fHas o.ws 0x17
  let long := gathers && (decide (2 ^ 32 < o.layer.nrows) || decide (2 ^ 32 < o.layer.ncols))
  let fl1 : Flags := (one.fl.or (fTotal o one).2).or { long := long }
  let inv : Flags := { inv := fullInv s o pass }
  if passTwo pass && !(pass == 2 && one.halt) then
    let st := fStats o (if pass = 2 then fun k => words.getD k 0 else statWord s o.stats)
    let x := runPass s o st.1 true
    let bs := o.binds.map fun (b, y) => bindAfter s o x b y
    let msg := tallyMessage o bs
    let lo := gdigest (s.reg Reg.FUL_TKEY0).toNat 0 msg
    let hi := gdigest (s.reg Reg.FUL_TKEY1).toNat 0 msg
    let ps := bs.map bindPlan
    { writes := (if pass = 2 then statW else []) ++ ps.flatMap (·.1)
      records := recordWrites o (o.layer.t % 2 ^ 64) lo hi
      words := ps.flatMap (·.2)
      own := ((bs.foldl (fun fl b => fl.or b.fl) (x.fl.or st.2)).or (if pass = 2 then fl1 else {})).or inv
      tally := some (o.layer.t % 2 ^ 64, lo, hi) }
  else { writes := if passOne pass then statW else [], own := fl1.or inv }

/-! ### Timing and issue (R286, R306) -/

/-- The weight of an instruction. -/
def fWeight (w : W32) : Nat := if [0x0C, 0x0D, 0x0E, 0x0F].contains (fOp w) then 4 else if fOp w = 0x15 then 2 else 1
/-- The weights of a scope in a pass. -/
def fWeights (ws : List W32) (scope : Nat) (two : Bool) : Nat := (fScopeOf ws scope two).foldl (fun n w => n + fWeight w) 0

/-- Whether a pass reads the elements of a binding: by LD or DEQ, or in a pass two for the tally (R290, R303). -/
def fTakes (o : FullOps) (two : Bool) (b : Nat) : Bool := fReads o.ws two b || (two && bitAt o.layer.tmask b)
/-- Whether a pass reads the frames of a binding: with its elements, or by QST (R303, R307). -/
def fTakesFrames (o : FullOps) (two : Bool) (b : Nat) : Bool :=
  fTakes o two b || (two && o.ws.any fun w => fRuns true w && fOp w == 0x15 && fN w == b)

/-- Bytes that a pass reads or writes (R306). -/
def fBytes (o : FullOps) (two : Bool) : Nat :=
  o.binds.foldl (fun n (b, y) =>
    n + (bit (fTakes o two b) + bit (fWrites o.ws two b)) * ceilDiv (y.total * y.fmt.bits) 8 +
      (if y.scaled then (bit (fTakesFrames o two b) + bit (fWrites o.ws two b)) * 64 * y.frames else 0))
    (8 * (8 + o.er + o.ec))

/-- Whether the statistics, or a binding that a pass reads or writes, lie in HBM (R306). -/
def fInHbm (o : FullOps) (two : Bool) : Bool :=
  o.stats.ranges.any inHbmRange || o.binds.any fun (b, y) => (fTakesFrames o two b || fWrites o.ws two b) && y.ranges.any inHbmRange

/-- The completion bound of a pass (R306). -/
def passCycles (o : FullOps) (two : Bool) : Nat :=
  let n := o.er * o.ec * fWeights o.ws 0 two + (if two then o.er * fWeights o.ws 1 two + o.ec * fWeights o.ws 2 two else 0)
  let comp := ceilDiv n 256 + (if two then fWeights o.ws 3 two else 0)
  256 + max comp (ceilDiv (fBytes o two) (if fInHbm o two then 128 else 256))

/-- The pick from which FSTAT shows pass two (R308): of a BOTH FULL the one by which the bound of its pass one has run at the clock
limit (DESIGN CHOICE, log entry 57). -/
def passTurn (s : State) (o : FullOps) (pass : Nat) : Option Nat :=
  if passOne pass then
    if passTwo pass then some (s.pick + ceilDiv (5 * passCycles o false) (if s.flag Reg.GCTL_DEV_STATE_CAL_LIGHT then 928 else 1024)) else none
  else some s.pick

/-- Whether the frames of a binding are read in a pass that PASS includes: by LD, DEQ or QST (R307). -/
def fFramesIn (ws : List W32) (pass b : Nat) : Bool :=
  fReadsIn ws pass b || (passTwo pass && ws.any fun w => fRuns true w && fOp w == 0x15 && fN w == b)

/-- The bytes that a FULL reads: the record, the statistics of a pass two, the bindings that a pass reads, and those that the
tally covers (R288, R290, R297, R303). -/
def fullReads (o : FullOps) (pass : Nat) : List (Nat × Nat) :=
  o.s.runs ++ (if passTwo pass then o.stats.runs else []) ++
    (o.binds.filter fun (b, _) => fFramesIn o.ws pass b || (passTwo pass && bitAt o.layer.tmask b)).flatMap fun (_, y) => y.runs

/-- The bytes that a FULL writes (R288, R295, R301). -/
def fullWrites (o : FullOps) (pass : Nat) : List (Nat × Nat) :=
  (if passTwo pass then o.s.runs ++ (o.binds.filter fun (b, _) => (fStored o.ws).contains b).flatMap fun (_, y) => y.runs else []) ++
    (if passOne pass then o.stats.runs else [])

/-- The handles a FULL names and writes (R287, R307). -/
def fullNames (s : State) (f : FullF) : Named :=
  let ws := (smGet (fun _ => none) s.fprogs f.prog.toNat).getD []
  let d := s.desc (handleIndex f.s)
  let e := s.htEntry (dDie d) (dEntry d)
  let r := readLayer s { handle := f.s, words := d, w0 := e.1, w1 := e.2 }
  let nm := fNamed ws
  let rest := (nm.filter (2 ≤ ·)).map (bindHandle f r)
  let stored := if passTwo f.pass.toNat then (fStored ws).map (bindHandle f r) else []
  let st := if passOne f.pass.toNat then [r.stats] else []
  { names := ([f.s, f.p] ++ (if nm.contains 1 then [f.g] else []) ++ [r.stats] ++ rest).flatMap (named s)
    dsts := stored ++ st ++ [f.s]
    faultOn := if stored.isEmpty then some r.stats else none
    wrote := (stored ++ st ++ (if passTwo f.pass.toNat then [f.s] else [])).flatMap (named s) }

/-- The streams whose FULL waits for a die's engine, in the order in which they reached issue; what else holds one of them does not
change its place. One that is sliced out issues nothing (R234) and keeps no other from the engine. -/
def waitingFor (s : State) (die : Nat) : List (Nat × Nat) :=
  (s.full die).waiting.filter fun (l, t) => s.residentOf (ctxSlot l t) == some t && (s.stream l t).hold.isSome

/-- Whether a FULL of a stream must wait for its die's engine, and for whom (R286, R239). -/
def engineHold (s : State) (i : IssueCtx) : Option HoldKind :=
  let die := s.dieOf i.loom
  let own (l t : Nat) : HoldKind := if l = i.loom ∧ t % 4 = i.ctx then .fullingOwn else .fulling
  match (s.full die).running.bind s.cmd? with
  | some c => some (own c.loom c.stream)
  | none => match waitingFor s die with
    | (l, t) :: _ => if l = i.loom ∧ t = i.stream then none else some (own l t)
    | [] => none

/-- FULL at issue, the engine free. -/
def startFull (i : IssueCtx) (f : FullF) (s : State) : IssueRes :=
  match checkFull s i f with
  | .error r => .rejected r
  | .ok o =>
    let pass := f.pass.toNat
    let die := s.dieOf i.loom
    let nc := (if passOne pass then passCycles o false else 0) + (if passTwo pass then passCycles o true else 0)
    let l : Launch :=
      { nc := some nc, handles := fullNames s f
        entries := o.s.entries s ++ o.stats.entries s ++ o.binds.flatMap fun (_, y) => y.entries s
        reads := fullReads o pass, writes := fullWrites o pass, phase := .full die (passTurn s o pass) }
    if o.p.isEmpty then .issued (launchNow s i (.full f) { l with phase := .plain })
    else
      let frames := (o.binds.filter fun (b, y) => y.scaled && fFramesIn o.ws pass b).flatMap fun (_, y) =>
        framesFor s y (List.range y.nb)
      .issued ((s.launch i (.full f) { l with plan := fullPlan s f o, frames := frames }).setFull die
        { s.full die with running := some s.nextId })

/-! ### Programs (R294, R308) -/

/-- The staged program words. -/
def stagedWords (s : State) (n : Nat) : List W32 :=
  (List.range n).map fun k => BitVec.ofNat 32 ((s.reg (Reg.FUL_FP_STAGE (k / 2))).toNat / 2 ^ (32 * (k % 2)))

/-- Whether some FULL in flight uses a program. -/
def programBusy (s : State) (p : Nat) : Bool :=
  s.cmds.any fun c => match c.c with | .full f => f.prog.toNat == p | _ => false

/-- The pending program change installed, once no FULL uses its program (R308). An INVALIDATE waits as a commit does (DESIGN CHOICE, log
entry 57). -/
def settleProgram (s : State) : State :=
  match s.fpWait with
  | none => s
  | some (p, ws) =>
    if programBusy s p then s
    else
      let s := { s with fprogs := smSet (fun _ => none) s.fprogs p ws, fpWait := none }
      let v := setBits (s.reg Reg.FUL_FP_VALID).toNat p p (bit ws.isSome)
      (s.setReg Reg.FUL_FP_VALID (BitVec.ofNat 64 v)).setFld Reg.FUL_FP_STAT_DONE 1

/-- The outcome fields of a program action. -/
def fpStat (s : State) (p : Nat) (done : Bool) (refused : Option (Nat × Nat)) : State :=
  ((((s.setFld Reg.FUL_FP_STAT_PROG p).setFld Reg.FUL_FP_STAT_DONE (bit done)).setFld Reg.FUL_FP_STAT_REFUSED
    (bit refused.isSome)).setFld Reg.FUL_FP_STAT_REASON (match refused with | some r => r.1 | none => 0)).setFld
    Reg.FUL_FP_STAT_INSTR (match refused with | some r => r.2 | none => 0)

/-- A program copied into FP_STAGE and FP_HDR; a program that is not valid reads as no words. -/
def copyProgram (s : State) (ws : List W32) : State :=
  let s := (List.range 16).foldl (fun s k =>
    s.setReg (Reg.FUL_FP_STAGE k) (BitVec.ofNat 64 ((ws.getD (2 * k) 0).toNat + 2 ^ 32 * (ws.getD (2 * k + 1) 0).toNat))) s
  s.setFld Reg.FUL_FP_HDR_LEN ws.length

/-- A write of FP_COMMIT (R308): discarded while DONE is clear; READ copies, INVALIDATE removes, else a commit. With READ and INVALIDATE
both set, READ alone acts (DESIGN CHOICE, log entry 57). -/
def fpCommitOp (s : State) (p : Nat) (read inval : Bool) : State :=
  if !s.flag Reg.FUL_FP_STAT_DONE then s.denied (ctlBase + Reg.FUL_FP_COMMIT)
  else if read then fpStat (copyProgram s ((smGet (fun _ => none) s.fprogs p).getD [])) p true none
  else if inval then settleProgram { fpStat s p false none with fpWait := some (p, none) }
  else
    let n := s.fld Reg.FUL_FP_HDR_LEN
    let ws := stagedWords s (min n 32)
    match fCheck n ws with
    | some r => fpStat s p true (some r)
    | none => settleProgram { fpStat s p false none with fpWait := some (p, some ws) }

/-- A write of TALLY_CTL (R308). -/
def tallyClearOp (s : State) (die : Nat) : State :=
  (s.setReg (Reg.FUL_TALLY_ACC_LO die) 0).setReg (Reg.FUL_TALLY_ACC_HI die) 0

end Sys2Proof.Machine
end

