-- ==== Sys2Proof/Machine/Weave.lean ====
section
/-! DEFINITION. Weaven: schedules (R317 to R320), throws and catches (R324 to R330) and the collective engine (R331 to
R334). -/
namespace Sys2Proof.Machine

/-! ### The schedule (R317 to R320) -/

/-- Payload bytes of a slot (R313). -/
def slotBytes : Nat := 24576

/-- The flow entry of a flow in the active schedule. -/
def flowEntry (s : State) (flow : Nat) : Option FlowEntry :=
  s.wvn.active.bind fun sc => sc.flows.find? (·.flow == flow)

/-- The entry of a port's slot table; an index not listed is IDLE (R318). -/
def slotEntry (sc : Schedule) (port idx : Nat) : Nat := ((sc.slots.find? (·.1 == 8192 * port + idx)).map (·.2)).getD 0
/-- KIND of a slot table entry. -/
def slotKind (e : Nat) : Nat := bitsOf e 1 0
/-- FLOW of a slot table entry. -/
def slotFlow (e : Nat) : Nat := bitsOf e 21 2

/-- A number put in its place in a rising list. -/
def insertNat (n : Nat) : List Nat → List Nat
  | [] => [n]
  | x :: rest => if n ≤ x then n :: x :: rest else x :: insertNat n rest

/-- The slot indices of a port that carry a flow, rising. -/
def flowIdxs (sc : Schedule) (port flow : Nat) : List Nat :=
  ((sc.slots.filter fun e => e.1 / 8192 == port && slotKind e.2 == 1 && slotFlow e.2 == flow).map (·.1 % 8192)).foldr insertNat []

/-- How many of the slots at some indices have a pick below `x`. -/
def slotsBelow (idxs : List Nat) (x : Nat) : Nat := (x / 8192) * idxs.length + (idxs.filter (· < x % 8192)).length
/-- The pick of the `k`-th slot at or after `a`, where the flow has slots. -/
def nthSlot (idxs : List Nat) (a k : Nat) : Option Nat :=
  if idxs.isEmpty then none
  else
    let o := slotsBelow idxs a + k
    some (8192 * (o / idxs.length) + idxs.getD (o % idxs.length) 0)

/-- The ports of a mask. -/
def maskPorts (m : Nat) : List Nat := (List.range 18).filter (bitAt m)

/-- Whether a window of a kind is open at the present pick, and how many picks are left of it (R320). -/
def windowLeft (s : State) (kind : Nat) : Nat :=
  match s.wvn.active with
  | none => 0
  | some sc =>
    let x := s.pick % 8192
    sc.windows.foldl (fun n w =>
      let into := (x + 8192 - w.start) % 8192
      if w.kind = kind ∧ into < w.length then max n (w.length - into) else n) 0

/-- Ports of the grade (R2, R344). -/
def State.nPorts (s : State) : Nat := s.fld Reg.GCTL_GRADE_PORTS
/-- The memory of a port. -/
def State.port (s : State) (p : Nat) : PortSt := smGet (fun _ => {}) s.wvn.ports p
/-- The state with a port's memory replaced. -/
def State.setPort (s : State) (p : Nat) (x : PortSt) : State :=
  { s with wvn := { s.wvn with ports := smSet (fun _ => {}) s.wvn.ports p x } }
/-- The memory of a flow. -/
def State.flowSt (s : State) (f : Nat) : FlowSt := smGet (fun _ => {}) s.wvn.flows f
/-- The state with a flow's memory replaced. -/
def State.setFlow (s : State) (f : Nat) (x : FlowSt) : State :=
  { s with wvn := { s.wvn with flows := smSet (fun _ => {}) s.wvn.flows f x } }
/-- PSTAT STATE (R335). -/
def State.portState (s : State) (p : Nat) : Nat := s.fld (Reg.WVN_PSTAT_STATE p)
/-- IN_SERVICE. -/
def State.inService (s : State) (p : Nat) : Bool := decide (p < s.nPorts) && s.portState p == 3
/-- SYNC_STAT STATE (R55). -/
def State.sync (s : State) : Nat := s.fld Reg.TIME_SYNC_STAT_STATE
/-- Whether data cells are sent (R55, R57, R58, R314). -/
def State.dataOpen (s : State) : Bool :=
  (s.sync == 2 || s.sync == 3 || s.sync == 5) && s.time.holdTo.isNone && decide (s.wvn.dataFrom ≤ shedOf s.pick)

/-- A flow record put on the C2 cells of a port (R316). -/
def State.sendRec (s : State) (p : Nat) (r : FlowRec) : State :=
  if p < s.nPorts then s.setPort p { s.port p with recs := (s.port p).recs ++ [r] } else s
/-- A flow record sent from the source along every out port of a flow. -/
def State.sendDown (s : State) (f : FlowEntry) (r : FlowRec) : State := (maskPorts f.outMask).foldl (fun s p => s.sendRec p r) s
/-- A flow record, each field at its width (R316). -/
def mkRec (kind cidx flow tseq arg : Nat) : FlowRec :=
  { kind := BitVec.ofNat 8 kind, cidx := BitVec.ofNat 8 cidx, flow := BitVec.ofNat 20 flow, tseq := BitVec.ofNat 32 tseq
    arg := BitVec.ofNat 40 arg }
/-- A record to every catcher of a flow. -/
def State.sendAll (s : State) (f : FlowEntry) (kind tseq arg : Nat) : State :=
  (List.range f.ncatch).foldl (fun s c => s.sendDown f (mkRec kind c f.flow tseq arg)) s

/-! ### Checks of THROW and CATCH (R324) -/

/-- THROW_REJECTED or THROW_DEADLINE with a reason and a flow (R508). -/
def throwFault (code reason flow : Nat) : LateFault := { code := code, dw0 := reason, dw1 := flow }
/-- The rejection at issue (R343). -/
def throwReject (reason flow : Nat) (h : Option Handle := none) : Reject := { code := 0x0401, dw0 := reason, dw1 := flow, handle := h }

/-- Orders 3 to 7 of R324 over SRC or DST; a collective's LEN must be 128 and its header an INT32 tensor (R331). DESIGN CHOICE
(log entry 37): a header that is not INT32 or has fewer than 32 elements faults with FORMAT_MISMATCH, after the dense check and
before EXTENT, since R331 names no fault for it. -/
def checkThrown (s : State) (h : Handle) (len : Nat) (dest coll : Bool) : Except Reject Operand := do
  let o ← resolvePlain s h
  checkAbsent s o
  checkFormat o
  check o.dense { code := 0x0205, handle := some h }
  check (!coll || (o.fmt == .int32 && decide (32 ≤ o.total))) { code := 0x0205, handle := some h }
  checkSpan o dest
  check (decide (len ≤ o.span)) { code := 0x0104, dw0 := len, dw1 := o.span, handle := some h }
  check (!coll || len == 128) { code := 0x0104, dw0 := len, dw1 := 128, handle := some h }
  checkBanks s [o]
  pure o

/-- Orders 3 to 8 of R324 for a CATCH. -/
def checkCatch (s : State) (i : IssueCtx) (dst : Handle) (flow len : Nat) : Except Reject (Operand × FlowEntry) := do
  let o ← checkThrown s dst len true false
  match flowEntry s flow with
  | some f => do
    check (f.catcher && f.catchLoom == i.loom) (throwReject 1 flow (some dst))
    pure (o, f)
  | none => .error (throwReject 1 flow (some dst))

/-! ### Admission (R325, R326) -/

/-- Whether a credit is still usable: CREDIT_LIFE picks have not passed since it came (R325). -/
def Credit.live (x : Credit) (now life : Nat) : Bool := decide (now ≤ x.arrived + life)
/-- The oldest usable credit of a catcher. -/
def FlowSt.creditOf (f : FlowSt) (now life c : Nat) : Option Credit := f.credits.find? fun x => x.cidx == c && x.live now life
/-- Whether every catcher of a flow has a usable credit (R325). -/
def creditsReady (f : FlowSt) (e : FlowEntry) (now : Nat) : Bool :=
  (List.range e.ncatch).all fun c => (f.creditOf now e.creditLife c).isSome
/-- One usable credit of each catcher, consumed. -/
def FlowSt.consume (f : FlowSt) (e : FlowEntry) (now : Nat) : FlowSt :=
  { f with credits := (List.range e.ncatch).foldl (fun l c =>
      match l.find? (fun x => x.cidx == c && x.live now e.creditLife) with | some x => l.erase x | none => l) f.credits }
/-- Whether some consumed credit's LEN differs (R325). -/
def creditLenBad (f : FlowSt) (e : FlowEntry) (now len : Nat) : Bool :=
  (List.range e.ncatch).any fun c => match f.creditOf now e.creditLife c with | some x => x.len != len | none => false

/-- Whether some out port or the detour port is IN_SERVICE (R325). -/
def hasPath (s : State) (f : FlowEntry) : Bool := (maskPorts f.outMask).any s.inService || s.inService f.altOut

/-- The pick of the `k`-th slot at or after `a` at some indices that no pick of `skip` takes: as many more slots are passed over
as picks of `skip` lie before it. -/
def nthFree (idxs skip : List Nat) (a k : Nat) : Option Nat :=
  (List.range (skip.length + 1)).findSome? fun m =>
    (nthSlot idxs a (k + m)).filter fun p => !skip.contains p && (skip.filter fun q => a ≤ q && q < p).length == m

/-- The flow slots of a port, at or after a pick, on which a slot of an earlier throw of the flow is to be sent again (R326, R327). -/
def bookedSlots (s : State) (flow port a : Nat) : List Nat :=
  ((s.port port).due.filter fun d => d.2.hdr.flow.toNat == flow && decide (a ≤ d.1)).map (·.1)

/-- The pick from which a throw admitted now takes flow slots on a port: 16 picks on, and past those of the flow's earlier throws
there (R326). -/
def throwFrom (s : State) (flow port : Nat) : Nat := max (s.pick + 16) (smGet (fun _ => 0) (s.flowSt flow).free port)

/-- The pick of the `n`-th slot that a throw admitted now has on a port, where the schedule gives the flow slots there (R326). -/
def portLast (s : State) (flow n port : Nat) : Option Nat :=
  s.wvn.active.bind fun sc =>
    nthFree (flowIdxs sc port flow) (bookedSlots s flow port (throwFrom s flow port)) (throwFrom s flow port) (n - 1)

/-- The pick of the last slot of a throw admitted now over its out ports; a free value where the schedule gives the flow no slot
(R326; log entry 1). -/
def lastSlot (s : State) (f : FlowEntry) (n : Nat) : Nat :=
  let ps := (maskPorts f.outMask).filterMap (portLast s f.flow n)
  if ps.isEmpty then Config.noSlotPick f.flow s.pick else ps.foldl max 0

/-- A throw of `len` bytes as it stands when it is admitted at the present pick (R326). -/
def throwRun (s : State) (f : FlowEntry) (len : Nat) (w0 : W64) (engine : Option EngineThrow) : ThrowRun :=
  let fs := s.flowSt f.flow
  let n := ceilDiv len slotBytes
  let last := lastSlot s f n
  let ps := maskPorts f.outMask
  { cmd := s.nextId, tseq := fs.tseq, seq0 := fs.seq, n := n, len := len, w0 := w0
    from_ := ps.foldl (fun m p => smSet (fun _ => 0) m p (throwFrom s f.flow p)) []
    skip := ps.flatMap fun p => (bookedSlots s f.flow p (throwFrom s f.flow p)).map fun q => (p, q)
    pLast := last, nominal := last + f.lat, cdl := last + f.dlat, engine := engine }

/-- A flow after the admission of a throw (R325, R326): a credit of each catcher consumed, its slots and its number taken. -/
def FlowSt.admitted (fs : FlowSt) (s : State) (f : FlowEntry) (run : ThrowRun) : FlowSt :=
  { fs.consume f s.pick with
    seq := (fs.seq + run.n) % 2 ^ 32, tseq := (fs.tseq + 1) % 2 ^ 32, throws := fs.throws ++ [run]
    free := (maskPorts f.outMask).foldl (fun m p => match portLast s f.flow run.n p with
      | some q => smSet (fun _ => 0) m p (q + 1)
      | none => m) fs.free }

/-- A throw admitted at the present pick (R326): its slots and deadlines, and the counts. -/
def State.admitOn (s : State) (f : FlowEntry) (run : ThrowRun) : State :=
  (s.setFlow f.flow ((s.flowSt f.flow).admitted s f run)).addSat Reg.WVN_THROW_CNT_ADMITTED 1

/-- A THROW admitted at the present pick (R326). -/
def admitThrow (s : State) (i : IssueCtx) (c : SlotCmd) (src : Handle) (o : Operand) (f : FlowEntry) (len : Nat) : State :=
  let run := throwRun s f len o.w0 none
  (s.admitOn f run).launch i c
    { nc := none, handles := nameAll s [src] [], entries := o.entries s, reads := bufRuns o.w0 0 len
      phase := .throwing f.flow run.tseq (run.pLast + f.dlat + f.acklat) (List.range f.ncatch) }

/-! ### Collectives (R331, R332) -/

/-- `n` bytes of a buffer as a number. -/
def bufNat (s : State) (o : Operand) (off n : Nat) : Nat := leValue ((List.range n).map fun k => s.operandByte (entryAddr o.w0 (off + k)))

/-- Elements of the ranges of a collective, by element index. -/
def rangeElems (rs : List (Nat × Nat)) : List Nat := rs.flatMap fun r => (List.range r.2).map (· + r.1)

/-- The offset of element `e` of a tensor in its logical order (R167). -/
def Operand.logOff (o : Operand) (e : Nat) : Nat := o.elemOff (coordsOf o.exts e)

/-- The format of IN and OUT matches PREC where OP combines (R332). -/
def precOk (op : Nat) (fp32 : Bool) (o : Operand) : Bool := decide (2 < op) || o.fmt == (if fp32 then .fp32 else .f64)

/-- The digest of a collective's header that its members compare: bytes 0 to 27 and 32 to 63, MYRANK excluded (R334). -/
def headerDigest (s : State) (o : Operand) : Nat :=
  let b (k : Nat) : Byte := s.operandByte (entryAddr o.w0 k)
  leValue (shake256 32 ((List.range 28).map b ++ (List.range 32).map fun k => b (32 + k)))

/-- The looms that the elements of MLIST name under SCOPE 1 (R332). -/
def memberLooms (s : State) (m : Operand) : List Nat := (List.range m.total).map fun e => readElem s m (m.logOff e)

/-- The checks of a collective's header and of the tensors that it names (R87, R332; log entry 16). -/
def checkHeader (s : State) (o : Operand) : Except Reject (Operand × Operand × Operand) := do
  let hd := some o.handle
  let w (off n : Nat) : Nat := bufNat s o off n
  let ctl := w 22 1
  let op := ctl % 8
  let n := w 24 4
  let rs := [(w 32 8, w 40 8), (w 48 8, w 56 8)]
  let a ← resolve s (BitVec.ofNat 16 (w 16 2))
  let d ← resolve s (BitVec.ofNat 16 (w 18 2))
  let m ← resolve s (BitVec.ofNat 16 (w 20 2))
  checkAbsent s a
  checkAbsent s d
  checkAbsent s m
  checkFormat a
  checkFormat d
  checkFormat m
  check (op ≤ 4 && ctl < 64 && w 23 1 == 0 && 1 ≤ n && n ≤ 32768 && (List.range 64).all fun k => w (64 + k) 1 == 0)
    { code := 0x0205, handle := hd }
  check (precOk op (bitAt ctl 3) a) { code := 0x0205, handle := some a.handle }
  check (precOk op (bitAt ctl 3) d && d.fmt == a.fmt) { code := 0x0205, handle := some d.handle }
  check (m.fmt == .int32) { code := 0x0205, handle := some m.handle }
  checkSpan a false
  checkSpan d true
  checkSpan m false
  check (m.total == n) { code := 0x0104, dw0 := m.total, dw1 := n, handle := some m.handle }
  check (w 28 4 < n) { code := 0x0104, dw0 := w 28 4, dw1 := n, handle := hd }
  check (rs.all fun r => r.2 == 0 || r.1 + r.2 ≤ a.total) { code := 0x0104, dw0 := (rs.map fun r => r.1 + r.2).foldl max 0, dw1 := a.total, handle := some a.handle }
  check (if op = 3 then n * (rs.map (·.2)).sum ≤ d.total else rs.all fun r => r.2 == 0 || r.1 + r.2 ≤ d.total)
    { code := 0x0104, dw0 := (rs.map fun r => r.1 + r.2).foldl max 0, dw1 := d.total, handle := some d.handle }
  checkBanks s [a, d, m]
  match if bitAt ctl 4 then (memberLooms s m).find? (s.nLooms ≤ ·) else none with
  | some l => .error { code := 0x0102, dw0 := l, handle := some m.handle }
  | none => pure (a, d, m)

/-- Orders 3 to 9 of R324 for a THROW; a collective's header and what it names are checked before its flow's state (R331, R332). -/
def checkThrow (s : State) (i : IssueCtx) (src : Handle) (flow len : Nat) :
    Except Reject (Operand × FlowEntry × Option (Operand × Operand × Operand)) := do
  let coll := match flowEntry s flow with | some f => f.collective && f.source && f.srcLoom == i.loom | none => false
  let o ← checkThrown s src len false coll
  let h ← if coll then (checkHeader s o).map some else pure none
  match flowEntry s flow with
  | some f => do
    check (f.source && f.srcLoom == i.loom) (throwReject 1 flow (some src))
    check (s.sync != 4) (throwReject 3 flow (some src))
    pure (o, f, h)
  | none => .error (throwReject 1 flow (some src))

/-- The entry that goes with the elements of a block of IN: after R84's replacement, but for the stream that OUT shares with IN, into
which a floor is never written back (R84). -/
def partScale (s : State) (a d : Operand) (b : Nat) : Nat := if d.m0 = a.m0 then rawEntry s a b else (scaleOf s a b).1

/-- The rank of a member: over looms the place of its loom in MLIST, over devices MYRANK (R150, R332). A MYRANK that says otherwise over
looms, or a loom that MLIST does not name, is a DESIGN CHOICE (log entry 37). -/
def memberRank (scope : Bool) (members : List Nat) (me my : Nat) : Nat :=
  if scope then (members.findIdx? (· == me)).getD my else my

/-- The collective that an accepted header of loom `me` starts. -/
def readHeader (s : State) (me : Nat) (o a d m : Operand) (flow : Nat) : Coll :=
  let w (off n : Nat) : Nat := bufNat s o off n
  let ctl := w 22 1
  let rs := [(w 32 8, w 40 8), (w 48 8, w 56 8)]
  let members := memberLooms s m
  let rank := memberRank (bitAt ctl 4) members me (w 28 4)
  { flow := flow, start := w 0 8, step := w 8 8, op := ctl % 8, fp32 := bitAt ctl 3, scope := bitAt ctl 4
    stepchk := bitAt ctl 5, nmemb := w 24 4, rank := rank, digest := headerDigest s o, ranges := rs, out := d
    mine :=
      { rank := rank, elems := (rangeElems rs).map fun e => readElem s a (a.logOff e)
        scales := if a.scaled then (rangeElems rs).map fun e => partScale s a d (a.blockOf (coordsOf a.exts e)) else [], fp32 := a.fmt == .fp32
        elem0 := readElem s a (a.logOff 0) }
    members := members }

/-- DEADLINE of a collective (R334); where its ranges hold no byte k is 0, and CSTEP is taken off. -/
def collDeadline (f : FlowEntry) (h : Coll) : Nat :=
  let k := ceilDiv (ceilDiv ((h.ranges.map (·.2)).sum * h.out.fmt.bits) 8) slotBytes
  h.start + f.cbase + k * f.cstep - f.cstep

/-- The elements of OUT that a GATHER or BCAST writes (R333). -/
def Coll.outElems (h : Coll) : List Nat :=
  if h.op = 3 then List.range (h.nmemb * (h.ranges.map (·.2)).sum) else rangeElems h.ranges

/-- What the frames of a block-scaled OUT raise that a GATHER or BCAST writes and whose other entries it keeps: they are read (R90,
R91). -/
def keptFrames (s : State) (h : Coll) : List (Option LateFault) :=
  if h.out.scaled && decide (2 < h.op) then
    let bs := nubNat (h.outElems.map fun e => h.out.blockOf (coordsOf h.out.exts e))
    ((nubNat (bs.map (· / 30))).filter fun f =>
      (List.range 30).any fun i => decide (30 * f + i < h.out.nb) && !bs.contains (30 * f + i)).map fun f => frameFault s h.out f []
  else []

/-- A collective THROW at issue (R331), with IN, OUT and MLIST. One that a frame of IN or OUT will fault hands no part to the other looms'
collectives (R85, R91). Entries of IN that are invalid are replaced, and raise the quantiser's
INV, since R93 gives the collective engine no set of flags (R84; DESIGN CHOICE, log entry 16). -/
def issueCollective (i : IssueCtx) (c : SlotCmd) (src : Handle) (o a d m : Operand) (f : FlowEntry) (s : State) : IssueRes :=
  let h := readHeader s i.loom o a d m f.flow
  if h.start < s.pick + 16 then .rejected (throwReject 7 f.flow (some src))
  else
    let blocks := if a.scaled then nubNat ((rangeElems h.ranges).map fun e => a.blockOf (coordsOf a.exts e)) else []
    let frames := framesFor s a blocks ++ keptFrames s h
    let part : List LocalPart :=
      if h.scope && frames.all Option.isNone then
        [{ loom := i.loom, flow := f.flow, deadline := collDeadline f h, part := h.mine, digest := h.digest, start := h.start, members := h.members }]
      else []
    let s := { s with wvn := { s.wvn with local_ := s.wvn.local_.filter (fun (x : LocalPart) => decide (s.pick ≤ x.deadline)) ++ part } }
    .issued ((s.addSat Reg.WVN_THROW_CNT_ADMITTED 1).launch i c
      { nc := none, handles := nameAll s [src, a.handle, m.handle] [d.handle]
        entries := [o, a, d, m].flatMap fun (o : Operand) => o.entries s, reads := o.runs ++ a.runs ++ m.runs, writes := d.runs
        frames := frames
        plan := { quant := { inv := !dInvFault a.words && blocks.any fun b => (scaleOf s a b).2 } }
        phase := .collective h (collDeadline f h) })

/-! ### THROW and CATCH at issue -/

/-- The flow number that FC names. -/
def IssueCtx.flow (i : IssueCtx) (fc : BitVec 4) : Nat := i.ctr fc.toNat

/-- Whether the throw slot window is not yet open (R239): no data slot runs yet (R55, R58; log entry 19). -/
def windowShut (s : State) : Bool := s.sync == 0 || s.sync == 1 || decide (shedOf s.pick < s.wvn.dataFrom)

/-- Whether a THROW has waited more than CREDIT_LIFE picks for credit (R325). -/
def creditWaitPast (s : State) (i : IssueCtx) (f : FlowEntry) : Bool :=
  match (s.stream i.loom i.stream).hold with
  | some (.credit, since) => decide (since + f.creditLife < s.pick)
  | _ => false

/-- Why a THROW is held (R239, R325, R331): the slot window, earlier commands of its stream, or credits. -/
def throwHold (s : State) (i : IssueCtx) (flow len : Nat) : Option HoldKind :=
  if windowShut s || !(s.cmdsOf i.loom i.stream).isEmpty then some .other
  else
    match flowEntry s flow with
    | some f =>
      if f.source && f.srcLoom == i.loom && !f.collective && len != 0 && s.sync != 4 && !creditWaitPast s i f &&
          !creditsReady (s.flowSt flow) f s.pick then
        some .credit
      else none
    | none => none

/-- THROW at issue (R324 to R326). -/
def issueThrow (i : IssueCtx) (src : Handle) (fc : BitVec 4) (len : BitVec 40) (s : State) : IssueRes :=
  let c : SlotCmd := .throwTo src fc len
  let flow := i.flow fc
  match throwHold s i flow len.toNat with
  | some k => .held k
  | none =>
    match checkThrow s i src flow len.toNat with
    | .error r => .rejected r
    | .ok (o, _, some (a, d, m)) =>
      match flowEntry s flow with
      | some f => issueCollective i c src o a d m f s
      | none => .rejected (throwReject 1 flow (some src))
    | .ok (o, f, none) =>
      if len = 0 then .issued (launchNow s i c { nc := none, handles := nameAll s [src] [], entries := o.entries s })
      else if creditWaitPast s i f then .rejected (throwReject 6 flow (some src))
      else if creditLenBad (s.flowSt flow) f s.pick len.toNat then .rejected (throwReject 4 flow (some src))
      else if !hasPath s f then .rejected (throwReject 2 flow (some src))
      else .issued (admitThrow s i c src o f len.toNat)

/-- What a rejected THROW or CATCH does beside its fault (R325, R344): the count, and with detail 4 the credits consumed
and FAILED to every catcher. -/
def rejectEffects (s : State) (i : IssueCtx) (c : SlotCmd) (r : Reject) : State :=
  if r.code ≠ 0x0401 then s
  else
    let s := s.addSat Reg.WVN_THROW_CNT_REJECTED 1
    match c, r.dw0 with
    | .throwTo _ fc _, 4 =>
      match flowEntry s (i.flow fc) with
      | some f =>
        let fs := s.flowSt f.flow
        (s.setFlow f.flow { fs.consume f s.pick with tseq := (fs.tseq + 1) % 2 ^ 32 }).sendAll f 3 fs.tseq 4
      | none => s
    | _, _ => s

/-- CATCH at issue (R324, R325): it sends its credit. -/
def issueCatch (i : IssueCtx) (dst : Handle) (fc : BitVec 4) (len : BitVec 40) (s : State) : IssueRes :=
  let c : SlotCmd := .catchAt dst fc len
  let flow := i.flow fc
  if windowShut s then .held .other
  else
  match checkCatch s i dst flow len.toNat with
  | .error r => .rejected r
  | .ok (o, f) =>
    let l : Launch := { nc := none, handles := nameAll s [] [dst], entries := o.entries s, writes := bufRuns o.w0 0 len.toNat }
    if len = 0 then .issued (launchNow s i c l)
    else
      let fs := s.flowSt flow
      let s1 := (s.setFlow flow { fs with posted := fs.posted ++ [some s.nextId] }).sendRec f.revPort
        (mkRec 1 f.cidx flow 0 len.toNat)
      .issued (s1.launch i c
        { l with phase := .catching flow len.toNat (s.pick + f.creditLife + 2 * f.acklat + f.dlat + 16) 0 o none 0 })

/-! ### Records (R316, R325, R329, R330) -/

/-- A fault of a throw or catch after issue, counted unless the command drains. -/
def failThrow (s : State) (c : Cmd) (f : LateFault) : State :=
  let s := if c.draining then s
    else if f.code = 0x0401 then s.addSat Reg.WVN_THROW_CNT_REJECTED 1
    else if f.code = 0x0402 then s.addSat Reg.WVN_THROW_FAIL_DEADLINE 1
    else s
  s.lateFault c f

/-- CREDIT at the source (R325). -/
def creditArrives (s : State) (flow cidx len : Nat) : State :=
  match flowEntry s flow with
  | some f =>
    if f.source then
      let fs := s.flowSt flow
      s.setFlow flow { fs with credits := fs.credits ++ [{ cidx := cidx, len := len, arrived := s.pick }] }
    else s
  | none => s

/-! ### The checkpoint engine's throws (R384 to R386) -/

/-- The checkpoint engine's throw fails, is held, or goes. -/
inductive EngineTry where
  | failed (reason : Nat)
  /-- Held, for credit or for something else. -/
  | waits (credit : Bool)
  | goes (s : State)

/-- Whether a throw of the engine's SEND, or of its drain, is on its way. -/
def engineSending (s : State) (send : Bool) : Bool :=
  s.wvn.flows.any fun p => p.2.throws.any fun t => t.engine.any (·.send == send)

/-- A throw of the checkpoint engine under R324 to R326: its flow's source must be the engine; it waits for the engine's throw
before it, for the slot window and for credit from every catcher; `since` is the pick since which it has waited for credit. -/
def engineThrow (s : State) (flow len : Nat) (send closing : Bool) (data : SMap Byte) (since : Option Nat) : EngineTry :=
  match flowEntry s flow with
  | none => .failed 1
  | some f =>
    let fs := s.flowSt flow
    if !f.source || f.srcLoom != 127 || f.collective then .failed 1
    else if s.sync == 4 then .failed 3
    else if windowShut s || engineSending s send then .waits false
    else if since.any (· + f.creditLife < s.pick) then .failed 6
    else if !creditsReady fs f s.pick then .waits true
    else if creditLenBad fs f s.pick len then .failed 4
    else if !hasPath s f then .failed 2
    else
      let run := throwRun s f len 0 none
      let run := { run with engine := some { send := send, closing := closing, data := data, need := List.range f.ncatch
                                             deadline := run.pLast + f.dlat + f.acklat } }
      .goes { s.admitOn f run with nextId := s.nextId + 1 }

/-- The effects of a rejected throw of the checkpoint engine (R325, R344): the count, and with reason 4 the credits consumed and
FAILED to every catcher. The engine has no stream, so that no CONTEXT record is raised (DESIGN CHOICE, log entry 60). -/
def engineRejected (s : State) (flow reason : Nat) : State :=
  let s := s.addSat Reg.WVN_THROW_CNT_REJECTED 1
  match reason, flowEntry s flow with
  | 4, some f =>
    let fs := s.flowSt flow
    (s.setFlow flow { fs.consume f s.pick with tseq := (fs.tseq + 1) % 2 ^ 32 }).sendAll f 3 fs.tseq 4
  | _, _ => s

/-- What the engine does when its throw has been DELIVERED, or has failed: the closing record of a drain or of a SEND ends it; a
failure fails the drain with reason 4, and ends a SEND (R384 to R386). -/
def engineEnds (s : State) (e : EngineThrow) (failed : Bool) : State :=
  if e.send then if failed || e.closing then s.sendEnds else s
  else if failed then s.drainFails 4
  else if e.closing then s.drainDone
  else s

/-- The LEN of the throw that the checkpoint engine expects next (R385): a granule while it fits in BUDDY_LEN − 64, and after the last
granule of an image, which the header in granule 0 counts, its closing record; none where the granule does not fit. -/
def buddyNext (s : State) : Option Nat :=
  let running := s.flag Reg.RES_BUDDY_STAT_RECEIVING
  let next := if running then s.fld Reg.RES_BUDDY_STAT_GRANULES else 0
  if running && next == s.load ((s.reg Reg.RES_BUDDY_BASE).toNat + 44) 4 then some 64
  else if (next + 1) * granuleSize ≤ s.fld Reg.RES_BUDDY_LEN_LEN - 64 then some granuleSize
  else none

/-- A credit for the next throw posted on each flow that the checkpoint engine catches, where none is out and no throw is being
caught (R384, R385). -/
def buddyCredit (s : State) : State :=
  match buddyNext s, s.wvn.active with
  | some len, some sc =>
    (sc.flows.filter fun f => f.catcher && f.catchLoom == 127).foldl (fun s f =>
      let fs := s.flowSt f.flow
      if fs.lent.isSome || fs.eng.isSome then s
      else (s.setFlow f.flow { fs with lent := some len }).sendRec f.revPort (mkRec 1 f.cidx f.flow 0 len)) s
  | _, _ => s

/-- A closing record that does not come ends the image that was being received: the next throw is granule 0 of another (log entry 60). -/
def State.buddyRestart (s : State) (len : Option Nat) : State :=
  if len = some 64 then s.setFld Reg.RES_BUDDY_STAT_RECEIVING 0 else s

/-- FAILED or EXPIRED where the checkpoint engine catches: the credit or the throw is gone, and another credit is posted. -/
def engineCatchGone (s : State) (flow tseq : Nat) (expired : Bool) : State :=
  let fs := s.flowSt flow
  let lent := expired || !(fs.eng.any (·.tseq == tseq))
  let len := if lent then fs.lent else fs.eng.map (·.len)
  buddyCredit ((s.buddyRestart len).setFlow flow (if lent then { fs with lent := none } else { fs with eng := none }))

/-- A data slot delivered in order to the checkpoint engine (R328, R329, R385). -/
def engineSlot (s : State) (f : FlowEntry) (t : TxSlot) : State :=
  let fs := s.flowSt f.flow
  let tseq := t.hdr.tseq.toNat
  let late (s : State) (e : EngineCatch) : State :=
    buddyCredit (((s.buddyRestart (some e.len)).setFlow f.flow { s.flowSt f.flow with eng := none }).sendRec f.revPort (mkRec 3 f.cidx f.flow tseq 2))
  let cur := if t.hdr.first then
      if fs.lent.isSome then some { tseq := tseq, len := t.hdr.tlen.toNat, cdl := t.hdr.cdl.toNat : EngineCatch } else none
    else fs.eng
  let s := s.setFlow f.flow { fs with lent := if t.hdr.first then none else fs.lent, eng := cur
                                      detoured := (!t.hdr.first && fs.detoured) || t.hdr.detour }
  match cur with
  | none => if t.hdr.first then s.sendRec f.revPort (mkRec 3 f.cidx f.flow tseq 2) else s
  | some e =>
    if e.cdl < s.pick then late s e
    else
      let bs := (t.payload.take t.hdr.valid.toNat).take (e.len - e.got)
      let data := bs.zipIdx.foldl (fun m b => smSet (fun _ => (0 : Byte)) m (e.got + b.2) b.1) e.data
      s.setFlow f.flow { s.flowSt f.flow with eng := some { e with got := e.got + bs.length, data := data } }

/-- A throw of a flow is over. -/
def dropThrow (s : State) (flow cmd : Nat) : State :=
  let fs := s.flowSt flow
  s.setFlow flow { fs with throws := fs.throws.filter (·.cmd != cmd) }

/-- A throw has failed: no later slot of it is sent (R330). -/
def stopThrow (s : State) (flow tseq cmd : Nat) : State :=
  (List.range s.nPorts).foldl (fun s p => s.setPort p ((s.port p).without flow tseq)) (dropThrow s flow cmd)

/-- The fault of a THROW that lacks a DELIVERED at its DEADLINE (R330). -/
def throwLate (s : State) (c : Cmd) (flow tseq : Nat) (need : List Nat) : State :=
  failThrow (stopThrow s flow tseq c.id) c (throwFault 0x0402 2 (need.foldl min (need.headD 0)))

/-- A throw of the checkpoint engine that lacks a DELIVERED at its DEADLINE (R330, R386). -/
def engineLate (s : State) (flow : Nat) (t : ThrowRun) (e : EngineThrow) : State :=
  engineEnds ((stopThrow s flow t.tseq t.cmd).addSat Reg.WVN_THROW_FAIL_DEADLINE 1) e true

/-- DELIVERED for a throw of the checkpoint engine (R330, R384). -/
def engineDelivered (s : State) (flow cidx tseq : Nat) : State :=
  match (s.flowSt flow).throws.find? fun t => t.tseq == tseq with
  | some t =>
    match t.engine with
    | some e =>
      let left := e.need.filter (· != cidx)
      if e.deadline < s.pick then engineLate s flow t e
      else if left.isEmpty then engineEnds (dropThrow s flow t.cmd) e false
      else
        let fs := s.flowSt flow
        s.setFlow flow { fs with throws := fs.throws.map fun x => if x = t then { t with engine := some { e with need := left } } else x }
    | none => s
  | none => s

/-- DELIVERED at the source (R330): the THROW retires with the last catcher's record, or has failed when that comes after its
DEADLINE (R5). -/
def deliveredArrives (s : State) (flow cidx tseq : Nat) : State :=
  match s.cmds.find? fun c => match c.phase with | .throwing f t _ _ => f == flow && t == tseq | _ => false with
  | none => engineDelivered s flow cidx tseq
  | some c =>
    match c.phase with
    | .throwing f t d need =>
      let left := need.filter (· != cidx)
      if d < s.pick then throwLate s c f t need
      else if left.isEmpty then (dropThrow s flow c.id).retire c
      else s.setCmd { c with phase := .throwing f t d left }
    | _ => s

/-- The posted CATCHes from the first whose throw is still to come. -/
def FlowSt.trim (f : FlowSt) : FlowSt :=
  let n := (f.posted.takeWhile Option.isNone).length
  { f with posted := f.posted.drop n, headTseq := (f.headTseq + n) % 2 ^ 32 }

/-- The place of a throw number among the posted CATCHes. -/
def FlowSt.place (f : FlowSt) (tseq : Nat) : Nat := (tseq + 2 ^ 32 - f.headTseq) % 2 ^ 32

/-- A CATCH faults for a record, where it is still in flight. -/
def endCatch (s : State) (id : Option Nat) (fault : LateFault) : State :=
  match id.bind s.cmd? with
  | some c => failThrow s c fault
  | none => s

/-- The throw number of the CATCH being written. -/
def curTseq (s : State) (fs : FlowSt) : Option Nat :=
  (fs.cur.bind s.cmd?).bind fun c => match c.phase with | .catching _ _ _ t _ _ _ => some t | _ => none

/-- FAILED at a catcher (R329): the CATCH that the record's throw is written into, or would have been. -/
def failedArrives (s : State) (flow tseq reason : Nat) : State :=
  let fs := s.flowSt flow
  let fault := throwFault 0x0401 reason flow
  match (flowEntry s flow).filter (·.catcher) with
  | none => s
  | some f =>
    if f.catchLoom == 127 then engineCatchGone s flow tseq false
    else if curTseq s fs = some tseq then endCatch (s.setFlow flow { fs with cur := none }) fs.cur fault
    else
      let k := fs.place tseq
      endCatch (s.setFlow flow ({ fs with posted := fs.posted.set k none }).trim) (fs.posted.getD k none) fault

/-- EXPIRED at a catcher (R329): the oldest CATCH whose credit no throw has consumed; the record's TSEQ is the number of the
flow's next throw (log entry 36). -/
def expiredArrives (s : State) (flow tseq : Nat) : State :=
  let fs := s.flowSt flow
  match (flowEntry s flow).filter (·.catcher) with
  | none => s
  | some f =>
    let k := fs.place tseq
    if f.catchLoom == 127 then engineCatchGone s flow tseq true
    else endCatch (s.setFlow flow ({ fs with posted := fs.posted.eraseIdx k }).trim) (fs.posted.getD k none) (throwFault 0x0402 1 flow)

/-- A record that arrives on a port (R316): consumed at its end, else passed on toward it. -/
def recArrives (s : State) (port : Nat) (r : FlowRec) : State :=
  let flow := r.flow.toNat
  match flowEntry s flow with
  | none => s
  | some f =>
    if port = f.inPort ∨ port = f.altIn then
      let s := if f.catcher && r.cidx.toNat == f.cidx then
          (if r.kind = 3 then failedArrives s flow r.tseq.toNat (r.arg.toNat % 256)
           else if r.kind = 4 then expiredArrives s flow r.tseq.toNat else s)
        else s
      if f.transit then s.sendDown f r else s
    else if f.source then
      (if r.kind = 1 then creditArrives s flow r.cidx.toNat r.arg.toNat
       else if r.kind = 2 then deliveredArrives s flow r.cidx.toNat r.tseq.toNat else s)
    else s.sendRec f.revPort r

/-- CREDIT_LIFE runs out for the oldest credit of a catcher (R325). -/
def creditExpires (s : State) (flow cidx : Nat) : State :=
  match flowEntry s flow with
  | none => s
  | some f =>
    let fs := s.flowSt flow
    match fs.credits.find? (·.cidx == cidx) with
    | some x =>
      if f.source && !x.live s.pick f.creditLife then
        (s.setFlow flow { fs with credits := fs.credits.erase x }).sendDown f (mkRec 4 cidx flow fs.tseq 1)
      else s
    | none => s

/-- A THROW has waited more than CREDIT_LIFE picks for credit (R325). -/
def creditWaitOver (s : State) (loom stream : Nat) : State :=
  let t := s.stream loom stream
  match t.hold, t.queue with
  | some (.credit, since), .slot i (.throwTo src fc len) :: _ =>
    match flowEntry s (i.flow fc) with
    | some f =>
      if since + f.creditLife < s.pick then
        let r := throwReject 6 f.flow (some src)
        (rejectEffects s i (.throwTo src fc len) r).rejectAt i (r.named (.throwTo src fc len))
      else s
    | none => s
  | _, _ => s

/-! ### Deadlines and delivery (R328 to R330) -/

/-- The throw of the checkpoint engine that an identity names, with its flow. -/
def engineOf (s : State) (id : Nat) : Option (Nat × ThrowRun × EngineThrow) :=
  s.wvn.flows.findSome? fun p => (p.2.throws.find? (·.cmd == id)).bind fun t => t.engine.map fun e => (p.1, t, e)

/-- Whether an identity names a throw of the checkpoint engine. -/
def engineId (s : State) (id : Nat) : Bool := (engineOf s id).isSome

/-- THROW_DEADLINE_EXPIRY (R330), of a THROW or of a throw of the checkpoint engine. -/
def throwDeadline (s : State) (id : Nat) : State :=
  match engineOf s id with
  | some (flow, t, e) => if e.deadline ≤ s.pick then engineLate s flow t e else s
  | none =>
  match s.cmd? id with
  | some c =>
    match c.phase with
    | .throwing flow t d need => if d ≤ s.pick then throwLate s c flow t need else s
    | _ => s
  | none => s

/-- The fault of a CATCH whose throw is not complete at CDL: FAILED with reason 2 goes back (R329). -/
def catchLate (s : State) (c : Cmd) (flow tseq : Nat) : State :=
  let fs := s.flowSt flow
  let s := if fs.cur = some c.id then s.setFlow flow { fs with cur := none } else s
  let s := match flowEntry s flow with
    | some f => s.sendRec f.revPort (mkRec 3 f.cidx flow tseq 2)
    | none => s
  failThrow s c (throwFault 0x0402 2 flow)

/-- CATCH_DEADLINE_EXPIRY (R329): no FIRST slot by its timeout, or not complete at CDL. -/
def catchDeadline (s : State) (id : Nat) : State :=
  match s.cmd? id with
  | some c =>
    match c.phase with
    | .catching flow len timeout tseq _ cdl got =>
      match cdl with
      | some d => if d < s.pick ∨ (d = s.pick ∧ got < len) then catchLate s c flow tseq else s
      | none => if timeout ≤ s.pick then failThrow s c (throwFault 0x0402 1 flow) else s
    | _ => s
  | none => s

/-- The digest words of a CATCH: the elements that its bytes touch, in order (R367; log entry 16). -/
def catchWords (s : State) (d : Operand) (len : Nat) : List (Nat × Nat × Nat) :=
  (List.range (min d.total (ceilDiv (8 * len) d.fmt.bits))).map fun e => (0, e, readElem s d e)

/-- CATCH_DELIVERY_COMPLETE (R329): every byte is written; the CATCH retires and DELIVERED goes back. After CDL it has failed. -/
def catchComplete (s : State) (id : Nat) : State :=
  match s.cmd? id with
  | some c =>
    match c.phase with
    | .catching flow len _ tseq dst cdl got =>
      if len ≤ got && !c.draining then
        if cdl.any (· < s.pick) then catchLate s c flow tseq
        else
          let fs := s.flowSt flow
          let s := s.setFlow flow { fs with cur := none, detoured := false }
          let s := if fs.detoured then s.addSat Reg.WVN_THROW_FAIL_DETOURED 1 else s
          let s := match flowEntry s flow with
            | some f => s.sendRec f.revPort (mkRec 2 f.cidx flow tseq 0)
            | none => s
          let c := { c with plan := { c.plan with words := catchWords s dst len } }
          (s.setCmd c).retire c
      else s
    | _ => s
  | none => s

/-- The flow at its catcher when a FIRST slot comes: its CATCH is the one that its throw number finds (R328). -/
def FlowSt.begin (f : FlowSt) (tseq : Nat) : FlowSt :=
  let k := f.place tseq
  { f with cur := f.posted.getD k none, posted := f.posted.drop (k + 1), headTseq := (tseq + 1) % 2 ^ 32, detoured := false }.trim

/-- One data slot delivered in order at a catcher (R328): into the CATCH that its throw is matched with, until CDL (R329). -/
def deliverSlot (s : State) (f : FlowEntry) (t : TxSlot) : State :=
  if f.catchLoom == 127 then engineSlot s f t else
  let fs := s.flowSt f.flow
  let fs := if t.hdr.first then fs.begin t.hdr.tseq.toNat else fs
  let s := s.setFlow f.flow { fs with detoured := fs.detoured || t.hdr.detour }
  match fs.cur.bind s.cmd? with
  | some c =>
    match c.phase with
    | .catching flow len timeout _ dst _ got =>
      if c.draining then s
      else if t.hdr.cdl.toNat < s.pick then catchLate s c flow t.hdr.tseq.toNat
      else
        let bs := (t.payload.take t.hdr.valid.toNat).take (len - got)
        let ws : List BWrite := bs.zipIdx.map fun (b, k) => { addr := entryAddr dst.w0 (got + k), mask := 0xFF, val := b }
        (s.store ws).setCmd
          { c with phase := .catching flow len timeout t.hdr.tseq.toNat dst (some t.hdr.cdl.toNat) (got + bs.length) }
    | _ => s
  | none => if t.hdr.first then s.sendRec f.revPort (mkRec 3 f.cidx f.flow t.hdr.tseq.toNat 2) else s

/-- A slot delivered in its order: the catcher expects the next SEQ (R328). -/
def takeSlot (s : State) (f : FlowEntry) (t : TxSlot) : State :=
  let fs := s.flowSt f.flow
  deliverSlot (s.setFlow f.flow
    { fs with ahead := fs.ahead.erase t, expect := (fs.expect + 1) % 2 ^ 32, delivered := fs.delivered + 1 }) f t

/-- The slots held ahead that are now in order (at most sixteen). -/
def deliverAhead (f : FlowEntry) : Nat → State → State
  | 0, s => s
  | n + 1, s =>
    let fs := s.flowSt f.flow
    match fs.ahead.find? fun x => x.hdr.seq.toNat == fs.expect with
    | some t => deliverAhead f n (takeSlot s f t)
    | none => s

/-- A data slot reaches its catcher (R328): in order, up to 16 ahead, a duplicate of one delivered, or outside the window. -/
def catchSlot (s : State) (f : FlowEntry) (t : TxSlot) : State :=
  let fs := s.flowSt f.flow
  let d := (t.hdr.seq.toNat + 2 ^ 32 - fs.expect) % 2 ^ 32
  if d = 0 then deliverAhead f 16 (takeSlot s f t)
  else if d ≤ 16 then
    if fs.ahead.any fun x => x.hdr.seq == t.hdr.seq then s else s.setFlow f.flow { fs with ahead := fs.ahead ++ [t] }
  else if 2 ^ 31 ≤ d ∧ 2 ^ 32 - d ≤ fs.delivered then s
  else s.advise 0x0406 f.flow t.hdr.seq.toNat

/-! ### Collectives complete (R333, R334) -/

/-- A leaf as it enters a tree of a precision (R151): a binary64 leaf is rounded once to FP32 for an FP32 tree, and an FP32 leaf
enters a binary64 tree exactly. -/
def leafCode (tree32 leaf32 : Bool) (code : Nat) : Nat :=
  if tree32 = leaf32 then code
  else if tree32 then (fp32.round .rne (fp64.decode code)).code
  else (fp64.round .rne (fp32.decode code)).code

/-- What SUM, MAX or MIN gives for one element, over the ranks in order (R149, R333). -/
def combine (op : Nat) (f : FFmt) (codes : List Nat) : Nat :=
  match op with
  | 0 => (treeSum f codes).1
  | _ => match codes with
    | [] => 0
    | c :: cs =>
      (f.round .rne (cs.foldl (fun v x => if op = 1 then v.max (f.decode x) else v.min (f.decode x)) (f.decode c))).code

/-- The elements of OUT that a collective writes (R333), from its members' parts. -/
def collOut (s : State) (h : Coll) (parts : List CollPart) : List (Nat × Nat) :=
  let part (r : Nat) : CollPart := (parts.find? (·.rank == r)).getD h.mine
  let ps := (List.range h.nmemb).map part
  let es := rangeElems h.ranges
  let f := if h.fp32 then fp32 else fp64
  let body := match h.op with
    | 3 => ps.flatMap (·.elems) |>.zipIdx.map fun (v, k) => (k, v)
    | 4 => es.zipIdx.map fun (e, k) => (e, (part 0).elems.getD k 0)
    | op => es.zipIdx.map fun (e, k) => (e, combine op f (ps.map fun p => leafCode h.fp32 p.fp32 (p.elems.getD k 0)))
  if h.stepchk then
    let w := 2 ^ h.out.fmt.bits
    let old := ((body.reverse.find? (·.1 == 1)).map (·.2)).getD (readElem s h.out (h.out.logOff 1))
    let mix := bit (ps.any fun p => p.elem0 != h.step % w)
    body ++ [(0, h.step % w), (1, setBits old 0 0 mix)]
  else body

/-- Whether a part that a loom has handed to the engine is for a collective of loom `me`: it is that loom's, its MLIST names `me`, it is
live and not met yet. -/
def LocalPart.names (x : LocalPart) (s : State) (me loom : Nat) : Bool :=
  x.loom == loom && x.members.contains me && decide (s.pick ≤ x.deadline) && !x.met.contains me

/-- Whether such a part is of the collective that begins at START: each loom throws on a flow of its own (R319), so that the members of
one collective over looms have MLIST and START in common (DESIGN CHOICE, log entry 37). -/
def LocalPart.meets (x : LocalPart) (s : State) (me loom start : Nat) : Bool := x.names s me loom && x.start == start

/-- The other ranks of a collective over looms, each with the loom that MLIST names for it (R332). -/
def Coll.others (h : Coll) : List (Nat × Nat) := ((List.range h.nmemb).filter (· != h.rank)).map fun r => (r, h.members.getD r 0)

/-- The parts of the other members, each with its header's digest: over devices those that the collective's slots brought; over
looms of this device the next that the member at each position of MLIST has handed to the engine, with that position as its rank
(R150, R332, R334). -/
def collParts (s : State) (me : Nat) (h : Coll) (brought : List (CollPart × Nat)) : List (CollPart × Nat) :=
  if h.scope then
    h.others.filterMap fun r => (s.wvn.local_.find? (·.meets s me r.2 h.start)).map fun x => ({ x.part with rank := r.1 }, x.digest)
  else brought

/-- The next part of a loom as loom `me` has met it. -/
def meetPart (s : State) (me loom start : Nat) (l : List LocalPart) : List LocalPart :=
  match l.find? (·.meets s me loom start) with
  | some x => l.map fun y => if y = x then { x with met := x.met ++ [me] } else y
  | none => l

/-- The parts over looms that a collective has met are not met again by its loom. -/
def meetParts (s : State) (me : Nat) (h : Coll) : State :=
  if h.scope then
    { s with wvn := { s.wvn with local_ := h.others.foldl (fun l r => meetPart s me r.2 h.start l) s.wvn.local_ } }
  else s

/-- Whether a member over looms has handed in a part for a collective with this loom whose header differs, in START as well (R334). -/
def headersDiffer (s : State) (me : Nat) (h : Coll) : Bool :=
  h.scope && h.others.any fun r => s.wvn.local_.any fun x => x.names s me r.2 && x.digest != h.digest

/-- The entries that come with the elements a GATHER or BCAST writes, by block of a block-scaled OUT (R90, R333). -/
def collScales (h : Coll) (parts : List CollPart) : List (Nat × Nat) :=
  let part (r : Nat) : CollPart := (parts.find? (·.rank == r)).getD h.mine
  let src : List (Nat × Nat) := match h.op with
    | 3 => ((List.range h.nmemb).flatMap fun r => (part r).scales).zipIdx.map fun (v, k) => (k, v)
    | _ => (rangeElems h.ranges).zipIdx.map fun (e, k) => (e, (part 0).scales.getD k 0)
  src.map fun (e, v) => (h.out.blockOf (coordsOf h.out.exts e), v)

/-- The entry of block `b` in a frame that a collective writes (log entry 16): the one entry that its elements came with, a
free value where they came with several, and the entry it has where no element of it is written. -/
def collEntry (s : State) (h : Coll) (scs : List (Nat × Nat)) (b : Nat) : Nat :=
  match (scs.filter (·.1 == b)).map (·.2) with
  | [] => rawEntry s h.out b
  | x :: rest => if rest.all (· == x) then x else Config.mixedEntry (entryAddr h.out.m0 (64 * (b / 30) + 4 + 2 * (b % 30))) % 2 ^ 16

/-- What a collective writes: its elements of OUT, and the whole frames of a block-scaled OUT that they touch (R90, R333). -/
def collWrites (s : State) (h : Coll) (parts : List CollPart) : List BWrite :=
  let ps := h.mine :: parts
  let scs := if h.out.scaled then collScales h ps else []
  (collOut s h ps).flatMap (fun (e, v) => h.out.put (h.out.logOff e) v) ++
  (nubNat (scs.map (·.1 / 30))).flatMap fun f => frameWrites h.out f (collEntry s h scs)

/-- The fault of a collective whose OUT is not complete at DEADLINE (R334): headers that differ have been found by then. -/
def collLate (s : State) (c : Cmd) (h : Coll) : State :=
  if headersDiffer s c.loom h then failThrow s c (throwFault 0x0401 5 h.flow)
  else (failThrow s c (throwFault 0x0402 3 h.flow)).countEvent (5 + s.dieOf c.loom) 4 0 1

/-- COLLECTIVE_COMPLETE (R333, R334): with every member's part by DEADLINE, OUT is written and the THROW retires; where the
members' header digests differ, the THROW faults. -/
def collComplete (s : State) (id : Nat) (brought : List (CollPart × Nat)) : State :=
  match s.cmd? id with
  | some c =>
    match c.phase with
    | .collective h d =>
      let told := collParts s c.loom h brought
      let parts := told.map (·.1)
      let all := parts ++ [h.mine]
      let n := (h.ranges.map (·.2)).sum
      if s.pick < h.start then s
      else if d < s.pick then collLate s c h
      else if told.any (·.2 != h.digest) then failThrow (meetParts s c.loom h) c (throwFault 0x0401 5 h.flow)
      else if c.frames.isEmpty && (List.range h.nmemb).all fun r => all.any fun p =>
          p.rank == r && p.elems.length == n && (!h.out.scaled || p.scales.length == n) then
        let c := { c with plan := { c.plan with writes := collWrites s h parts } }
        (((meetParts s c.loom h).setCmd c).retire c).countEvent (5 + s.dieOf c.loom) 2 0 1
      else s
    | _ => s
  | none => s

/-- COLLECTIVE_DEADLINE_EXPIRY (R334). -/
def collDeadlineOver (s : State) (id : Nat) : State :=
  match s.cmd? id with
  | some c =>
    match c.phase with
    | .collective h d =>
      if d ≤ s.pick then collLate s c h else s
    | _ => s
  | none => s

end Sys2Proof.Machine
end

