-- ==== Sys2Proof/Machine/Time.lean ====
section
/-! DEFINITION. Time: the pick counter, the election of a grandmaster, the delay exchange, discipline and the sync states
(R41 to R62). -/
namespace Sys2Proof.Machine

/-! ### The counter (R41 to R43, R53, R58) -/

/-- The time, in FRAC units (R41). -/
def State.now (s : State) : Nat := 65536 * s.time.pick + s.time.frac
/-- The time in units of 2^-32 picks, the unit of FREQ_ADJ (R62). -/
def State.fine (s : State) : Nat := 2 ^ 32 * s.time.pick + 65536 * s.time.frac + s.time.sub
/-- The counter set to a time in units of 2^-32 picks, with what is left of a period of the local clock. -/
def State.setFine (s : State) (t rest : Nat) : State :=
  let p := t / 2 ^ 32
  { s with time := { s.time with
      pick := p, frac := t / 65536 % 65536, sub := t % 65536, rest := rest
      shedAt := if shedOf p = shedOf s.time.pick then s.time.shedAt else p } }
/-- The counter set to a time in FRAC units. -/
def State.setNow (s : State) (t : Nat) : State := s.setFine (65536 * t) 0

/-- A port's memory of when something happened, moved on with a step of the counter. -/
def PortSt.rebase (x : PortSt) (picks sheds : Nat) : PortSt :=
  { x with
      heard := x.heard + picks, trainAt := x.trainAt + picks, retryAt := x.retryAt + picks
      keyShed := x.keyShed + sheds, badTags := x.badTags.map (· + sheds) }

/-- A queue pair's memory of when something happened, moved on with a step of the counter. -/
def QpSt.rebase (x : QpSt) (picks : Nat) : QpSt :=
  { x with out := x.out.map fun r => { r with sentAt := r.sentAt + picks }, cnpAt := x.cnpAt.map (· + picks) }

/-- The times of the host ports and of Grembedun, moved on with a step of the counter. -/
def State.rebaseHost (s : State) (picks : Nat) : State :=
  { s with
      host := { s.host with qps := s.host.qps.map fun q => (q.1, q.2.rebase picks)
                            pausedTo := s.host.pausedTo.map fun q => (q.1, q.2 + picks) }
      mgmt := { s.mgmt with mismatches := s.mgmt.mismatches.map (· + picks)
                            xfer := s.mgmt.xfer.map fun x => { x with at_ := x.at_ + picks } } }

/-- A step is no time that has passed: what lasts for a time (the 2 s of R45, the sheds of R46 and R49, the exchanges of R56, the
waits of R336, the timers of R346, R350 and R351, the 60 s of R451, the 10 s of R460) goes on from where it stood (log entry 50). -/
def State.rebase (s : State) (picks sheds : Nat) : State :=
  let s := s.rebaseHost picks
  let t := s.time
  let s := { s with time := { t with
    lastPps := t.lastPps.map (· + picks), lastGood := t.lastGood + picks, stableSince := t.stableSince + sheds
    lastKeyShed := t.lastKeyShed + sheds, ann := t.ann.map fun x => (x.1, x.2.map fun a => { a with shed := a.shed + sheds }) } }
  (List.range s.nPorts).foldl (fun s p => s.setPort p ((s.port p).rebase picks sheds)) s

/-- A correction to another clock's time: a step forward, or a hold until that time passes the counter (R53, R58). -/
def State.stepTo (s : State) (t : Nat) : State :=
  if s.now ≤ t then
    let s' := ({ s with time := { s.time with holdTo := none } }).setNow t
    s'.rebase (s'.pick - s.pick) (shedOf s'.pick - shedOf s.pick)
  else { s with time := { s.time with holdTo := some (s.now - t) } }

/-- The two's complement of 32 bits, saturating (R62). -/
def sat32 (z : Int) : Nat := ofSigned 32 (max (-2147483648) (min 2147483647 z))
/-- A rate correction held to 100 ppm, in units of 2^-32 (R53). -/
def clampRate (z : Int) : Int := max (-429496) (min 429496 z)

/-- SYNC_STAT STATE set. A state other than HOLDOVER counts no HOLDOVER_ELAPSED, one other than LOCKED has no good exchanges yet;
leaving LOCKED shows (R54, R55, R62). -/
def State.setSync (s : State) (st : Nat) : State :=
  let s := if st = 2 then s else { s with time := { s.time with good := 0 } }
  let s := if s.sync = 2 ∧ st ≠ 2 then s.setFld Reg.TIME_EVENTS_LOCKED_LOST 1 else s
  let s := if s.sync = st then s else s.stateEvent 133 st
  let s := (s.setFld Reg.TIME_HOLDOVER_ELAPSED_ELAPSED 0).setFld Reg.TIME_SYNC_STAT_STATE st
  if st = 3 then s.setFld Reg.TIME_EVENTS_HOLDOVER_ENTERED 1
  else if st = 4 then s.setFld Reg.TIME_EVENTS_UNSYNC_ENTERED 1
  else s

/-! ### Election (R45, R46, R49) -/

/-- Whether the device is grandmaster-capable (R45). -/
def State.capable (s : State) : Bool :=
  s.flag Reg.TIME_TOD_CTL_PPS_PRESENT && s.flag Reg.TIME_TOD_CTL_TOD_SET && decide (s.fld Reg.TIME_PRIO_OWN_PRIORITY < 255)

/-- The device's election key (R45). -/
def State.ownKey (s : State) : Nat :=
  s.fld Reg.TIME_PRIO_OWN_PRIORITY * 2 ^ 128 + (s.reg Reg.GCTL_UID1).toNat * 2 ^ 64 + (s.reg Reg.GCTL_UID0).toNat

/-- What a port's last announce cell offered. -/
def State.offer (s : State) (p : Nat) : Option Announce := smGet (fun _ => none) s.time.ann p

/-- The better of an offer already chosen and a port's: the lower key, then fewer hops, then the lower port (R46). -/
def betterOffer (best : Option (Nat × Announce)) (p : Nat) (a : Announce) : Option (Nat × Announce) :=
  match best with
  | none => some (p, a)
  | some (q, b) => if a.key < b.key ∨ (a.key = b.key ∧ a.hops < b.hops) then some (p, a) else some (q, b)

/-- The port that offers the lowest key, with its offer (R46). -/
def State.bestOffer (s : State) : Option (Nat × Announce) :=
  (List.range s.nPorts).foldl (fun b p => match s.offer p with | some a => betterOffer b p a | none => b) none

/-- PARENT_PORT set, with the event and the roles it changes (R62). -/
def State.setParent (s : State) (p : Nat) : State :=
  let old := s.fld Reg.TIME_SYNC_STAT_PARENT_PORT
  if old = p then s
  else
    let s := if old < s.nPorts then s.setFld (Reg.TIME_PTIME_ROLE old) 3 else s
    let s := if p < s.nPorts then s.setFld (Reg.TIME_PTIME_ROLE p) 1 else s
    (s.setFld Reg.TIME_SYNC_STAT_PARENT_PORT p).setFld Reg.TIME_EVENTS_PARENT_CHANGED 1

/-- The best key known, taken over: identity, priority, hops and the changes counted (R46, R62). -/
def State.setBest (s : State) (b : Option (Nat × Nat)) : State :=
  let changed := s.time.best.map (·.1) ≠ b.map (·.1)
  let s := { s with time := { s.time with best := b } }
  let s := s.setFld Reg.TIME_SYNC_STAT_HOPS ((b.map (·.2)).getD 0)
  if changed then
    let key := (b.map (·.1)).getD (255 * 2 ^ 128)
    let s := { s with time := { s.time with stableSince := shedOf s.pick, lastKeyShed := shedOf s.pick } }
    ((((s.setReg Reg.TIME_GM_ID_LO (BitVec.ofNat 64 key)).setReg Reg.TIME_GM_ID_HI (BitVec.ofNat 64 (key / 2 ^ 64))).setFld
      Reg.TIME_PRIO_GM_PRIORITY (key / 2 ^ 128)).setFld Reg.TIME_EVENTS_GM_CHANGED 1).addSat Reg.TIME_GM_CHANGES_COUNT 1
  else s

/-- The election settled again from what is known (R45, R46): a grandmaster that is no longer the best leaves that state
and runs on (R49); a device that is not grandmaster takes its parent from the best offer. -/
def State.elect (s : State) : State :=
  let s := s.setFld Reg.TIME_SYNC_STAT_GM_CAPABLE (bit s.capable)
  let off := s.bestOffer
  let own := s.capable && (match off with | some (_, a) => decide (s.ownKey ≤ a.key) | none => true)
  if own then s.setBest (some (s.ownKey, 0))
  else
    let s := s.setBest (off.map fun (_, a) => (a.key, a.hops + 1))
    let s := if s.sync = 5 then s.setSync 3 else s
    match off with
    | some (p, _) => s.setParent p
    | none => s

/-- Whether the device's own key is the best and has not changed for 32 whole sheds after the one in which it changed (R45,
R46). -/
def State.ownSettled (s : State) : Bool :=
  s.capable && s.time.best == some (s.ownKey, 0) && decide (s.time.stableSince + 33 ≤ shedOf s.pick)

/-- Whether the TIME bring-up phase has begun (R43, R53). -/
def State.timePhase (s : State) : Bool := decide (6 ≤ s.fld Reg.GCTL_DEV_STATE_PHASE)

/-- A synchronised device that has settled on itself becomes grandmaster, without a step (R45, R49). -/
def State.becomeGrandmaster (s : State) : State :=
  if s.ownSettled && s.time.synced && s.timePhase && s.sync != 5 then
    let s := s.setParent 31
    (if s.sync = 1 ∨ s.sync = 4 then { s with wvn := { s.wvn with dataFrom := shedOf s.pick + 1 } } else s).setSync 5
  else s

/-- Whether a port sends slots in its state (R313, R335): with keys agreed, and trained. A port in AUTH carries control cells until
data slots begin (R428). -/
def slotsRun (s : State) (port : Nat) : Bool :=
  decide (port < s.nPorts) && (s.port port).keyed && decide (2 ≤ s.portState port)

/-- ANNOUNCE_CELL_SEND (R46): the cells of a shed, which the slot with index 0 carries (R313), and no slot of a hold (R314). The
sequence number is the grandmaster's own, or the one last heard; a device that knows no key sends cells whose key is open (log
entry 1). -/
def announceSend (s : State) : State :=
  if !s.boot.on || s.pick % 8192 != 0 || s.time.holdTo.isSome || s.time.announced == some (shedOf s.pick) then s
  else
    let s := s.becomeGrandmaster
    let ports := (List.range s.nPorts).filter (slotsRun s)
    let own := s.time.best == some (s.ownKey, 0) && s.capable
    let seq := (if own then s.time.announceSeq + 1 else s.time.announceSeq) % 2 ^ 32
    let s := { s with time := { s.time with announceSeq := seq, announced := some (shedOf s.pick)
                                            lastKeyShed := if own then shedOf s.pick else s.time.lastKeyShed } }
    let put (s : State) (key hops : Nat) : State :=
      ports.foldl (fun s p => s.setPort p { s.port p with announce := some (key, hops, seq) }) s
    match s.time.best with
    | some (key, hops) => put s key hops
    | none => put s.free.2 (s.free.1 % 2 ^ 136) 0

/-- ANNOUNCE_CELL_RECEIVE (R46): what a port offers; a new sequence number of the best key keeps it alive (R49). A key that was
dropped is an offer again in any later cell, whatever its sequence number (DESIGN CHOICE, log entry 50). A port that is not the
parent serves a child when its partner answers delay requests and announces this device's best key one hop further away, as a
device with this one as its parent does, and is passive else (R48, R62; DESIGN CHOICE, log entry 51). -/
def announceArrives (s : State) (p key hops seq : Nat) : State :=
  if p < s.nPorts && (s.port p).keyed then
    let ahead := (seq + 2 ^ 32 - s.time.announceSeq) % 2 ^ 32
    let fresh := (decide (0 < ahead) && decide (ahead < 2 ^ 31)) || (s.time.best.map (·.1)) != some key
    let mine := key == s.ownKey && s.capable
    let s := { s with time := { s.time with ann := smSet (fun _ => none) s.time.ann p (some { key := key, hops := hops, seq := seq, shed := shedOf s.pick }) } }
    let s := s.elect
    let s := if (s.time.best.map (·.1)) == some key && fresh && !mine then
        { s with time := { s.time with announceSeq := seq, lastKeyShed := shedOf s.pick } }
      else s
    let served := (s.port p).served && s.time.best == some (key, hops - 1) && hops != 0
    let s := s.setPort p { s.port p with served := false }
    if s.fld Reg.TIME_SYNC_STAT_PARENT_PORT = p then s else s.setFld (Reg.TIME_PTIME_ROLE p) (if served then 2 else 3)
  else s

/-- Every offer of a key dropped. -/
def State.dropKey (s : State) (key : Nat) : State :=
  { s with time := { s.time with ann := s.time.ann.filter fun x => x.2.map (·.key) != some key } }

/-- GRANDMASTER_LOST (R49): eight whole sheds, after the one in which it last came, without the best key and a new sequence
number. -/
def grandmasterGone (s : State) : State :=
  match s.time.best with
  | some (key, _) =>
    if s.sync != 5 && decide (s.time.lastKeyShed + 9 ≤ shedOf s.pick) && !(key == s.ownKey && s.capable) then (s.dropKey key).elect else s
  | none => s

/-! ### PPS_IN and TOD (R45, R47, R61, R62) -/

/-- One second in FRAC units. -/
def secondUnits : Nat := 7812500 * 65536

/-- The second that a PPS_IN edge marks: the armed one, else the whole seconds after the last edge (R47). -/
def State.edgeSecond (s : State) : Option Nat :=
  match s.time.todSecond, s.time.lastPps with
  | some n, some p => some (n + max 1 ((s.pick - p + 3906250) / 7812500))
  | some n, none => some (n + 1)
  | none, _ => none

/-- The error of a grandmaster against PPS_IN corrected by rate (R47, R53); OFFSET keeps the last offset to a parent (R62). -/
def State.disciplinePps (s : State) (sec : Nat) : State :=
  let off : Int := (s.now : Int) - ((sec * secondUnits : Nat) : Int)
  let adj := clampRate (Config.servoAdjust off (toSigned 32 (s.fld Reg.TIME_FREQ_ADJ_ADJ)))
  s.setFld Reg.TIME_FREQ_ADJ_ADJ (ofSigned 32 adj)

/-- A TOD applied or refused is logged (R468). -/
def State.logTod (s : State) (sec : Nat) (ok : Bool) : State := s.logEvent 0x000B 0xFF (leBytes 8 sec ++ leBytes 1 (bit ok))

/-- The armed TOD at an edge: a running grandmaster refuses one more than 1 ms away. -/
def State.applyTod (s : State) : State :=
  let sec := s.fld Reg.TIME_TOD_SEC_SEC
  let s := { s with time := { s.time with armed := false } }
  let away : Int := (s.now : Int) - ((sec * secondUnits : Nat) : Int)
  if s.sync = 5 ∧ (512000000 < away ∨ away < -512000000) then
    ((({ s with time := { s.time with todSecond := s.edgeSecond } }).setFld Reg.TIME_EVENTS_TOD_REFUSED 1)).logTod sec false
  else (({ s with time := { s.time with todSecond := some sec } }).setFld Reg.TIME_TOD_CTL_TOD_SET 1).logTod sec true

/-- The least number of picks between two accepted edges of PPS_IN: 900 ms (R495). -/
def ppsHoldOff : Nat := 7031250

/-- Whether an edge of PPS_IN comes too soon after the last that was accepted (R495). -/
def State.ppsTooSoon (s : State) : Bool := s.time.lastPps.any fun p => decide (s.pick < p + ppsHoldOff)

/-- PPS_IN_EDGE (R45, R47, R495): an edge less than 900 ms after the last accepted one is ignored; an accepted edge marks a second; the first synchronisation of a grandmaster steps its counter in the
TIME phase, a running grandmaster is disciplined. -/
def ppsEdge (s : State) : State :=
  if !s.boot.on || s.ppsTooSoon then s
  else
    let s := if s.time.armed then s.applyTod else { s with time := { s.time with todSecond := s.edgeSecond } }
    let s := ({ s with time := { s.time with lastPps := some s.pick } }).setFld Reg.TIME_TOD_CTL_PPS_PRESENT 1
    let s := s.elect
    match s.time.todSecond with
    | none => s
    | some sec =>
      if s.sync = 5 then s.disciplinePps sec
      else if s.ownSettled && !s.time.synced && s.timePhase then
        let s := (s.setParent 31).setSync 5
        let s := { s with time := { s.time with synced := true, best := some (s.ownKey, 0) } }
        s.stepTo (sec * secondUnits)
      else s.becomeGrandmaster

/-- PPS_PRESENT_EXPIRY (R45). -/
def ppsExpires (s : State) : State :=
  match s.time.lastPps with
  | some p => if s.flag Reg.TIME_TOD_CTL_PPS_PRESENT && decide (p + 15625000 ≤ s.pick) then (s.setFld Reg.TIME_TOD_CTL_PPS_PRESENT 0).elect else s
  | none => s

/-- PPS_OUT_PULSE (R61). -/
def ppsPulse (s : State) : State :=
  if s.pick % 7812500 = 0 ∧ (s.sync = 2 ∨ s.sync = 3 ∨ s.sync = 5) ∧ s.time.ppsOut ≠ some s.pick then
    ({ s with time := { s.time with ppsOut := some s.pick } }).out .ppsOut
  else s

/-- What drives a pin (R495, R496). -/
inductive Drive where
  | undriven
  | low
  | high
  deriving DecidableEq, Repr

/-- An output of the device: undriven in OFF (R496). -/
def State.drives (s : State) (high : Bool) : Drive := if !s.boot.on then .undriven else if high then .high else .low

/-- PPS_OUT (R61, R495): high for 1 µs from the pulse's pick on, in whole picks 8 (log entry 7), and low in every other state from MGMT
on. -/
def State.ppsPin (s : State) : Drive :=
  s.drives ((s.sync == 2 || s.sync == 3 || s.sync == 5) && s.time.ppsOut.any fun p => decide (p ≤ s.pick) && decide (s.pick < p + 8))
/-- SHDN_OK follows SHUTDOWN_OK (R496). -/
def State.shutdownPin (s : State) : Drive := s.drives (s.flag Reg.PWR_PWR_STAT_SHUTDOWN_OK)
/-- THERMTRIP_N, an open drain that asserts low (R496, R499). -/
def State.thermTripPin (s : State) : Drive := if s.boot.on && s.boot.thermTripN then .low else .undriven

/-! ### The delay exchange and the sync states (R50 to R58) -/

/-- The offset of an exchange (R50). -/
def exchangeOffset (t1 t2 t3 t4 asym : Int) : Int := Int.fdiv ((t2 - t1) - (t4 - t3)) 2 - asym
/-- The mean path delay of an exchange (R50). -/
def exchangeDelay (t1 t2 t3 t4 : Int) : Int := Int.fdiv ((t2 - t1) + (t4 - t3)) 2

/-- Whether an exchange is discarded (R51); a servo that has not been synchronised predicts nothing. -/
def exchangeBad (s : State) (p : Nat) (off : Int) (tagOk : Bool) : Bool :=
  let d := off - Config.servoPredict (toSigned 32 (s.fld Reg.TIME_OFFSET_OFFSET)) (toSigned 32 (s.fld Reg.TIME_FREQ_ADJ_ADJ))
  !tagOk || s.portState p == 8 || (s.time.synced && (decide (20480 < d) || decide (d < -20480)))

/-- Good exchanges in a row so far: none once an exchange has been missed since the last one (R54; log entry 51). -/
def State.goodRun (s : State) : Nat := if s.time.lastGood + 1536 < s.pick then 0 else s.time.good

/-- A valid exchange of a synchronised device: its rate, and LOCKED after 64 good ones (R53, R54, R56, R58). -/
def State.discipline (s : State) (off : Int) : State :=
  let adj := clampRate (Config.servoAdjust off (toSigned 32 (s.fld Reg.TIME_FREQ_ADJ_ADJ)))
  let s := s.setFld Reg.TIME_FREQ_ADJ_ADJ (ofSigned 32 adj)
  let good := if -5120 ≤ off ∧ off ≤ 5120 then s.goodRun + 1 else 0
  let s := { s with time := { s.time with good := good, lastGood := s.pick } }
  if 64 ≤ good ∧ (s.sync = 1 ∨ s.sync = 3) then
    (if s.sync = 1 then { s with wvn := { s.wvn with dataFrom := shedOf s.pick + 1 } } else s).setSync 2
  else s

/-- Whether t2 and t3 are those of the parent's last request and of the answer to it: within the picks in which the one arrived
and the other left (R50, R313). -/
def exchangeOwn (x : PortSt) (t2 t3 : Int) : Bool :=
  (match x.reqAt with | some q => t2.fdiv 65536 == (q : Int) | none => false) &&
    (match x.ansAt with | some q => t3.fdiv 65536 == (q : Int) | none => false)

/-- DELAY_EXCHANGE (R50, R51, R53): t1 and t4 of an exchange have come from the parent; each answered request gives one exchange, so
that 1,024 picks lie between them (R313). An exchange that a failed tag or the port's quarantine cuts short has no request or no
answer; one in each 1,024 picks counts as discarded (R51, R337). -/
def exchange (s : State) (t1 t2 t3 t4 : Int) (tagOk : Bool) : State :=
  let p := s.fld Reg.TIME_SYNC_STAT_PARENT_PORT
  if s.nPorts ≤ p || s.sync == 5 then s
  else if !exchangeOwn (s.port p) t2 t3 then
    if (!tagOk || s.portState p == 8) && s.time.cutAt != some (s.pick / 1024) then
      ({ s with time := { s.time with good := 0, cutAt := some (s.pick / 1024) } }).addSat Reg.TIME_DISCARDS_COUNT 1
    else s
  else
    let s := s.setPort p { s.port p with reqAt := none, ansAt := none }
    let off := exchangeOffset t1 t2 t3 t4 (toSigned 32 (s.fld (Reg.TIME_PTIME_ASYM p)))
    if exchangeBad s p off tagOk then
      ({ s with time := { s.time with good := 0 } }).addSat Reg.TIME_DISCARDS_COUNT 1
    else
      let s := (s.setFld Reg.TIME_OFFSET_OFFSET (sat32 off)).setFld Reg.TIME_PATH_DELAY_DELAY (ofSigned 32 (exchangeDelay t1 t2 t3 t4))
      if s.sync = 4 then s
      else if s.time.synced then s.discipline off
      else if s.timePhase then
        let s := (s.setSync 1).stepTo ((s.now : Int) - off).toNat
        { s with time := { s.time with synced := true, lastGood := s.pick } }
      else s

/-- PARENT_LOST (R56): sixteen consecutive exchanges missed in LOCKED; the port that offers the best key is the parent at once, and
HOLDOVER. -/
def parentGone (s : State) : State :=
  let p := s.fld Reg.TIME_SYNC_STAT_PARENT_PORT
  if s.sync = 2 ∧ s.time.lastGood + 16384 ≤ s.pick then
    let s := { s with time := { s.time with ann := smSet (fun _ => none) s.time.ann p none, lastGood := s.pick } }
    let q := match s.bestOffer with | some (q, _) => q | none => 31
    ((s.setSync 3).setParent q).elect
  else s

/-- HOLDOVER_LIMIT_EXPIRY (R57). -/
def holdoverOver (s : State) : State :=
  if s.sync = 3 ∧ s.fld Reg.TIME_HOLDOVER_LIMIT_LIMIT ≤ s.fld Reg.TIME_HOLDOVER_ELAPSED_ELAPSED then
    (s.setSync 4).raiseDevice 0x0405 1
  else s

/-- Streams that a WAITPICK holds for a pick after `a` and before `b`. -/
def passedWaits (s : State) (a b : Nat) : Nat :=
  (s.streams.filter fun x => match x.2.queue, x.2.hold with
    | .slot i (.waitpick t) :: _, some (.waitpick, _) => decide (a < pickTarget i t) && decide (pickTarget i t < b)
    | _, _ => false).length

/-- UNSYNC_RESYNC (R58, R60): one correction, then ACQUIRE; the WAITPICKs that a forward step passes count as late. -/
def resyncs (s : State) (p time : Nat) : State :=
  if s.sync = 4 ∧ p < s.nPorts then
    let old := s.pick
    let s := ((s.setParent p).setSync 1).stepTo time
    let s := { s with time := { s.time with synced := true, lastGood := s.pick } }
    s.addSat Reg.TIME_LATE_PICKS_COUNT (passedWaits s old s.pick)
  else s

/-! ### The counter runs (R43, R53) -/

/-- The counter after one period of the local clock, which the rate correction makes longer or shorter than a pick; a held counter
waits until the parent's time passes it (R53). No pick is passed over: of a period in which two picks begin, the rest follows
(log entry 7). -/
def State.countPick (s : State) : State :=
  match s.time.holdTo with
  | some r => if r ≤ 65536 then ({ s with time := { s.time with holdTo := none } }).setNow (s.now + (65536 - r))
    else { s with time := { s.time with holdTo := some (r - 65536) } }
  | none =>
    let d := if s.time.rest = 0 then (2 ^ 32 + toSigned 32 (s.fld Reg.TIME_FREQ_ADJ_ADJ)).toNat else s.time.rest
    let next := 2 ^ 32 * (s.pick + 1)
    if s.fine + d < next + 2 ^ 32 then s.setFine (s.fine + d) 0 else s.setFine next (s.fine + d - next)

end Sys2Proof.Machine
end

