-- ==== Sys2Proof/Machine/Link.lean ====
section
/-! DEFINITION. Link: cells, lanes and slots (R311 to R316, R340), what a port sends and receives (R327, R328, R342), and its
states: lanes, training, authentication, keys and the checks of its schedule (R312, R321 to R323, R335 to R341). -/
namespace Sys2Proof.Machine

/-! ### Cells and lanes (R311, R313, R315, R316, R340) -/

/-- Bytes filled with zero to a length, and cut there. -/
def padBytes (n : Nat) (bs : List Byte) : List Byte := (List.range n).map fun k => bs.getD k 0

/-- The bytes of C0 (R315). -/
def headerCell (h : SlotHdr) : List Byte :=
  padBytes 256 (leBytes 8 h.pick.toNat ++ leBytes 3 h.flow.toNat ++
    leBytes 1 (bit h.first + 2 * bit h.last + 4 * bit h.detour + 8 * bit h.empty) ++ leBytes 4 h.seq.toNat ++ leBytes 4 h.tseq.toNat ++
    leBytes 4 h.valid.toNat ++ leBytes 8 h.tlen.toNat ++ leBytes 8 h.cdl.toNat ++ leBytes 8 h.txn.toNat)

/-- The bytes of C2: LACK in bytes 0 to 7, up to 14 records of 16 bytes from byte 32 (R316). -/
def ackCell (lack : W64) (recs : List FlowRec) : List Byte :=
  leBytes 8 lack.toNat ++ List.replicate 24 0 ++ (List.range 14).flatMap fun k => padBytes 16 (Config.recBytes recs[k]?)

/-- Cells 0 to 98 of a slot, over which its tag is formed (R313, R340); the payload as it goes over the link. -/
def slotCells (h : SlotHdr) (payload : List Byte) (time : TimeCell) (lack : W64) (recs : List FlowRec) : List Byte :=
  headerCell h ++ padBytes slotBytes payload ++ padBytes 256 (Config.timeCellBytes time) ++ ackCell lack recs

/-- The GCM nonce of a slot (R340). -/
def slotNonce (txn : W64) (lowerSends : Bool) : Nat := 2 ^ 32 * txn.toNat + bit (!lowerSends)

/-- Bytes under the key stream of a slot: encryption and decryption (R340). -/
def cipher (key nonce : Nat) (bs : List Byte) : List Byte := bs.zipIdx.map fun (b, k) => b ^^^ Config.gcmStream key nonce k

/-- The bytes that each physical lane carries of a slot: 32-byte units over logical lanes 0 to 7 in increasing order (R309, R311). -/
def laneBytes (s : State) (p : Nat) (bs : List Byte) : List (Nat × List Byte) :=
  (List.range 8).map fun l =>
    (s.fld (Reg.WVN_LANEMAP_PHYS p l), (List.range 100).flatMap fun u => (bs.drop (32 * (8 * u + l))).take 32)

/-- Where in the present pick something leaves or arrives on a port, in FRAC units (R50; log entry 49). -/
def stampAt (s : State) (p : Nat) : Int := ((65536 * s.pick + Config.stampFrac s.pick p % 65536 : Nat) : Int)

/-! ### Slots to send (R313 to R316, R326, R327) -/

/-- The header of an EMPTY slot. -/
def emptyHdr : SlotHdr :=
  { pick := 0, flow := 0, first := false, last := false, detour := false, empty := true, seq := 0, tseq := 0, valid := 0
    tlen := 0, cdl := 0, txn := 0 }

/-- Slot `k` of a throw, which stands at a pick (R315, R326); PICK and TXN are set when it is sent. -/
def throwSlot (s : State) (flow : Nat) (t : ThrowRun) (k pick : Nat) : TxSlot :=
  let valid := min slotBytes (t.len - slotBytes * k)
  { base := pick
    hdr :=
      { emptyHdr with
        flow := BitVec.ofNat 20 flow, first := k == 0, last := k + 1 == t.n, empty := false, seq := BitVec.ofNat 32 (t.seq0 + k)
        tseq := BitVec.ofNat 32 t.tseq, valid := BitVec.ofNat 15 valid, tlen := if k = 0 then BitVec.ofNat 40 t.len else 0
        cdl := BitVec.ofNat 64 t.cdl }
    payload := (List.range valid).map fun j => match t.engine with
      | some e => smGet (fun _ => 0) e.data (slotBytes * k + j)
      | none => s.served (entryAddr t.w0 (slotBytes * k + j)) }

/-- The throw of a flow, and the number of its slot, that stand at a pick on a port (R326); none once the THROW has ended, nor where
an earlier throw's slot is to be sent again. -/
def sourceAt (s : State) (sc : Schedule) (port flow pick : Nat) : Option (ThrowRun × Nat) :=
  let idxs := flowIdxs sc port flow
  if idxs.contains (pick % 8192) then
    (s.flowSt flow).throws.findSome? fun (t : ThrowRun) =>
      let start := smGet (fun _ => 0) t.from_ port
      let taken := t.skip.filter fun q => q.1 == port && decide (q.2 ≤ pick)
      let k := slotsBelow idxs pick - slotsBelow idxs start - taken.length
      if decide (start ≤ pick) && decide (k < t.n) && !taken.contains (port, pick) && (t.engine.isSome || (s.cmd? t.cmd).isSome) then some (t, k)
      else none
  else none

/-- The slot of a flow's own throws that stands at a pick on a port (R326). -/
def sourceSlot (s : State) (sc : Schedule) (port flow pick : Nat) : Option TxSlot :=
  (sourceAt s sc port flow pick).map fun t => throwSlot s flow t.1 t.2 pick

/-- A slot sent over a detour (R327). -/
def TxSlot.detoured (t : TxSlot) : TxSlot := { t with hdr := { t.hdr with detour := true } }

/-- A slot of a local throw whose own port has left service, in its STANDBY slot on the detour port (R327): its flow, its throw and
its number. -/
def detourAt (s : State) (sc : Schedule) (port pick : Nat) : Option (Nat × ThrowRun × Nat) :=
  sc.flows.findSome? fun f =>
    if f.source && f.altOut == port && decide (f.altOff ≤ pick) then
      (maskPorts f.outMask).findSome? fun q =>
        if !s.inService q && decide ((s.port q).leftAt ≤ pick - f.altOff) then
          (sourceAt s sc q f.flow (pick - f.altOff)).map fun t => (f.flow, t)
        else none
    else none

/-- That slot, with DETOUR set. -/
def detourSlot (s : State) (sc : Schedule) (port pick : Nat) : Option TxSlot :=
  (detourAt s sc port pick).map fun t => (throwSlot s t.1 t.2.1 t.2.2 pick).detoured

/-- What a port reads from a throw's source for the slot that it sends at a pick: flow, throw and slot number; none where the slot
comes from elsewhere. -/
def readsThrow (s : State) (port pick : Nat) : Option (Nat × ThrowRun × Nat) :=
  match s.wvn.active with
  | none => none
  | some sc =>
    if s.inService port && s.dataOpen then
      let e := slotEntry sc port (pick % 8192)
      match slotKind e with
      | 1 => if (s.port port).due.any (·.1 == pick) then none else (sourceAt s sc port (slotFlow e) pick).map fun t => (slotFlow e, t)
      | 2 => if (s.port port).standby.any (·.1 == pick) then none else detourAt s sc port pick
      | _ => none
    else none

/-- The data slot that a port sends at a pick, injection aside. -/
def dataSlot (s : State) (port pick : Nat) : Option TxSlot :=
  match s.wvn.active with
  | none => none
  | some sc =>
    if s.inService port && s.dataOpen then
      let e := slotEntry sc port (pick % 8192)
      let x := s.port port
      match slotKind e with
      | 1 => match x.due.find? (·.1 == pick) with
        | some (_, t) => some t
        | none => sourceSlot s sc port (slotFlow e) pick
      | 2 => match x.standby.find? (·.1 == pick) with
        | some (_, t) => some t
        | none => detourSlot s sc port pick
      | _ => none
    else none

/-- The next free slot of a flow on a port after a pick (R327): its own slots that carry nothing yet, and over a detour the
STANDBY slots of the port (log entry 51). -/
def freeSlot (s : State) (sc : Schedule) (port flow : Nat) (standby : Bool) : Option Nat :=
  let x := s.port port
  if standby then
    (List.range 8192).findSome? fun k =>
      let p := s.pick + 1 + k
      if slotKind (slotEntry sc port (p % 8192)) = 2 && !(x.standby.any (·.1 == p)) && (detourSlot s sc port p).isNone then some p else none
  else
    (List.range 8192).findSome? fun k =>
      (nthSlot (flowIdxs sc port flow) (s.pick + 1) k).filter fun p =>
        !(x.due.any (·.1 == p)) && (sourceSlot s sc port flow p).isNone

/-- A slot put in the next free slot of its flow on a port; it is lost where the flow has none there. -/
def bookFree (s : State) (port : Nat) (t : TxSlot) : State :=
  match s.wvn.active with
  | none => s
  | some sc =>
    let x := s.port port
    match freeSlot s sc port t.hdr.flow.toNat t.hdr.detour with
    | some p =>
      s.setPort port (if t.hdr.detour then { x with standby := x.standby ++ [(p, t)] } else { x with due := x.due ++ [(p, t)] })
    | none => s

/-! ### Injection (R342) -/

/-- The next data slot of a flow on a port after the present pick, as far as it is known: one that is due there or in a STANDBY slot,
one of a throw, or one of a throw that this port carries as its detour in the shed that follows. -/
def nextSlot (s : State) (port flow : Nat) : Option TxSlot :=
  let x := s.port port
  let later := (x.due ++ x.standby).filter fun d => decide (s.pick < d.1) && d.2.hdr.flow.toNat == flow
  let own := match s.wvn.active with
    | none => []
    | some sc =>
      ((s.flowSt flow).throws.filterMap fun t =>
        (nthFree (flowIdxs sc port flow) ((t.skip.filter (·.1 == port)).map (·.2)) (max (s.pick + 1) (smGet (fun _ => 0) t.from_ port)) 0).bind
          fun p => (sourceSlot s sc port flow p).map fun x => (p, x)) ++
      ((List.range 8192).findSome? fun k =>
        let p := s.pick + 1 + k
        if slotKind (slotEntry sc port (p % 8192)) = 2 then
          ((detourSlot s sc port p).filter (·.hdr.flow.toNat == flow)).map fun x => (p, x)
        else none).toList
  ((later ++ own).foldl (fun (b : Option (Nat × TxSlot)) d => match b with
    | some x => if d.1 < x.1 then some d else b
    | none => some d) none).map (·.2)

/-- What injection makes of a slot (R342): the state after it, what is sent, whether the slot is sent at all, whether a bit is
inverted. -/
structure Injected where
  s : State
  t : Option TxSlot
  dropped : Bool := false
  corrupt : Bool := false

/-- Whether injection selects a slot of a port (R342). -/
def injects (s : State) (port : Nat) (data : Bool) : Bool :=
  s.wvn.injAllow && s.flag (Reg.WVN_PCTL_INJECT_EN port) && s.fld (Reg.WVN_INJ_MODE port) != 0 && s.fld (Reg.WVN_INJ_COUNT port) != 0 &&
    (data || s.flag (Reg.WVN_INJ_CTRL port))

/-- The slot that stands in the place of a port's slot once an exchange of its flow has begun (R342): the selected slot where this one has
gone already, or this one, the selected slot following it (log entry 51). -/
def reordered (s : State) (port : Nat) (t : Option TxSlot) : State × Option TxSlot :=
  let x := s.port port
  match t.bind fun d => x.injHeld.find? (·.1.hdr.flow == d.hdr.flow) with
  | some (h, gone) =>
    let s := s.setPort port { x with injHeld := x.injHeld.filter (·.1.hdr.flow != h.hdr.flow) }
    if gone then (s, some h) else (bookFree s port h, t)
  | none => (s, t)

/-- The selection of a slot for injection (R342): every EVERY-th eligible one, the second of an exchange and those of other flows
among them. REORDER sends the flow's next data slot in the place of the selected one, and the selected one in that slot's place;
where no next slot is known yet, the selected one waits for it and follows it (log entry 51). -/
def selectSlot (s : State) (port : Nat) (t : Option TxSlot) : Injected :=
  let x := s.port port
  if !injects s port t.isSome then { s := s, t := t }
  else if x.injSeen + 1 < s.fld (Reg.WVN_INJ_EVERY port) then { s := s.setPort port { x with injSeen := x.injSeen + 1 }, t := t }
  else
    let s1 := s.setPort port { x with injSeen := 0 }
    let s2 := s1.setFld (Reg.WVN_INJ_COUNT port) (s.fld (Reg.WVN_INJ_COUNT port) - 1)
    match s.fld (Reg.WVN_INJ_MODE port), t with
    | 1, _ => { s := s2, t := t, dropped := true }
    | 2, _ => { s := s2, t := t, corrupt := true }
    | 3, some d =>
      let n := nextSlot s port d.hdr.flow.toNat
      { s := s2.setPort port { x with injSeen := 0, injHeld := x.injHeld ++ [(d, n.isSome)] }, t := n }
    | _, _ => { s := s1, t := t }

/-- Injection on one slot (R342). -/
def inject (s : State) (port : Nat) (t : Option TxSlot) : Injected :=
  let r := reordered s port t
  selectSlot r.1 port r.2

/-- A payload with one bit inverted (R342). -/
def flipBit (bs : List Byte) (k : Nat) : List Byte := bs.set (k / 8) ((bs.getD (k / 8) 0) ^^^ (1#8 <<< (k % 8)))

/-! ### SLOT_TRANSMIT (R313, R314) -/

/-- The bolt hash's first 64 bits (R322). -/
def hashWord (s : State) : Nat := match s.wvn.active with | some sc => sc.hash.toNat % 2 ^ 64 | none => 0

/-- Whether a slot carries a delay request (R313); in a hold every 1,024th slot does (R314). -/
def asksNow (s : State) (x : PortSt) : Bool :=
  if s.time.holdTo.isSome then (x.heldSlots + 1) % 1024 == 0 else s.pick % 1024 == 0

/-- Whether a slot carries the answer to the request received (R313); in a hold the eighth after it does (R314). -/
def answersNow (s : State) (x : PortSt) : Bool :=
  x.reqAt.isSome && x.ansAt.isNone &&
    (if s.time.holdTo.isSome then x.heldReq + 1 == 8 else s.pick % 1024 == 8)

/-- C1 of the slot that a port sends (R313, R314). -/
def timeCell (s : State) (p : Nat) : TimeCell :=
  let x := s.port p
  let held := s.time.holdTo.isSome
  { announce := if !held && s.pick % 8192 == 0 then x.announce.map fun a => (BitVec.ofNat 136 a.1, BitVec.ofNat 8 a.2.1, BitVec.ofNat 32 a.2.2) else none
    request := asksNow s x, response := answersNow s x, stamps := x.stamps }

/-- A port after the slot that it has sent: its exchange, its records and messages, what is due no longer (R313, R314, R316). -/
def PortSt.afterSend (s : State) (p : Nat) (x : PortSt) : PortSt :=
  let held := s.time.holdTo.isSome
  { x with
      due := x.due.filter (s.pick < ·.1), standby := x.standby.filter (s.pick < ·.1), sent := some (s.pick, s.time.holdTo)
      recs := x.recs.drop 14, msgs := [], announce := if s.pick % 8192 == 0 then none else x.announce
      askedAt := if asksNow s x then some (stampAt s p) else x.askedAt
      ansAt := if answersNow s x then some s.pick else x.ansAt
      stamps := none, heldSlots := if held then x.heldSlots + 1 else 0, heldReq := x.heldReq + 1 }

/-- The slot that a port puts on the wire (R311, R313 to R316, R340): under the keys of its direction, encrypted where the port is. -/
def wireSlot (s : State) (p : Nat) (body : TxSlot) (corrupt : Bool) : WireSlot :=
  let x := s.port p
  let hash := if s.time.holdTo.isNone && s.pick % 8192 == 0 && s.wvn.active.isSome then some (BitVec.ofNat 64 (hashWord s)) else none
  let nonce := slotNonce body.hdr.txn x.lower
  let n := body.payload.length
  let plain := body.payload ++ (List.range (slotBytes - n)).map fun k => Config.idleFill s.pick (n + k)
  let sent := if s.flag (Reg.WVN_PSTAT_ENCRYPTED p) then cipher x.txKey nonce plain else plain
  let recs := x.recs.take 14
  let lack := BitVec.ofNat 64 x.lack
  let cells := slotCells body.hdr sent (timeCell s p) lack recs
  let tag := Config.gcmTag x.txKey nonce cells
  let payload := if corrupt then flipBit sent (Config.corruptBit s.pick p % (8 * slotBytes)) else sent
  { hdr := body.hdr, payload := payload, time := timeCell s p, lack := lack, recs := recs, tag := tag, hash := hash, msgs := x.msgs
    lanes := laneBytes s p (slotCells body.hdr payload (timeCell s p) lack recs ++ padBytes 256 (Config.integrityBytes tag hash x.msgs)) }

/-- SLOT_TRANSMIT (R313 to R316): one slot of a port, one in each pick, or in each 128 ns of a hold. -/
def transmit (s : State) (port : Nat) : State :=
  if !slotsRun s port || (s.port port).sent == some (s.pick, s.time.holdTo) then s
  else
    let j := inject s port (dataSlot s port s.pick)
    let s := j.s
    let x := s.port port
    let t := j.t.getD { hdr := emptyHdr, payload := [] }
    let body : TxSlot := { t with hdr := { t.hdr with pick := BitVec.ofNat 64 s.pick, txn := BitVec.ofNat 64 x.txn } }
    let y := if body.hdr.empty then x else { x with kept := x.kept ++ [body] }
    if j.dropped then
      s.setPort port { y with due := y.due.filter (s.pick < ·.1), standby := y.standby.filter (s.pick < ·.1), sent := some (s.pick, s.time.holdTo) }
    else
      let w := wireSlot s port body j.corrupt
      let s := (s.setPort port { y.afterSend s port with txn := x.txn + 1 }).out (.slot port w)
      let s := s.countEvent (45 + port) (if body.hdr.empty then 3 else 1) 0 1
      if body.hdr.detour then s.countEvent (45 + port) 5 0 1 else s

/-- SLOT_RETRANSMIT (R327): the oldest slot kept for 32 picks without acknowledgement is sent again in the flow's next free
slot on the port. -/
def retransmit (s : State) (port : Nat) : State :=
  match (s.port port).kept with
  | t :: rest =>
    if s.inService port && decide (t.hdr.pick.toNat + 32 ≤ s.pick) then
      bookFree ((s.countEvent (45 + port) 4 0 1).setPort port { s.port port with kept := rest }) port t
    else s
  | [] => s

/-! ### Ports leave and enter service (R322, R327, R336) -/

/-- The first pick after the present one with a slot index. -/
def nextIndex (pick idx : Nat) : Nat :=
  let b := 8192 * ((pick + 1) / 8192) + idx % 8192
  if b < pick + 1 then b + 8192 else b

/-- A slot handed to a flow's detour (R327): into STANDBY slot (s + ALT_OFF), s the pick from which its detour counts. -/
def detour (s : State) (t : TxSlot) : State :=
  match flowEntry s t.hdr.flow.toNat with
  | some f =>
    if s.inService f.altOut then
      let x := s.port f.altOut
      s.setPort f.altOut { x with standby := x.standby ++ [(nextIndex s.pick (t.base + f.altOff), t.detoured)] }
    else s
  | none => s

/-- A port takes another state. From IN_SERVICE the change raises PORT_QUARANTINED and engages the detours, for the slot of this pick too
where it has not been sent (R327, R336). -/
def State.portTo (s : State) (p st : Nat) : State :=
  let was := s.inService p
  let s := s.setFld (Reg.WVN_PSTAT_STATE p) st
  if was && st != 3 then
    let x := s.port p
    let held := x.injHeld.map (·.1)
    let leftAt := if x.sent.any (·.1 == s.pick) then s.pick + 1 else s.pick
    let s := s.setPort p { x with kept := [], due := [], standby := [], injHeld := [], leftAt := leftAt, passed := none }
    let s := (x.kept ++ held ++ x.due.map (·.2)).foldl detour s
    s.advise 0x0403 st p
  else s

/-- One second in picks (R42). -/
def secondPicks : Nat := 7812500

/-- A port becomes ABSENT; training is retried every second (R336). -/
def State.portAbsent (s : State) (p : Nat) : State :=
  let s := s.portTo p 4
  s.setPort p { s.port p with retryAt := s.pick + secondPicks }

/-- A partner is hostile (R336, R337): QUARANTINED, with re-authentication after 1 s. -/
def State.portHostile (s : State) (p : Nat) : State :=
  let s := s.portTo p 8
  s.setPort p { s.port p with retryAt := s.pick + secondPicks, backoff := 1 }

/-- SCHEDULE_MISMATCH for a port (R321, R322). -/
def State.portMismatch (s : State) (p detail : Nat) (hash : Bool) : State :=
  let s := (s.portTo p 7).raiseDevice 0x0405 detail p
  s.setPort p { s.port p with hashMis := hash, passed := none, pendingCheck := false }

/-- A port enters service (R322). -/
def State.portEnters (s : State) (p : Nat) : State :=
  (s.portTo p 3).setPort p { s.port p with passed := none, hashMis := false, heard := s.pick }

/-- At a shed boundary, ports that have passed R321 begin data slots: this end is LOCKED or GRANDMASTER, and the partner has
installed the same schedule, as its bolt hash says (R322; log entry 51). -/
def portsEnter (s : State) : State :=
  match s.wvn.active with
  | some sc =>
    if s.sync == 2 || s.sync == 5 then
      (List.range s.nPorts).foldl (fun s p =>
        match (s.port p).passed with
        | some sh => if sh < shedOf s.pick ∧ (s.port p).partnerHash = some sc.hash then s.portEnters p else s
        | none => s) s
    else s
  | none => s

/-! ### Lanes (R312) -/

/-- The receiver's counts of one lane in a slot. -/
def PortSt.countFec (x : PortSt) (c : FecCount) : PortSt :=
  { x with laneUe := smSet (fun _ => 0) x.laneUe c.lane (smGet (fun _ => 0) x.laneUe c.lane + c.ue)
           laneSyms := smSet (fun _ => 0) x.laneSyms c.lane (smGet (fun _ => 0) x.laneSyms c.lane + c.syms) }

/-- What the FEC of a port's lanes found in one slot (R312, R344, R478). -/
def countFec (s : State) (p : Nat) (l : List FecCount) : State :=
  let s := s.setPort p (l.foldl PortSt.countFec (s.port p))
  ((s.addSat (Reg.WVN_FEC_CE p) (l.map (·.ce)).sum).addSat (Reg.WVN_FEC_UE p) (l.map (·.ue)).sum).countEvent (45 + p) 6 0 (l.map (·.ce)).sum

/-- Whether a logical lane has failed (R312): four uncorrectable codewords in the shed, or 64 sheds over LANE_BER_LIMIT. -/
def PortSt.laneFailed (x : PortSt) (lane : Nat) : Bool :=
  decide (4 ≤ smGet (fun _ => 0) x.laneUe lane) || decide (64 ≤ smGet (fun _ => 0) x.laneOver lane)

/-- Whether a port receives slots whose lanes are watched (R312, R335): it carries cells, and is not FAULTY yet. -/
def lanesWatched (s : State) (p : Nat) : Bool := slotsRun s p && s.portState p != 6 && s.portState p != 8

/-- LANE_FAIL (R312): the switch shed agreed, or a second failed lane. -/
def laneFails (s : State) (p lane shed : Nat) : State :=
  let x := s.port p
  if !lanesWatched s p || 7 < lane || !x.laneFailed lane then s
  else if s.flag (Reg.WVN_PSTAT_SPARE_USED p) then s.portTo p 6
  else match x.laneSwitch with
    | some (l, _) => if l = lane then s else s.portTo p 6
    | none =>
      if shedOf s.pick + 2 ≤ shed then
        s.setPort p { x with laneSwitch := some (lane, shed), msgs := x.msgs ++ [.laneSwitch (BitVec.ofNat 4 lane) (BitVec.ofNat 48 shed)] }
      else s

/-- LANE_SPARE_SWITCH (R312). -/
def laneSwitches (s : State) (p : Nat) : State :=
  match (s.port p).laneSwitch with
  | some (lane, shed) =>
    if shed ≤ shedOf s.pick then
      let old := s.fld (Reg.WVN_LANEMAP_PHYS p lane)
      let lanes := setBits (setBits (s.fld (Reg.WVN_PSTAT_LANES p)) old old 0) 8 8 1
      let x := s.port p
      let s := s.setPort p { x with laneSwitch := none, laneUe := smSet (fun _ => 0) x.laneUe lane 0
                                    laneSyms := smSet (fun _ => 0) x.laneSyms lane 0, laneOver := smSet (fun _ => 0) x.laneOver lane 0 }
      ((((s.setFld (Reg.WVN_LANEMAP_PHYS p lane) 8).setFld (Reg.WVN_PSTAT_SPARED p) lane).setFld
        (Reg.WVN_PSTAT_SPARE_USED p) 1).setFld (Reg.WVN_PSTAT_LANES p) lanes)
    else s
  | none => s

/-! ### Missed slots (R336, R344) -/

/-- Slots of a flow that came late or not at all on a port in the shed (R336). -/
def PortSt.missOf (x : PortSt) (f n : Nat) : PortSt :=
  { x with missFlow := smSet (fun _ => 0) x.missFlow f (smGet (fun _ => 0) x.missFlow f + n) }

/-- Slots of a port that came late or not at all, with the flow that the schedule assigns them to. -/
def countMissed (s : State) (p n : Nat) (flow : Option Nat) : State :=
  let x := s.port p
  let y := match flow with
    | some f => x.missOf f n
    | none => x
  (s.setPort p { y with missed := x.missed + n }).addSat (Reg.WVN_MISSED_TOTAL p) n

/-- Whether the partner's slot at a pick is assigned to a flow that passes on, as this device's tables show it HOPOFF later (R319,
R327; log entry 51). -/
def transitIndex (sc : Schedule) (f : FlowEntry) (pick : Nat) : Bool :=
  (maskPorts f.outMask).any fun q =>
    slotKind (slotEntry sc q ((pick + f.hopoff) % 8192)) == 1 && slotFlow (slotEntry sc q ((pick + f.hopoff) % 8192)) == f.flow

/-- The flow that passes on to which the partner's slot at a pick is assigned. -/
def assignedFlow (s : State) (p pick : Nat) : Option Nat :=
  s.wvn.active.bind fun sc => (sc.flows.find? fun f => f.transit && f.inPort == p && transitIndex sc f pick).map (·.flow)

/-- Whether a data slot comes in a slot assigned to the partner (R336): its flow arrives on the port, and where the flow passes on from
its IN_PORT the slot's index is one of the flow's. A slot over a detour or of a flow that ends here has no index in this device's
tables (log entry 51). -/
def assignedSlot (s : State) (p : Nat) (h : SlotHdr) : Bool :=
  match s.wvn.active, flowEntry s h.flow.toNat with
  | some sc, some f =>
    if f.inPort == p then !f.transit || h.detour || transitIndex sc f h.pick.toNat else f.altIn == p
  | _, _ => false

/-- The picks that a hop may take: those of the link and 600 ns (R321, R328). -/
def hopPicks (s : State) (p : Nat) : Nat := 1 + ceilDiv (s.fld (Reg.WVN_PDELAY_NS p) + 600) 128

/-- The slots of a port in service that are missing before a slot, and that slot when it is late, which then counts for the flow of
its data (R336). -/
def countGap (s : State) (p : Nat) (h : SlotHdr) : State :=
  if !s.inService p then s
  else
    let last := (s.port p).lack
    let pick := h.pick.toNat
    let gap := (List.range (min 8192 (pick - last - 1))).map (last + 1 + ·)
    let s := gap.foldl (fun s q => countMissed s p 1 (assignedFlow s p q)) s
    if pick + hopPicks s p < s.pick then countMissed s p 1 (if h.empty then assignedFlow s p pick else some h.flow.toNat) else s

/-- What ports count by sheds, at a shed boundary (R312, R336, R344). -/
def rollSheds (s : State) : State :=
  (List.range s.nPorts).foldl (fun s p =>
    let x := s.port p
    let laneOver := (List.range 8).foldl (fun m l =>
      smSet (fun _ => 0) m l (if Config.laneRateOver (smGet (fun _ => 0) x.laneSyms l) s.wvn.laneBerLimit then smGet (fun _ => 0) x.laneOver l + 1 else 0))
      x.laneOver
    (s.setPort p { x with laneUe := [], laneSyms := [], laneOver := laneOver, missed := 0, missFlow := [] }).setFld (Reg.WVN_MISSED_SHED p)
      (min x.missed 0xFFFF)) s

/-! ### Slots received (R314, R322, R327, R328, R336, R340) -/

/-- A slot that fails its tag (R336). -/
def badTag (s : State) (p : Nat) : State :=
  let x := s.port p
  let tags := (x.badTags ++ [shedOf s.pick]).filter fun sh => shedOf s.pick < sh + 64
  let s := ((s.addSat (Reg.WVN_BADTAG_TAG p) 1).setPort p { x with badTags := tags }).countEvent (45 + p) 7 0 1
  if 4 ≤ tags.length then s.portHostile p else s

/-- HOPOFF of every flow that arrives on a port covers the hop (R321). -/
def hopoffOk (s : State) (sc : Schedule) (p : Nat) : Bool :=
  sc.flows.all fun f => (f.inPort != p && f.altIn != p) || decide (hopPicks s p ≤ f.hopoff)

/-- Whether the partner is the neighbour that a schedule expects on a port (R321). -/
def neighbourOk (s : State) (sc : Schedule) (p : Nat) : Bool :=
  match sc.neighbours.find? (·.1 == p) with
  | some (_, i, q) => s.fld (Reg.WVN_NBR_LO_ID p) + 2 ^ 64 * s.fld (Reg.WVN_NBR_HI_ID p) == i.toNat && s.fld (Reg.WVN_NBR_PORT_PORT p) == q
  | none => true

/-- Checks 2 and 3 of R321: MISMATCH, or passed. -/
def checkRest (s : State) (sc : Schedule) (p : Nat) : State :=
  if !neighbourOk s sc p then s.portMismatch p 3 false
  else if !hopoffOk s sc p then s.portMismatch p 4 false
  else s.setPort p { s.port p with passed := some (shedOf s.pick), checked := true }

/-- The checks of R321 of an authenticated port whose partner's bolt hash has arrived. -/
def checkHash (s : State) (p : Nat) : State :=
  match s.wvn.active, (s.port p).partnerHash with
  | some sc, some hash =>
    if p < s.nPorts && s.portState p == 2 && (s.port p).keyed && (s.port p).pendingCheck then
      let s := s.setPort p { s.port p with pendingCheck := false }
      if hash ≠ sc.hash then s.portMismatch p 2 true else checkRest s sc p
    else s
  | _, _ => s

/-- SCHEDULE_CHECK (R321, R430): the partner's bolt hash arrives, once there is a schedule to hold it against. -/
def checkPort (s : State) (p : Nat) (hash : BitVec 256) : State :=
  if s.wvn.active.isSome && p < s.nPorts && s.portState p == 2 && (s.port p).keyed && (s.port p).pendingCheck then
    checkHash (s.setPort p { s.port p with partnerHash := some ((s.port p).partnerHash.getD hash) }) p
  else s

/-- The bolt hash that slot index 0 brings (R322): one that differs puts a port that has passed R321 in MISMATCH; one that agrees again lets it back, by
the checks of R321 that it has not passed yet. -/
def hashCheck (s : State) (p : Nat) (h : W64) : State :=
  match s.wvn.active with
  | none => s
  | some sc =>
    if h.toNat = hashWord s then
      if (s.port p).hashMis && s.portState p == 7 then
        let s := s.setPort p { s.port p with hashMis := false, partnerHash := some sc.hash }
        if !(s.port p).checked then checkRest s sc p
        else if s.sync == 2 || s.sync == 3 || s.sync == 5 then s.portEnters p
        else s.setPort p { s.port p with passed := some (shedOf s.pick) }
      else s
    else if s.inService p || ((s.portState p == 2 || s.portState p == 7) && (s.port p).passed.isSome) then s.portMismatch p 2 true
    else s

/-- A slot put in the slot of a port at a pick, a STANDBY slot as one of a flow; where that one is taken or IDLE, in the flow's next free
slot (R318, R327). -/
def placeAt (s : State) (q p : Nat) (t : TxSlot) : State :=
  let x := s.port q
  match (s.wvn.active.map fun sc => slotKind (slotEntry sc q (p % 8192))).getD 0 with
  | 1 => if x.due.any (·.1 == p) then bookFree s q t else s.setPort q { x with due := x.due ++ [(p, t)] }
  | 2 => if x.standby.any (·.1 == p) then bookFree s q t else s.setPort q { x with standby := x.standby ++ [(p, t)] }
  | _ => bookFree s q t

/-- A data slot passed on (R327): in slot (s + HOPOFF) of each out port, or over the detour. -/
def forward (s : State) (f : FlowEntry) (t : TxSlot) : State :=
  (maskPorts f.outMask).foldl (fun s q => if s.inService q then placeAt s q (t.hdr.pick.toNat + f.hopoff) t else detour s t) s

/-- Slots of a flow that a catcher finds missing when a slot comes ahead of them (R328, R336). -/
def skippedSlots (fs : FlowSt) (seq : Nat) : Nat :=
  let ahead (q : Nat) : Nat := (q + 2 ^ 32 - fs.expect) % 2 ^ 32
  if ahead seq ≤ 16 then ahead seq - fs.ahead.foldl (fun n x => max n (ahead x.hdr.seq.toNat + 1)) 0 else 0

/-- The data of a slot whose tag has been checked (R327, R328, R336). The slots of a flow that ends here that are found missing count for
the flow; those missing on the port have been counted as they failed to come (R344). -/
def dataArrives (s : State) (p : Nat) (m : RxSlot) (payload : List Byte) : State :=
  let t : TxSlot := { hdr := m.hdr, payload := payload, base := m.hdr.pick.toNat }
  let s := s.countEvent (45 + p) 2 0 1
  match (flowEntry s m.hdr.flow.toNat).filter fun _ => assignedSlot s p m.hdr with
  | none => (s.addSat (Reg.WVN_BADTAG_OUTSLOT p) 96).portHostile p
  | some f =>
    let s := if f.transit then forward s f t else s
    if f.catcher then
      let n := if f.transit then 0 else skippedSlots (s.flowSt f.flow) m.hdr.seq.toNat
      catchSlot (s.setPort p ((s.port p).missOf f.flow n)) f t
    else s

/-- C1 of a slot received (R46, R48, R50, R314): an announcement; the partner's request, to be answered; its answer to an own
request, which every partner gives; whether this end serves it shows with its next announcement (R48). The timestamps are
DELAY_EXCHANGE's. -/
def timeArrives (s : State) (p : Nat) (m : RxSlot) : State :=
  let s := match m.time.announce with
    | some (key, hops, seq) => if m.hdr.pick.toNat % 8192 = 0 then announceArrives s p key.toNat hops.toNat seq.toNat else s
    | none => s
  let s := if m.time.request then s.setPort p { s.port p with reqAt := some s.pick, ansAt := none, heldReq := 0 } else s
  match m.time.response, (s.port p).askedAt with
  | true, some t1 =>
    s.setPort p { s.port p with stamps := some (t1, stampAt s p), askedAt := none, served := true }
  | _, _ => s

/-- A link-management message (R312, R321, R341): the partner's bolt hash, or the switch shed that it agrees for a lane; what a rekey
brings is REKEY's. -/
def msgArrives (s : State) (p : Nat) (msg : LinkMsg) : State :=
  let x := s.port p
  match msg with
  | .boltHash h => checkHash (s.setPort p { x with partnerHash := some h }) p
  | .laneSwitch lane shed =>
    if x.laneSwitch.isNone && !s.flag (Reg.WVN_PSTAT_SPARE_USED p) && decide (lane.toNat < 8) && decide (shedOf s.pick + 2 ≤ shed.toNat) then
      s.setPort p { x with laneSwitch := some (lane.toNat, shed.toNat) }
    else s
  | .kemKey _ | .kemText _ | .keyShed _ => s

/-- Whether the tag of a slot received is the one that its sender forms (R340). -/
def slotTagOk (s : State) (p : Nat) (m : RxSlot) : Bool :=
  let x := s.port p
  m.tag == Config.gcmTag x.rxKey (slotNonce m.hdr.txn (!x.lower)) (slotCells m.hdr m.payload m.time m.lack m.recs)

/-- The payload of a slot received, decrypted where the port is encrypted (R340). -/
def openPayload (s : State) (p : Nat) (m : RxSlot) : List Byte :=
  let x := s.port p
  if s.flag (Reg.WVN_PSTAT_ENCRYPTED p) then cipher x.rxKey (slotNonce m.hdr.txn (!x.lower)) m.payload else m.payload

/-- An intact slot (R314, R316, R327, R336): TXN, LACK and what it acknowledges, its records, C1, messages, hash and data. -/
def slotIntact (s : State) (p : Nat) (m : RxSlot) : State :=
  let payload := openPayload s p m
  let s := countGap s p m.hdr
  let x := s.port p
  let s := s.setPort p { x with rxTxn := some m.hdr.txn.toNat, lack := m.hdr.pick.toNat, heard := s.pick
                                kept := x.kept.filter fun t => t.hdr.pick != m.lack }
  let s := m.recs.foldl (fun s r => recArrives s p r) s
  let s := m.msgs.foldl (fun s r => msgArrives s p r) (timeArrives s p m)
  let s := match m.hash with | some h => if m.hdr.pick.toNat % 8192 = 0 then hashCheck s p h else s | none => s
  if m.hdr.empty || !s.inService p then s else dataArrives s p m payload

/-- SLOT_RECEIVE with the outcome of the tag check (R314, R327, R337, R340). -/
def receiveChecked (s : State) (p : Nat) (m : RxSlot) (tagOk : Bool) : State :=
  if s.nPorts ≤ p then s
  else
    let s := countFec s p m.fec
    if s.portState p = 8 then s.addSat (Reg.WVN_QUAR_QDROPS p) 100
    else if !slotsRun s p then s
    else
      let fresh := match (s.port p).rxTxn with | some n => decide (n < m.hdr.txn.toNat) | none => true
      if tagOk && fresh then slotIntact s p m else badTag s p

/-- SLOT_RECEIVE (R327, R340). -/
def receive (s : State) (p : Nat) (m : RxSlot) : State := receiveChecked s p m (slotTagOk s p m)

/-! ### Training and authentication (R336 to R341, R428) -/

/-- The device's identity (R39). -/
def State.ident (s : State) : Nat := (s.reg Reg.GCTL_UID1).toNat * 2 ^ 64 + (s.reg Reg.GCTL_UID0).toNat

/-- Training has completed (R428): eight lanes run, the delay is measured, and each end sends its identity and port number. -/
def trained (s : State) (p delay : Nat) : State :=
  let lanes := if s.flag (Reg.WVN_PSTAT_SPARE_USED p) then s.fld (Reg.WVN_PSTAT_LANES p) else 0xFF
  let s := ((s.portTo p 2).setFld (Reg.WVN_PDELAY_NS p) delay).setFld (Reg.WVN_PSTAT_LANES p) lanes
  (s.setPort p { s.port p with keyed := false, passed := none, pendingCheck := false, checked := false, partnerHash := none }).out
    (.handshake p 0 (leBytes 16 s.ident ++ leBytes 1 p))

/-- PORT_TRAINING_COMPLETE (R428). -/
def trainingDone (s : State) (p delay : Nat) : State :=
  if p < s.nPorts ∧ s.portState p = 1 then trained s p delay else s

/-- ABSENT_RETRY (R336). -/
def absentTries (s : State) (p : Nat) (t : Option (BitVec 16)) : State :=
  if p < s.nPorts ∧ s.portState p = 4 ∧ (s.port p).retryAt ≤ s.pick then
    match t with
    | some d => trained s p d.toNat
    | none => s.setPort p { s.port p with retryAt := s.pick + secondPicks }
  else s

/-- The neighbour that the schedules name for a port (R317, R339). -/
def expectedNbr (s : State) (p : Nat) : Option (BitVec 128 × Nat) :=
  let scs := match s.wvn.active with | some sc => [sc] | none => s.wvn.schedules
  (scs.findSome? fun sc => sc.neighbours.find? (·.1 == p)).map (·.2)

/-- Bytes of an identity certificate (R470). -/
def certBytes : Nat := 30048

/-- Whether a chain has the form of R470 and leads to an anchor (R339, R470, R471): a device certificate of an identity, and at most
one intermediate that issued it, whose issuer is the anchor. -/
def chainForm (anchors : List (BitVec 512)) (chain : List Byte) (uid : Nat) : Bool :=
  let slice (o n : Nat) : List Byte := (chain.drop o).take n
  let body (o kind who : Nat) : Bool := leValue (slice o 4) == 1 && leValue (slice (o + 4) 4) == kind && leValue (slice (o + 8) 16) == who
  let anchored (o : Nat) : Bool := anchors.any fun a => shake256 32 (leBytes 64 a.toNat) == slice (o + 88) 32
  body 0 1 uid &&
    (if chain.length = certBytes then anchored 0
     else chain.length == 2 * certBytes && body certBytes 2 0 && shake256 32 (slice (certBytes + 24) 64) == slice 88 32 && anchored certBytes)

/-- The step at which a handshake fails (R339): no own chain, a partner that is not the expected neighbour, or a chain that does not
verify, is step 1; a step that the partner breaks off; a signature that does not verify, step 3. -/
def handshakeFault (s : State) (p : Nat) (h : Handshake) : Option Nat :=
  let expected := match expectedNbr s p with | some (i, _) => i == h.ident | none => true
  if s.mgmt.linkChain = [] || !expected || !h.chainOk || !chainForm s.wvn.anchors h.chain h.ident.toNat then some 1
  else match h.failed with
  | some n => some n
  | none => if h.sigOk then none else some 3

/-- What this end sends in a handshake: its nonce, and its encapsulation key when its identity is the lower one, its ciphertext
when not (R339; log entry 15). -/
def ownNonce (s : State) : List Byte := openBytes 32 16 s.freeCtr
/-- The encapsulation key or the ciphertext of this end. -/
def ownKem (s : State) : List Byte := openBytes 1568 17 s.freeCtr

/-- The transcript digest of a handshake (R339): both nonces, both identities, the encapsulation key and the ciphertext, the lower
identity's first (log entry 51). -/
def transcript (s : State) (h : Handshake) : List Byte :=
  let mine := (ownNonce s, leBytes 16 s.ident, ownKem s)
  let theirs := (leBytes 32 h.nonce.toNat, leBytes 16 h.ident.toNat, padBytes 1568 h.kem)
  let (a, b) := if s.ident < h.ident.toNat then (mine, theirs) else (theirs, mine)
  shake256 32 (a.1 ++ b.1 ++ a.2.1 ++ b.2.1 ++ a.2.2 ++ b.2.2)

/-- The two keys of a secret and a digest: the lower identity's direction, then the other (R339; log entry 51). -/
def linkKeys (secret : Nat) (digest : List Byte) : Nat × Nat :=
  let k := shake256 64 (leBytes 32 secret ++ digest)
  (leValue (k.take 32), leValue (k.drop 32))

/-- The messages of a handshake that this end sends up to a step (R339). -/
def sendHandshake (s : State) (p upTo : Nat) : State :=
  let msgs := [(1, ownNonce s ++ s.mgmt.linkChain), (2, ownKem s), (3, openBytes 49856 18 s.freeCtr)]
  let s := (msgs.filter (·.1 ≤ upTo)).foldl (fun s m => s.out (.handshake p m.1 m.2)) s
  { s with freeCtr := s.freeCtr + 1 }

/-- The active bolt hash put on the C3 cells of a port (R321). -/
def State.sendHash (s : State) (p : Nat) : State :=
  match s.wvn.active with
  | some sc => s.setPort p { s.port p with msgs := (s.port p).msgs ++ [.boltHash sc.hash] }
  | none => s

/-- A partner has authenticated (R339, R340): its identity and port, new keys. -/
def authenticated (s : State) (p : Nat) (h : Handshake) : State :=
  let keys := linkKeys h.secret.toNat (transcript s h)
  let lower := decide (s.ident < h.ident.toNat)
  let s := sendHandshake s p 3
  let s := ((s.setFld (Reg.WVN_NBR_LO_ID p) (h.ident.toNat % 2 ^ 64)).setFld (Reg.WVN_NBR_HI_ID p) (h.ident.toNat / 2 ^ 64)).setFld
    (Reg.WVN_NBR_PORT_PORT p) h.port.toNat
  let s := s.setFld (Reg.WVN_PSTAT_ENCRYPTED p) (s.fld (Reg.WVN_PCTL_ENCRYPT p))
  let s := s.portTo p 2
  (s.setPort p { s.port p with
    keyed := true, lower := lower, txKey := if lower then keys.1 else keys.2, rxKey := if lower then keys.2 else keys.1
    newKeys := none, txn := 0, rxTxn := none, keyShed := shedOf s.pick, backoff := 0, pendingCheck := true, checked := false
    partnerHash := none, badTags := [] }).sendHash p

/-- AUTH_HANDSHAKE (R339): of a port in AUTH. -/
def authTries (s : State) (p : Nat) (h : Handshake) : State :=
  if p < s.nPorts && s.portState p == 2 && !(s.port p).keyed then
    match handshakeFault s p h with
    | some n => ((sendHandshake s p n).portHostile p).advise 0x0404 p n
    | none => authenticated s p h
  else s

/-- REAUTH_RETRY (R337): the wait doubles after each failure, up to 1,024 s. -/
def reauthTries (s : State) (p : Nat) (h : Handshake) : State :=
  let x := s.port p
  if p < s.nPorts ∧ s.portState p = 8 ∧ x.retryAt ≤ s.pick then
    match handshakeFault s p h with
    | some n =>
      let w := min 1024 (2 * max 1 x.backoff)
      (((sendHandshake s p n).addSat (Reg.WVN_QUAR_QTRIES p) 1).setPort p { x with backoff := w, retryAt := s.pick + w * secondPicks }).advise
        0x0404 p n
    | none => authenticated s p h
  else s

/-- RESTORE in PCTL (R338). -/
def portRestores (s : State) (p : Nat) : State :=
  if s.nPorts ≤ p then s
  else
    let s := s.setFld (Reg.WVN_QUAR_QTRIES p) 0
    if s.portState p = 4 ∨ s.portState p = 5 ∨ s.portState p = 6 then
      (s.portTo p 1).setPort p { s.port p with keyed := false, passed := none, trainAt := s.pick, eq := s.boot.laneEq.getD p [] }
    else s

/-- Whether a partner is judged so (R336): TRAIN_TIMEOUT has run out, or no control cell has come intact for 8 picks in service; four
slots of one flow missing or late in the shed; a second lane failed; four slots that failed their tag in 64 sheds. -/
def judgedSo (s : State) (p : Nat) (why : PortFail) : Bool :=
  let x := s.port p
  match why with
  | .absent =>
    (s.portState p == 1 && decide (2 * x.trainAt + 15625 * s.wvn.trainTimeout ≤ 2 * s.pick)) || (s.inService p && decide (x.heard + 8 ≤ s.pick))
  | .slow => s.inService p && x.missFlow.any fun m => decide (4 ≤ m.2)
  | .faulty => lanesWatched s p && s.flag (Reg.WVN_PSTAT_SPARE_USED p) && (List.range 8).any x.laneFailed
  | .hostile => s.inService p && decide (4 ≤ (x.badTags.filter fun sh => shedOf s.pick < sh + 64).length)

/-- PORT_QUARANTINED (R336): a partner judged absent, slow, faulty or hostile. -/
def portJudged (s : State) (p : Nat) (why : PortFail) : State :=
  if s.nPorts ≤ p || !judgedSo s p why then s
  else
    match why with
    | .absent => s.portAbsent p
    | .slow => s.portTo p 5
    | .faulty => s.portTo p 6
    | .hostile => s.portHostile p

/-- REKEY (R341): after 262,144 sheds, the exchange of new keys under the present ones, with the shed that the ends agree on; in that
shed the keys change, TXN runs from 0, and ENCRYPT takes effect (R340; log entry 51). -/
def rekeys (s : State) (p : Nat) (kem : List Byte) (secret shed : Nat) : State :=
  let x := s.port p
  if s.nPorts ≤ p || !x.keyed then s
  else match x.newKeys with
  | some (at_, tx, rx) =>
    if at_ ≤ shedOf s.pick then
      (s.setFld (Reg.WVN_PSTAT_ENCRYPTED p) (s.fld (Reg.WVN_PCTL_ENCRYPT p))).setPort p
        { x with txKey := tx, rxKey := rx, newKeys := none, txn := 0, rxTxn := none, keyShed := shedOf s.pick }
    else s
  | none =>
    if x.keyShed + 262144 ≤ shedOf s.pick && decide (shedOf s.pick < shed) then
      let own := ownKem s
      let d := shake256 32 (if x.lower then own ++ padBytes 1568 kem else padBytes 1568 kem ++ own)
      let k := linkKeys secret d
      let msg : LinkMsg := if x.lower then .kemKey own else .kemText own
      { s.setPort p { x with newKeys := some (shed, if x.lower then k else (k.2, k.1)), msgs := x.msgs ++ [msg, .keyShed (BitVec.ofNat 48 shed)] } with
        freeCtr := s.freeCtr + 1 }
    else s

/-! ### Schedules installed and checked (R321 to R323, R430) -/

/-- A schedule becomes active; its hash goes to the partner on every port (R321), and the checkpoint engine posts the credits of its flows
(R385). -/
def installSchedule (s : State) (sc : Schedule) : State :=
  let s := { s with wvn := { s.wvn with active := some sc } }.setFld Reg.WVN_WVN_STAT_SCHED sc.index
  let s := (List.range 4).foldl (fun s w => s.setReg (Reg.WVN_BOLT_HASH w) (BitVec.ofNat 64 (sc.hash.toNat >>> (64 * w)))) s
  buddyCredit ((List.range s.nPorts).foldl (fun s p => if (s.port p).keyed then s.sendHash p else s) s)

/-- Whether a throw, a collective or a CATCH is admitted or posted and not retired (R323), those of the checkpoint engine and the gather of
a vote among them (R373, R384). -/
def fabricBusy (s : State) : Bool :=
  (s.cmds.any fun c => match c.phase with
    | .throwing _ _ _ _ => true
    | .collective _ _ => true
    | .catching _ _ _ _ _ _ _ => true
    | _ => false) ||
  s.wvn.flows.any (fun p => p.2.throws.any (·.engine.isSome)) || !s.res.votes.isEmpty

/-- SCHED_SEL written (R323). -/
def selectSchedule (s : State) (sel shed : Nat) : State :=
  if !(s.wvn.schedules.any (·.index == sel)) || decide (shed < shedOf s.pick + 2) || fabricBusy s then s.advise 0x0103
  else ((s.setFld Reg.WVN_SCHED_SEL_SEL sel).setFld Reg.WVN_SCHED_SEL_SHED shed).setFld Reg.WVN_WVN_STAT_SWITCHING 1

/-- SCHEDULE_SWITCH (R323). -/
def switchSchedule (s : State) : State :=
  if s.flag Reg.WVN_WVN_STAT_SWITCHING && decide (s.fld Reg.WVN_SCHED_SEL_SHED ≤ shedOf s.pick) then
    match s.wvn.schedules.find? (·.index == s.fld Reg.WVN_SCHED_SEL_SEL) with
    | some sc => (installSchedule s sc).setFld Reg.WVN_WVN_STAT_SWITCHING 0
    | none => s
  else s

end Sys2Proof.Machine
end

