-- ==== Sys2Proof/Machine/Access.lean ====
section
/-! DEFINITION. Access: what decides whether a register write reaches its register at all: alignment (R14), holes (R31),
a release in progress (R510) and a pending substitution (R23). -/
namespace Sys2Proof.Machine

/-- Whether a counter slot has a block in the grade (R476). -/
def State.slotPresent (s : State) (k : Nat) : Bool :=
  (decide (1 ≤ k) && decide (k ≤ 44)) || (decide (45 ≤ k) && decide (k < 45 + s.nPorts)) ||
    (decide (63 ≤ k) && decide (k ≤ 66)) || (decide (128 ≤ k) && decide (k < 128 + s.nLooms))

/-- Whether a control-window offset is a hole (R31 to R33, R62, R344, R408, R449, R486). Of a block whose chapter does not say so, an
offset that no row covers is a hole too (DESIGN CHOICE, log entry 52). -/
def holeReg (s : State) (off : Nat) : Bool :=
  match blockAt off with
  | none => true
  | some (b, idx, l) => (b.rowAt l).isNone || (match b with
    | .ctx => decide (4 * s.nLooms ≤ idx)
    | .loom => decide (s.nLooms ≤ idx)
    | .time => decide (0x100 + 8 * s.nPorts ≤ l)
    | .wvn => decide (0x10000 + 0x1000 * s.nPorts ≤ l)
    | .res => decide (0x800 + 8 * s.nLooms ≤ l) && decide (l < 0xC00)
    | .pwr => (decide (0x100 + 8 * s.nLooms ≤ l) && decide (l < 0x500)) || (decide (0x800 + 8 * s.nLooms ≤ l) && decide (l < 0xC00))
    | .cnt => (decide (0x4000 ≤ l) && decide (l < 0x8000) && !s.slotPresent ((l - 0x4000) / 0x40)) ||
        (decide (0x8000 ≤ l) && decide (l < 0xC000) && !s.slotPresent ((l - 0x8000) / 0x40))
    | _ => false)

/-- Whether a write is discarded during a release (R510). -/
def releaseLocks (off : Nat) : Bool :=
  off == Reg.GCTL_JOB_SEED || off == Reg.GCTL_JOB_ID || (match blockAt off with
    | some (.ctx, _, _) | some (.htab, _, _) | some (.loom, _, _) | some (.ful, _, _) | some (.res, _, _) => true
    | _ => false)

/-- Whether an offset is a doorbell. -/
def isDoorbell (off : Nat) : Bool :=
  match blockAt off with
  | some (.ctx, _, l) => decide (0x410 ≤ l) && (l - 0x410) % 0x300 == 0
  | _ => false

/-- Whether a position waits for its remap (R23). -/
def State.remapPending (s : State) (loom : Nat) : Bool :=
  s.res.remap == some loom

/-- An ADVISORY STATE_ILLEGAL for an ignored register action (R507), with the logical loom it concerns, if one
(log entry 43). -/
def State.ignored (s : State) (loom : Option Nat := none) : State := s.advise 0x0103 (loom := loom)

/-- A register write that reaches its register acts by `op`; any other is discarded or stalls (R14, R31, R510, R23). -/
def gate (s : State) (priv : Bool) (off len val : Nat) (op : State → State) : State :=
  if off % 8 ≠ 0 ∨ len ≠ 8 ∨ holeReg s off then s.denied (ctlBase + off)
  else if s.releasing && releaseLocks off then (if isDoorbell off then s.ignored (loomOfReg off) else s.denied (ctlBase + off))
  else if (loomOfReg off).any s.remapPending then
    { s with res := { s.res with stalled := s.res.stalled ++ [.write priv off len val] } }
  else op s

/-- The snapshot ring, as base and length in bytes (R480). -/
def State.snapRing (s : State) : Nat × Nat :=
  ((s.reg Reg.CNT_SNAP_BASE).toNat, 0x4000 * 2 ^ s.fld Reg.CNT_SNAP_CTL_LOG2N)

/-- The trace ring, as base and length in bytes (R485). -/
def State.traceRing (s : State) : Nat × Nat :=
  ((s.reg Reg.CNT_TR_BASE).toNat, 64 * 2 ^ s.fld Reg.CNT_TR_RING_LOG2N)

/-- The rings of R482. DEDUCED (log entry 48): a ring counts whether it runs or not, but not before its base has been written, since
until then the base is undefined (R15). -/
def State.cntRings (s : State) : List (Nat × Nat) :=
  (if s.cnt.snapSet || s.flag Reg.CNT_CNT_CTL_RUN then [s.snapRing] else []) ++
  if s.cnt.traceSet || s.flag Reg.CNT_TR_CTL_EN then [s.traceRing] else []

/-- The counter rings that a release leaves: the snapshot ring while RUN is set, the trace ring while EN is set (R37). -/
def State.runningRings (s : State) : List (Nat × Nat) :=
  (if s.flag Reg.CNT_CNT_CTL_RUN then [s.snapRing] else []) ++ if s.flag Reg.CNT_TR_CTL_EN then [s.traceRing] else []

/-- Whether the buffer of an entry touches a range of device addresses. -/
def entryTouches (w0 w1 : W64) (r : Nat × Nat) : Bool :=
  let ext := bitsOf w1.toNat 39 0
  if ext = 0 ∨ r.2 = 0 then false
  else if bitAt w0.toNat 51 then
    let lo := max r.1 (bitsOf w0.toNat 47 0)
    (List.range 13).any fun k =>
      let a := max lo (lo / 4096 * 4096 + 4096 * k)
      decide (a < r.1 + r.2) && (entryOffset w0 w1 a).isSome
  else decide (entryAddr w0 0 < r.1 + r.2) && decide (r.1 < entryAddr w0 0 + ext)

/-- Whether a command of any stream is issued and not retired. -/
def State.busy (s : State) : Bool := !s.cmds.isEmpty

end Sys2Proof.Machine
end

