-- ==== Sys2Proof/Machine/Tables.lean ====
section
/-! DEFINITION. Tables: descriptors (R216, R219, R220), the buffer handle table (R254 to R256), instruction memory loads
(R224, R226), beam cache mode (R270 to R272), and memory errors, scrubbing and repair (R260 to R265). -/
namespace Sys2Proof.Machine

/-! ### Descriptors -/

/-- Whether a descriptor action of a CTX slot is still running (R219). -/
def descBusy (s : State) (slot : Nat) : Bool := !s.flag (Reg.CTX_DESC_STAT_DONE slot)

/-- DESC_STAT for an action; GEN is the generation after the action, so it changes when the action completes. -/
def descStat (s : State) (slot index : Nat) (done refused : Bool) : State :=
  let gen := if done then dGen (s.desc index) else s.fld (Reg.CTX_DESC_STAT_GEN slot)
  (((s.setFld (Reg.CTX_DESC_STAT_INDEX slot) index).setFld (Reg.CTX_DESC_STAT_GEN slot) gen).setFld
    (Reg.CTX_DESC_STAT_DONE slot) (bit done)).setFld (Reg.CTX_DESC_STAT_REFUSED slot) (bit refused)

/-- Whether a staged descriptor is refused (R219): NDIM 0 or 7, or a reserved bit set (R216). DESIGN CHOICE (log entry 53):
bits 7:3 of byte 8, which stand in no row of the table, are reserved. -/
def descBad (d : List W64) : Bool :=
  dNdim d == 0 || dNdim d == 7 || bitsOf (dword d 0) 15 12 != 0 || bitsOf (dword d 1) 63 3 != 0

/-- The sixteen staged words of a CTX slot. -/
def stagedDesc (s : State) (slot : Nat) : List W64 := (List.range 16).map fun w => s.reg (Reg.CTX_DSTAGE slot w)

/-- DESC_COMMIT, a commit (R219). -/
def commitDesc (s : State) (slot index : Nat) : State :=
  if descBusy s slot then s.denied (ctlBase + Reg.CTX_DESC_COMMIT slot)
  else if descBad (stagedDesc s slot) then descStat s slot index true true
  else
    let s := descStat s slot index false false
    { s with descWait := s.descWait ++ [(slot, index, stagedDesc s slot)] }

/-- Whether a command of the job that resolved a descriptor is issued and not retired. -/
def descInUse (s : State) (index : Nat) : Bool :=
  s.cmds.any fun c => !c.sw && c.names.any fun h => handleIndex h == index

/-- The staged fields as installed: VALID set, POISON clear, GEN advanced (R219). -/
def installed (old d : List W64) : List W64 :=
  dSet0 (dSet0 (dSet0 d 26 26 0) 27 27 1) 31 28 ((dGen old + 1) % 16)

/-- DESC_INSTALL: a waiting commit installs, in arrival order for its index, once no command that resolved the old
descriptor remains (R219). -/
def installDesc (s : State) (slot : Nat) : State :=
  match s.descWait.find? (·.1 == slot) with
  | none => s
  | some w =>
    if (s.descWait.find? (·.2.1 == w.2.1)).map (·.1) = some slot ∧ !descInUse s w.2.1 then
      let s := s.setDesc w.2.1 (installed (s.desc w.2.1) w.2.2)
      descStat { s with descWait := s.descWait.filter (·.1 != slot) } slot w.2.1 true false
    else s

/-- DESC_COMMIT with READ (R219). -/
def readDesc (s : State) (slot index : Nat) : State :=
  if descBusy s slot then s.denied (ctlBase + Reg.CTX_DESC_COMMIT slot)
  else
    let s := (List.range 16).foldl (fun s w => s.setReg (Reg.CTX_DSTAGE slot w) ((s.desc index).getD w 0)) s
    descStat s slot index true false

/-- DESC_COMMIT with CLEAR_POISON (R219). -/
def unpoison (s : State) (slot index : Nat) : State :=
  if descBusy s slot then s.denied (ctlBase + Reg.CTX_DESC_COMMIT slot)
  else descStat (s.setDesc index (dSet0 (s.desc index) 26 26 0)) slot index true false

/-! ### The buffer handle table -/

/-- The tier rule of R255: a buffer of `ext` bytes lies wholly in the tier that TIER names. -/
def inTier (w0 : W64) (ext : Nat) : Bool :=
  let a := entryAddr w0 0
  let b := entryAddr w0 (ext - 1)
  match bitsOf w0.toNat 49 48 with
  | 0 => decide (b < hbmEnd)
  | 1 => decide (beamBase ≤ a) && decide (b < beamEnd)
  | _ => decide (bobbinBase ≤ a) && decide (b < bobbinEnd)

/-- The banks that the buffer of an entry covers. -/
def entryBanks (w0 w1 : W64) : List Nat :=
  let ext := bitsOf w1.toNat 39 0
  if bitsOf w0.toNat 49 48 = 1 ∧ ext ≠ 0 then
    let a := bankOf (entryAddr w0 0)
    (List.range (bankOf (entryAddr w0 (ext - 1)) + 1 - a)).map (· + a)
  else []

/-- Whether a beam die (0 to 5) of a compute die is in cache mode or switching (R271). -/
def cachedOrSwitching (s : State) (die b : Nat) : Bool :=
  bitAt (s.fld (Reg.HTAB_BEAM_STAT_MODE die)) b || bitAt (s.fld (Reg.HTAB_BEAM_MODE_CACHE die)) b

/-- The rules of R255 as numbered, each with whether an entry breaks it; rule 2 also refuses a buffer that touches a
counter ring while USER is clear (R482). -/
def htRules (s : State) (die : Nat) (w0 w1 : W64) : List (Nat × Bool) :=
  let w := w0.toNat
  let ext := bitsOf w1.toNat 39 0
  let tier := bitsOf w 49 48
  let banks := entryBanks w0 w1
  [(1, bitsOf w 62 58 != 0 || bitsOf w1.toNat 63 40 != 0 || tier == 3 || bitsOf w 47 0 % 64 != 0 ||
      (tier != 0 && (bitAt w 51 || bitsOf w 55 52 != 0))),
   (2, ext != 0 && (!inTier w0 ext || (!s.flag Reg.CNT_CNT_ACCESS_USER && s.cntRings.any (entryTouches w0 w1)))),
   (3, banks.any fun b => b / 96 != die),
   (4, banks.any fun b => cachedOrSwitching s (b / 96) (b % 96 / 16)),
   (5, bitAt w 51 && (bitsOf w 47 0 % 0xC000 != 0 || decide (11 < bitsOf w 55 52))),
   (6, bitAt w 50 && banks.any fun b => s.bank b == 2)]

/-- The lowest-numbered REASON that an entry breaks (R255). -/
def htReason (s : State) (die : Nat) (w0 w1 : W64) : Option Nat := ((htRules s die w0 w1).find? (·.2)).map (·.1)

/-- HT_STAT after a commit. -/
def htStat (s : State) (die index : Nat) (done : Bool) (reason : Nat) : State :=
  (((s.setFld (Reg.HTAB_HT_STAT_INDEX die) index).setFld (Reg.HTAB_HT_STAT_DONE die) (bit done)).setFld
    (Reg.HTAB_HT_STAT_REFUSED die) (bit (reason != 0))).setFld (Reg.HTAB_HT_STAT_REASON die) reason

/-- HT_COMMIT (R255, R256). Rule 6 also raises RESIDENT_CONFLICT (R282). -/
def commitEntry (s : State) (die index : Nat) : State :=
  if !s.flag (Reg.HTAB_HT_STAT_DONE die) then s.denied (ctlBase + Reg.HTAB_HT_COMMIT die)
  else
    let w0 := BitVec.ofNat 64 (setBits (setBits (s.reg (Reg.HTAB_HT_STAGE0 die)).toNat 63 63 0) 57 56 0)
    let w1 := s.reg (Reg.HTAB_HT_STAGE1 die)
    match htReason s die w0 w1 with
    | some r =>
      let s := htStat s die index true r
      match r, (entryBanks w0 w1).find? (fun b => s.bank b == 2) with
      | 6, some b => s.advise 0x0304 b 1 (q := some die)
      | _, _ => s
    | none =>
      let s := htStat s die index false 0
      { s with htWait := smSet (fun _ => none) s.htWait die (some (index, w0 ||| BitVec.ofNat 64 (2 ^ 63), w1)) }

/-- HT_COMMIT with INVALIDATE (R256): VALID clears, the entry's words else stand. -/
def invalidateEntry (s : State) (die index : Nat) : State :=
  if !s.flag (Reg.HTAB_HT_STAT_DONE die) then s.denied (ctlBase + Reg.HTAB_HT_COMMIT die)
  else
    let e := s.htEntry die index
    let s := htStat s die index false 0
    { s with htWait := smSet (fun _ => none) s.htWait die (some (index, BitVec.ofNat 64 (setBits e.1.toNat 63 63 0), e.2)) }

/-- Whether a command that resolved an entry is issued and not retired (R25, R256). -/
def entryInUse (s : State) (die index : Nat) : Bool := s.cmds.any fun c => c.entries.contains (1024 * die + index)

/-- HT_INSTALL_DONE: the waiting change of a die's table completes once every command that resolved the old entry has
retired (R256). -/
def finishEntry (s : State) (die : Nat) : State :=
  match smGet (fun _ => none) s.htWait die with
  | none => s
  | some (index, w0, w1) =>
    if entryInUse s die index then s
    else
      let s := (s.setReg (Reg.HTAB_ENTRY_W0 die index) w0).setReg (Reg.HTAB_ENTRY_W1 die index) w1
      { s with htWait := smSet (fun _ => none) s.htWait die none }.setFld (Reg.HTAB_HT_STAT_DONE die) 1

/-- Whether a valid entry of any die, with RESIDENT set when `res` asks for it, satisfies a test. -/
def State.anyEntry (s : State) (res : Bool) (p : W64 → W64 → Bool) : Bool :=
  (List.range 4).any fun d => (List.range 1024).any fun i =>
    let e := s.htEntry d i
    bitAt e.1.toNat 63 && (!res || bitAt e.1.toNat 50) && p e.1 e.2

/-- PSTATE of an entry (R254): of the banks its buffer covers. -/
def entryPstate (s : State) (w0 w1 : W64) : Nat :=
  match (entryBanks w0 w1).map s.bank with
  | [] => 0
  | b :: rest => if rest.all (· == b) then b else 3

/-! ### Instruction memory -/

/-- The page generation of a loom (R224). -/
def State.pgen (s : State) (loom page : Nat) : Nat :=
  bitsOf (s.reg (Reg.LOOM_PGEN loom (page / 8))).toNat (8 * (page % 8) + 7) (8 * (page % 8))

/-- A page's generation advanced: 1 to 255 and then 1 again (R224). -/
def State.bumpPgen (s : State) (loom page : Nat) : State :=
  let g := s.pgen loom page
  s.setReg (Reg.LOOM_PGEN loom (page / 8)) (BitVec.ofNat 64
    (setBits (s.reg (Reg.LOOM_PGEN loom (page / 8))).toNat (8 * (page % 8) + 7) (8 * (page % 8)) (if g = 255 then 1 else g + 1)))

/-- A word of a loom's instruction memory. -/
def State.imWord (s : State) (loom word : Nat) : W64 := smGet (fun _ => 0) s.imem (32768 * loom + word)

/-- Whether a load of a loom is requested and not complete. -/
def State.loadOpen (s : State) (loom : Nat) : Bool :=
  s.flag (Reg.LOOM_IMLD_STAT_PENDING loom) || s.flag (Reg.LOOM_IMLD_STAT_BUSY loom)

/-- A stream is inside a program: it has entered one and can still issue from it (R226). -/
def StreamSt.inside (t : StreamSt) : Bool := t.prog.isSome && (t.state == .running || t.state == .held)

/-- The pages that the fields of IMLD_CTL name. -/
def loadPages (s : State) (loom : Nat) : List Nat :=
  (List.range (s.fld (Reg.LOOM_IMLD_CTL_COUNT loom))).map (· + s.fld (Reg.LOOM_IMLD_CTL_PAGE loom))

/-- A load is refused: source not 4 KiB aligned or outside HBM, or pages beyond 63 (R226). -/
def loadBad (s : State) (loom : Nat) : Bool :=
  let a := (s.reg (Reg.LOOM_IMLD_SRC loom)).toNat
  let n := s.fld (Reg.LOOM_IMLD_CTL_COUNT loom)
  a % 4096 != 0 || decide (64 < s.fld (Reg.LOOM_IMLD_CTL_PAGE loom) + n) || (n != 0 && !inHbm a (4096 * n))

/-- The fault of a program that a forced load stops (R226, R508): the page of the bundle it would have fetched next, the
RUN's PGEN and that page's generation. -/
def reloadFault (s : State) (loom : Nat) (p : ProgPos) : LateFault :=
  { code := 0x0107, dw0 := min (p.pc / 512) 63, dw1 := p.pgen, dw2 := s.pgen loom (min (p.pc / 512) 63) }

/-- A stream's program stopped at a bundle boundary by a forced load: the bundle it would have fetched next faults (R226,
R508). -/
def stopProgram (s : State) (loom stream : Nat) : State :=
  let t := s.stream loom stream
  match t.prog with
  | none => s
  | some p =>
    let s := s.setStream loom stream { t with reload := false, bno := t.bno + 1 }
    let tag : Tag := if p.pc < 32768 then hTag (s.imWord loom p.pc).toNat else 0
    s.streamFault { loom := loom, stream := stream, slot := 0, tag := tag, iters := t.loops.map (·.iter) } (t.bno + 1) s.nextId
      (reloadFault s loom p) none false []

/-- A forced load reaches one stream: at once when it stands at a bundle boundary, else at its next one (R226). -/
def forceStream (loom : Nat) (s : State) (stream : Nat) : State :=
  let t := s.stream loom stream
  if t.inside then
    if t.queue.isEmpty then stopProgram s loom stream else s.setStream loom stream { t with reload := true }
  else s

/-- A write of IMLD_CTL with GO set, its fields already in the register (R226). An accepted load of one page or more clears
FORCED and takes its source from IMLD_SRC as it stands now; the spec gives the bit and the source no other moment (DESIGN CHOICE,
log entry 56). -/
def startLoad (s : State) (loom : Nat) (force : Bool) : State :=
  if s.loadOpen loom then s.denied (ctlBase + Reg.LOOM_IMLD_CTL loom)
  else if loadBad s loom then s.setFld (Reg.LOOM_IMLD_STAT_REFUSED loom) 1
  else if s.fld (Reg.LOOM_IMLD_CTL_COUNT loom) = 0 then s.setFld (Reg.LOOM_IMLD_STAT_DONE loom) 1
  else
    let s := (s.setFld (Reg.LOOM_IMLD_STAT_PENDING loom) 1).setFld (Reg.LOOM_IMLD_STAT_FORCED loom) 0
    let s := s.setLoom loom { s.loom loom with imPages := loadPages s loom, imSrc := (s.reg (Reg.LOOM_IMLD_SRC loom)).toNat }
    if force && (List.range 16).any (fun t => (s.stream loom t).inside) then
      (List.range 16).foldl (forceStream loom) (s.setFld (Reg.LOOM_IMLD_STAT_FORCED loom) 1)
    else s

/-- IMEM_LOAD_START: the pending load begins to write once no stream of the loom is inside a program (R226). -/
def beginLoad (s : State) (loom : Nat) : State :=
  if s.flag (Reg.LOOM_IMLD_STAT_PENDING loom) && !(List.range 16).any (fun t => (s.stream loom t).inside) then
    (s.setFld (Reg.LOOM_IMLD_STAT_PENDING loom) 0).setFld (Reg.LOOM_IMLD_STAT_BUSY loom) 1
  else s

/-- One page written from its source, its generation advanced (R226); what a failing word leaves in it is open (R261; log entry
55). -/
def loadPage (loom src : Nat) (s : State) (p : Nat × Nat) : State :=
  let words : List (Nat × W64) := (List.range 512).map fun i => (512 * p.1 + i, BitVec.ofNat 64 (leValue (s.readOut (src + 4096 * p.2 + 8 * i) 8)))
  { s with imem := words.foldl (fun (m : SMap W64) (w : Nat × W64) => smSet (fun _ => 0) m (32768 * loom + w.1) w.2) s.imem }.bumpPgen loom p.1

/-- IMEM_LOAD_COMPLETE: the last word is written (R226). -/
def endLoad (s : State) (loom : Nat) : State :=
  if s.flag (Reg.LOOM_IMLD_STAT_BUSY loom) then
    let t := s.loom loom
    let s := t.imPages.zipIdx.foldl (loadPage loom t.imSrc) s
    let s := s.setLoom loom { s.loom loom with imPages := [] }
    (s.setFld (Reg.LOOM_IMLD_STAT_BUSY loom) 0).setFld (Reg.LOOM_IMLD_STAT_DONE loom) 1
  else s

/-! ### Beam cache mode -/

/-- Beam dies of a compute die that are switching: requested in one mode and still in the other. -/
def switching (s : State) (die : Nat) : List Nat :=
  (List.range 6).filter fun b => bitAt (s.fld (Reg.HTAB_BEAM_STAT_MODE die)) b != bitAt (s.fld (Reg.HTAB_BEAM_MODE_CACHE die)) b

/-- Beam dies whose mode a written CACHE field would change. -/
def switchBits (s : State) (die cache : Nat) : List Nat :=
  (List.range 6).filter fun b => bitAt (s.fld (Reg.HTAB_BEAM_MODE_CACHE die)) b != bitAt cache b

/-- Whether a valid entry maps into a beam die (R271). -/
def mappedDie (s : State) (beam : Nat) : Bool := s.anyEntry false fun w0 w1 => (entryBanks w0 w1).any fun b => b / 16 == beam

/-- The beam die for which a switch request is refused (R271); a die that is switching takes no other switch. -/
def switchRefused (s : State) (die cache : Nat) : Option Nat :=
  (switchBits s die cache).find? fun b =>
    (switching s die).contains b || (bitAt cache b &&
      (mappedDie s (6 * die + b) || (List.range 16).any (fun k => s.bank (96 * die + 16 * b + k) != 0) ||
        decide (3 < popCount 6 cache)))

/-- The scratchpad contents of a beam die (0 to 5) of a compute die as zero. -/
def zeroBeam (die : Nat) (s : State) (b : Nat) : State :=
  s.zeroRange (beamBase + 0x8000000 * (6 * die + b)) (beamBase + 0x8000000 * (6 * die + b + 1))

/-- A BEAM_MODE write (R271). A switch into cache mode discards the die's contents at once. -/
def switchBeam (s : State) (die cache : Nat) : State :=
  match switchRefused s die cache with
  | some b => (s.setFld (Reg.HTAB_BEAM_STAT_REFUSED die) 1).advise 0x0303 (6 * die + b) (q := some die)
  | none =>
    if switchBits s die cache = [] then s
    else
      let into := (switchBits s die cache).filter (bitAt cache)
      let s := (s.setFld (Reg.HTAB_BEAM_MODE_CACHE die) cache).setFld (Reg.HTAB_BEAM_STAT_BUSY die) 1
      into.foldl (zeroBeam die) s

/-- BEAM_SWITCH_COMPLETE (R271): the mode changes; a die that returns to scratchpad is zero-filled. -/
def endSwitch (s : State) (die : Nat) : State :=
  if s.flag (Reg.HTAB_BEAM_STAT_BUSY die) then
    let s := (switching s die).foldl (zeroBeam die) s
    (s.setFld (Reg.HTAB_BEAM_STAT_MODE die) (s.fld (Reg.HTAB_BEAM_MODE_CACHE die))).setFld (Reg.HTAB_BEAM_STAT_BUSY die) 0
  else s

/-! ### Memory errors -/

/-- The stack of an HBM address (R27). -/
def stackOf (a : Nat) : Nat := (a / 4096) % 12
/-- The stack offset of an HBM address (R27). -/
def stackOff (a : Nat) : Nat := a / 4096 / 12 * 4096 + a % 4096
/-- The channel of a stack that an HBM address lies in (R259). -/
def channelOf (a : Nat) : Nat := stackOff a / 4096 % 32

/-- Errors of a channel so far: corrected, uncorrectable, and whether it has been reported (R265). -/
def State.chanErr (s : State) (stack channel : Nat) : Nat × Nat × Bool := smGet (fun _ => (0, 0, false)) s.chanErrs (32 * stack + channel)
/-- The state with a channel's errors replaced. -/
def State.setChanErr (s : State) (stack channel : Nat) (e : Nat × Nat × Bool) : State :=
  { s with chanErrs := smSet (fun _ => (0, 0, false)) s.chanErrs (32 * stack + channel) e }

/-- One error of an HBM access, in its row, its channel and its stack (R259, R261, R264, R265). -/
def countHbm (s : State) (a : Nat) (correctable : Bool) : State :=
  let st := stackOf a
  let row := a / 64 * 64
  let e := s.chanErr st (channelOf a)
  let s := { s with rowErrs := smSet (fun _ => 0) s.rowErrs row (if correctable then smGet (fun _ => 0) s.rowErrs row + 1 else 8) }
  let s := s.setChanErr st (channelOf a) (if correctable then (e.1 + 1, e.2) else (e.1, e.2.1 + 1, e.2.2))
  if correctable then (s.addSat (Reg.HTAB_HBM_CE_COUNT (st / 3) (st % 3)) 1).countEvent (9 + st) 3 0 1
  else s.addSat (Reg.HTAB_HBM_UE_COUNT (st / 3) (st % 3)) 1

/-- One error of a word of a die's beam, in scratchpad or in a cache line (R260). -/
def countBeam (s : State) (d : Nat) (correctable : Bool) : State :=
  if correctable then s.addSat (Reg.HTAB_SRAM_CE_BEAM d) 1 else s.addSat (Reg.HTAB_SRAM_UE_BEAM d) 1

/-- One error of a word of a die's bobbins or instruction memories (R260). -/
def countBobbin (s : State) (d : Nat) (correctable : Bool) : State :=
  if correctable then s.addSat (Reg.HTAB_SRAM_CE_BOBBIN d) 1 else s.addSat (Reg.HTAB_SRAM_UE_BOBBIN d) 1

/-- Whether an HBM address can be in a line of a beam die in cache mode: one of the compute die that holds its stack (R270). -/
def lineOf (s : State) (a : Nat) : Bool := tierOf a == .hbm && s.fld (Reg.HTAB_BEAM_STAT_MODE (stackOf a / 3)) != 0

/-- One error counted where it was met (R260, R261): `line` says that an HBM address was read from a beam line in cache mode. -/
def countError (s : State) (a : Nat) (line correctable : Bool) : State :=
  match tierOf a with
  | .hbm => if line && lineOf s a then countBeam s (stackOf a / 3) correctable else countHbm s a correctable
  | .beam => countBeam s (bankOf a / 96) correctable
  | .bobbin => countBobbin s (s.dieOf (bobbinLoom a)) correctable
  | .hole => s

/-- The detail words of MEM_UNCORRECTABLE (R508): the address, and SRAM or HBM. -/
def memFault (a : Nat) (line : Bool := false) : LateFault := { code := 0x0301, dw0 := a, dw1 := if tierOf a = .hbm ∧ !line then 3 else 2 }

/-- Whether a command's writes read the 64-bit word of an address to merge with it (R260): a word of SRAM that they cover in part, to
the bit, or a merge of block statistics. -/
def mergesWord (c : Cmd) (a : Nat) : Bool :=
  let w := a / 8 * 8
  let in8 (k : Nat) : Bool := inRuns c.writes (w + k)
  tierOf a != .hbm && (((List.range 8).any in8 && !(List.range 8).all in8) ||
    (c.plan.writes.any (fun x => x.addr / 8 * 8 == w) && !coversWord c.plan.writes w) ||
    c.plan.stats.any fun m => decide (m.addr ≤ a) && decide (a < m.addr + 32))

/-- An error met by a read of a command in flight (R260, R261). A draining command's errors only count (R236). -/
def cmdReadError (s : State) (id a : Nat) (line correctable : Bool) : State :=
  match s.cmd? id with
  | none => s
  | some c =>
    if inRuns c.reads a || mergesWord c a then
      let f := memFault a (line && lineOf s a)
      let s := countError s a line correctable
      if correctable || c.draining then s else s.lateFault c f
    else s

/-- Where the words of a stream's next bundle lie, the header first: words of instruction memory by 32768 * loom + word, or ring
words by address (R225, R228). -/
def fetchWords (s : State) (loom : Nat) (t : StreamSt) : List Nat :=
  match t.prog with
  | some p => (List.range (bundleLen (s.imWord loom p.pc).toNat)).map (· + (32768 * loom + p.pc))
  | none => (List.range (bundleLen (s.load (t.base + 8 * t.head) 8))).map fun k => t.base + 8 * ((t.head + k) % t.ringWords)

/-- The header of a bundle whose fetch fails at an address; none when the header is what failed. -/
def fetchHeader (s : State) (loom : Nat) (t : StreamSt) (a : Nat) : Option Nat :=
  match t.prog with
  | some p => if a = 32768 * loom + p.pc then none else some (s.imWord loom p.pc).toNat
  | none => if a = t.base + 8 * t.head then none else some (s.load (t.base + 8 * t.head) 8)

/-- The TAG that the record of a failed fetch shows: the header's, 0 when the header is what failed (log entry 55). -/
def fetchTag (s : State) (loom : Nat) (t : StreamSt) (a : Nat) : Tag := hTag ((fetchHeader s loom t a).getD 0)

/-! ### Traces (R483, R484) -/

/-- Whether the generator selects a bundle for tracing (R483). -/
def traceDraw (s : State) (loom stream tag it step : Nat) : Bool :=
  let n := s.fld Reg.CNT_TR_CTL_N
  let seed := (s.reg Reg.GCTL_JOB_SEED).toNat
  let sid := 5 * 2 ^ 24 + s.fld Reg.CNT_TR_CTL_TSID * 2 ^ 16 + loom * 2 ^ 8 + stream
  (philox (tag, it, step, sid) (seed % 2 ^ 32) (seed / 2 ^ 32)).1 / 2 ^ (32 - n) == 0

/-- Whether a command accesses operands. -/
def accesses : SlotCmd → Bool
  | .mpair _ | .cset _ _ | .cadd _ | .cmp _ | .loop _ _ _ | .endloop | .skipif _ _ _ | .run _ _ _ | .waitsem _ _ | .signal _ _ _ _
  | .waitpick _ | .fence _ | .ckptVote _ => false
  | _ => true

/-- The trace record of a selected bundle (R483, R484): its times are free values (log entry 17), PICK and FRAC those of its decode. -/
def traceOf (s : State) (loom stream : Nat) (hdr : Nat) (cmds : List SlotCmd) : Option TraceRec :=
  let t := s.stream loom stream
  let iters := t.loops.map (·.iter)
  let step := (t.ctr (s.fld (Reg.LOOM_GEN_STEPCTR loom (stream % 4)))).toNat
  let tag := (hTag hdr).toNat
  if s.flag Reg.CNT_TR_CTL_EN && !s.swMode && (hTr hdr || traceDraw s loom stream tag (iters.getLastD 0) step) then
    let data := cmds.any accesses
    let v (k : Nat) : Nat := Config.freeValue (s.freeCtr + k)
    let at_ := t.decoded.getD (s.pick, s.time.frac)
    some { pick := at_.1, frac := at_.2, issue := v 0, first := if data then v 1 else v 0, last := if data then v 2 else v 0
           retire := v 3, tag := tag, loom := loom, stream := stream, mask := hMask hdr, forced := hTr hdr, nodata := !data
           held := t.hold.isSome, iters := iters }
  else none

/-- A trace record begun: its four free values are taken, and the bundle counts as selected (R478, R483). -/
def State.traced (s : State) (loom stream : Nat) (tr : Option TraceRec) : State :=
  if tr.isSome then { s with freeCtr := s.freeCtr + 4 }.countEvent (128 + loom) 0x0F stream 1 else s

/-- A bundle that faults before any command of it has issued: it is the stream's next, and one of a known header that is selected has
its trace record (R209, R484). -/
def State.failBundle (s : State) (loom stream : Nat) (hdr : Option Nat) : State :=
  let t := s.stream loom stream
  let tr := hdr.bind fun h => traceOf s loom stream h []
  (s.setStream loom stream { t with bno := t.bno + 1, bundles := t.bundles ++ [
      { bno := t.bno + 1, tag := hTag (hdr.getD 0), signal := 0, issued := false, ring := t.prog.isNone, endOff := t.head, running := false
        trace := tr }] }).traced loom stream tr

/-- An error met by the fetch of a stream's next bundle (R225, R260, R261): an uncorrectable one faults the stream at that
bundle. Instruction memory has no device address, so the record's is 0 (log entry 20). -/
def fetchError (s : State) (loom stream a : Nat) (line correctable : Bool) : State :=
  let t := s.stream loom stream
  if (t.state = .running ∨ t.state = .held) ∧ t.queue = [] ∧ (fetchWords s loom t).contains a ∧ (t.prog.isSome ∨ 0 < t.pending) then
    let im := t.prog.isSome
    let s1 := if im then countBobbin s (s.dieOf loom) correctable else countError s a line correctable
    if correctable then s1
    else
      let s1 := s1.failBundle loom stream (fetchHeader s loom t a)
      s1.streamFault { loom := loom, stream := stream, slot := 0, tag := fetchTag s loom t a, iters := t.loops.map (·.iter) } (t.bno + 1)
        s1.nextId (if im then { code := 0x0301, dw1 := 2 } else memFault a (line && lineOf s a)) none false []
  else s

/-- A word, or a whole 64-byte HBM access, that fails every read until a write covers it (R262); `sram` says that an HBM address lies
in a cache line. -/
def State.markBad (s : State) (a : Nat) (sram : Bool) : State :=
  let whole := tierOf a = .hbm ∧ !sram
  let lo := if whole then a / 64 * 64 else a / 8 * 8
  let n := if whole then 8 else 1
  { s with badWords := (List.range n).foldl (fun m k => smSet (fun _ => false) m (lo + 8 * k) true) s.badWords }

/-- Whether an address holds memory of the device that serves accesses. -/
def servedAddr (s : State) (a : Nat) : Bool := !s.absent a && !s.shut a

/-- MEMORY_READ_ERROR (R225, R260, R261). Where no command reads, an uncorrectable error only counts, and the word stays
unreadable, so that its data never leaves the device (DEDUCED, log entry 55). -/
def readError (s : State) (what : MemReader) (a : Nat) (line correctable : Bool) : State :=
  match what with
  | .cmd id => cmdReadError s id a line correctable
  | .fetch loom stream => fetchError s loom stream a line correctable
  | .other =>
    if servedAddr s a then
      let s := countError s a line correctable
      if correctable then s else s.markBad a (line && lineOf s a)
    else s

/-- SCRUB_PASS (R262): the scrubber reads a word of memory or of a cache line and meets an error; an uncorrectable one keeps failing
until a write covers it. -/
def scrub (s : State) (a : Nat) (line correctable : Bool) : State :=
  let die := match tierOf a with
    | .hbm => stackOf a / 3
    | .beam => bankOf a / 96
    | _ => s.dieOf (bobbinLoom a)
  if servedAddr s a && s.flag (Reg.HTAB_SCRUB_ENABLE die) then
    let sram := line && lineOf s a
    let s := countError s a line correctable
    if correctable then s else (s.markBad a sram).advise 0x0301 a (memFault a sram).dw1 (q := some (s.memQueue a))
  else s

/-- The bad word, if any, that a command's reads meet, or a write that merges with it (R260, R262). -/
def badRead (s : State) (c : Cmd) : Option Nat :=
  (s.badWords.find? fun p => c.reads.any (fun r => decide (p.1 ≤ r.2) && decide (r.1 < p.1 + 8)) || mergesWord c p.1).map (·.1)

/-- The device addresses that slot `k` of a throw reads from its source (R261, R268). -/
def slotReads (t : ThrowRun) (k : Nat) : List Nat :=
  (List.range (min slotBytes (t.len - slotBytes * k))).map fun j => entryAddr t.w0 (slotBytes * k + j)

/-- A THROW whose next slot reads a bank that serves no access, or a word that fails every read, faults, and the slot is not sent
(R261, R262, R268). -/
def throwReadFault (s : State) (t : ThrowRun) (k : Nat) : Option State :=
  match s.cmd? t.cmd, (slotReads t k).find? s.shut, (slotReads t k).find? s.isBad with
  | some c, some a, _ => some (s.bankFault c a)
  | some c, none, some a => some ((countError s a false false).lateFault c (memFault a))
  | _, _, _ => none

/-- The signed temperature that an 8-bit field holds. -/
def temp8 (v : Nat) : Int := toSigned 8 v

/-- Rows of a compute die's stacks that are due for repair (R264). -/
def dueRows (s : State) (die : Nat) : List Nat := (s.rowErrs.filter fun p => decide (8 ≤ p.2) && stackOf p.1 / 3 == die).map (·.1)

/-- Row repair in a window (R264): each due row is mapped to a spare row; whether one is left is open, and the count rises
either way. -/
def repairRows (s : State) (die : Nat) : State :=
  (dueRows s die).foldl (fun s a =>
    ({ s with rowErrs := smSet (fun _ => 0) s.rowErrs a 0 }).addSat (Reg.HTAB_HBM_STAT_ROW_REPAIRS (stackOf a / 3) (stackOf a % 3)) 1) s

/-- How far a stack's temperature, as its sensor shows it, has moved since its training, in 1/16 °C. -/
def tempMoved (s : State) (die k : Nat) : Nat :=
  (toSigned 16 (s.fld (Reg.PWR_TEMP_TEMP (80 + 3 * die + k))) - 16 * temp8 (s.fld (Reg.HTAB_HBM_STAT_TEMP_TRAIN die k))).natAbs

/-- The stack that a window retrains (R263): TRAIN_DUE set and the largest difference, the lowest index among equals. -/
def retrainChoice (s : State) (die : Nat) : Option Nat :=
  let due := (List.range 3).filter fun k => s.flag (Reg.HTAB_HBM_STAT_TRAIN_DUE die k)
  due.find? fun k => due.all fun j => decide (tempMoved s die j ≤ tempMoved s die k)

/-- HBM_RETRAIN (R263, R264): in an open retraining window of the schedule rows are repaired, and one of 256 picks or more
retrains at most one stack. -/
def retrain (s : State) (die window temp : Nat) : State :=
  let left := windowLeft s 2
  if decide (4 ≤ die) || decide (left = 0) then s
  else
    let s := repairRows s die
    if decide (min left window < 256) || decide (s.pick < smGet (fun _ => 0) s.trainedTo die) then s
    else
      match retrainChoice s die with
      | none => s
      | some k =>
        let s := { s with trainedTo := smSet (fun _ => 0) s.trainedTo die (s.pick + left) }
        (((s.setFld (Reg.HTAB_HBM_STAT_TEMP_NOW die k) temp).setFld (Reg.HTAB_HBM_STAT_TEMP_TRAIN die k) temp).setFld
          (Reg.HTAB_HBM_STAT_TRAIN_DUE die k) 0).addSat (Reg.HTAB_HBM_TRAINS_COUNT die k) 1

/-- A stack's temperature as its sensor shows it, in 1/16 °C: TEMP_NOW, and TRAIN_DUE when it lies more than 10 °C from the
temperature of its training (R263). -/
def State.hbmTemp (s : State) (stack : Nat) (t : Int) : State :=
  let d := stack / 3
  let k := stack % 3
  let s := s.setFld (Reg.HTAB_HBM_STAT_TEMP_NOW d k) (ofSigned 8 (Int.fdiv t 16))
  if s.boot.trainDone ∧ 160 < (t - 16 * temp8 (s.fld (Reg.HTAB_HBM_STAT_TEMP_TRAIN d k))).natAbs then
    s.setFld (Reg.HTAB_HBM_STAT_TRAIN_DUE d k) 1
  else s

/-- Whether a channel is to be spared (R265): 4 uncorrectable errors, or more corrected ones than the configured threshold. -/
def channelDue (s : State) (stack channel : Nat) : Bool :=
  decide (4 ≤ (s.chanErr stack channel).2.1) || decide (s.boot.spareThreshold < (s.chanErr stack channel).1)

/-- A second channel of a stack that is due: reported once, and it stays in service (R265). -/
def spareExhausted (s : State) (stack channel : Nat) : State :=
  let e := s.chanErr stack channel
  if e.2.2 then s else (s.setChanErr stack channel (e.1, e.2.1, true)).raiseDevice 0x0605 2 stack channel (q := some (stack / 3))

/-- The channel of a stack that is being copied into the reserve (R265). -/
def State.copying (s : State) (stack : Nat) : Option Nat := smGet (fun _ => none) s.sparing stack

/-- CHANNEL_SPARE (R265): a channel that is due begins to be copied into its stack's reserve; its copy, which runs in the windows of
the schedule, completes in one of them, and the reserve replaces the channel. A second channel of the stack that is due is reported. -/
def spareChannel (s : State) (stack channel : Nat) : State :=
  if decide (12 ≤ stack) || decide (32 ≤ channel) || !channelDue s stack channel then s
  else
    let d := stack / 3
    let k := stack % 3
    let next (c : Option Nat) : State := { s with sparing := smSet (fun _ => none) s.sparing stack c }
    match s.copying stack with
    | some c =>
      if c ≠ channel then spareExhausted s stack channel
      else if windowLeft s 2 = 0 then s
      else ((next none).setFld (Reg.HTAB_HBM_STAT_SPARED_CH d k) channel).setFld (Reg.HTAB_HBM_STAT_SPARE_USED d k) 1
    | none =>
      if s.flag (Reg.HTAB_HBM_STAT_SPARE_USED d k) then
        if s.fld (Reg.HTAB_HBM_STAT_SPARED_CH d k) = channel then s else spareExhausted s stack channel
      else next (some channel)

end Sys2Proof.Machine
end

