-- ==== Sys2Proof/Machine/Sync.lean ====
section
/-! DEFINITION. Sync: the scalar and sync commands (R221, R233, R235, R240, R60), and the walk over program words on which
loops and skips rest (R222, R223, R225). -/
namespace Sys2Proof.Machine

/-! ### Counters and comparators (R221) -/

/-- The relation of CMP. -/
def cmpRel (rel : Nat) (x y : W32) : Bool :=
  match rel with
  | 0 => x == y
  | 1 => x != y
  | 2 => x.slt y
  | 3 => !x.slt y
  | 4 => x.ult y
  | _ => !x.ult y

/-- The stream after a CSET, CADD or CMP, from the counters that stood when the bundle began to issue (R211). -/
def StreamSt.scalar (t : StreamSt) (snap : List W32) : SlotCmd → StreamSt
  | .cset cd imm => t.setCtr cd.toNat imm
  | .cadd f => t.setCtr f.cd.toNat (snap.getD f.cs.toNat 0 + (if f.usect then snap.getD f.ct.toNat 0 else f.imm))
  | .cmp f =>
    let v := cmpRel f.rel.toNat (snap.getD f.cs.toNat 0) (if f.usect then snap.getD f.ct.toNat 0 else f.imm)
    { t with cmps := BitVec.ofNat 8 (setBits t.cmps.toNat f.kd.toNat f.kd.toNat (bit v)) }
  | _ => t

/-! ### Sync commands -/

/-- A command launched whose budget is given in picks (R242). -/
def launchPicks (s : State) (i : IssueCtx) (c : SlotCmd) (picks : Nat) (l : Launch) : State :=
  let s' := s.launch i c l
  { s' with cmds := s'.cmds.map fun x => if x.id = s.nextId then { x with budget := some picks } else x }

/-- WAITSEM (R235). -/
def issueWaitsem (i : IssueCtx) (sem : BitVec 6) (n : W32) (s : State) : IssueRes :=
  let t := s.stream i.loom i.stream
  if n.toNat ≤ (t.sem sem.toNat).toNat then .issued (s.setStream i.loom i.stream (t.setSem sem.toNat (t.sem sem.toNat - n)))
  else .held .waitsem

/-- Whether a stream takes a SIGNAL at issue (R239): enabled, and neither FAULTED nor STOPPED. -/
def StreamSt.signalable (t : StreamSt) : Bool := t.enabled && t.state != .faulted && t.state != .stopped

/-- SIGNAL at issue (R235, R239, R240); the addition is made when it retires. -/
def issueSignal (i : IssueCtx) (sem : BitVec 6) (loom : BitVec 7) (stream : BitVec 4) (add : W32) (s : State) : IssueRes :=
  if s.nLooms ≤ loom.toNat then .rejected { code := 0x0102, dw0 := loom.toNat }
  else if !(s.stream loom.toNat stream.toNat).signalable then .rejected { code := 0x0103 }
  else .issued (launchPicks s i (.signal sem loom stream add) (s.slack i.loom i.ctx) { nc := none })

/-- WAITPICK (R60): past targets count in LATE_PICKS, unless the command has been waiting for its target. -/
def issueWaitpick (i : IssueCtx) (p : PickSrc) (s : State) : IssueRes :=
  let target := pickTarget i p
  let waited := match (s.stream i.loom i.stream).hold with | some (.waitpick, _) => true | _ => false
  if s.pick < target then .held .waitpick
  else if target < s.pick && !waited then .issued (s.addSat Reg.TIME_LATE_PICKS_COUNT 1)
  else .issued s

/-- The completion queue of a context (R233): base and size in bytes. -/
def cqRange (s : State) (slot : Nat) : Nat × Nat := ((s.reg (Reg.CTX_CQ_BASE slot)).toNat, 16 * 2 ^ s.fld (Reg.CTX_CQ_CTL_LOG2N slot))

/-- FENCE at issue (R233). -/
def issueFence (i : IssueCtx) (crec : Bool) (s : State) : IssueRes :=
  let q := cqRange s (ctxSlot i.loom i.stream)
  if crec && (q.1 % 64 != 0 || !inHbm q.1 q.2) then .rejected { code := 0x0103 }
  else .issued (launchPicks s i (.fence crec) (s.slack i.loom i.ctx) { nc := none })

/-- The 16 bytes of a completion record (R233). -/
def completionRecord (s : State) (c : Cmd) (wptr log2n : Nat) : List Byte :=
  leBytes 8 s.pick ++ leBytes 3 c.tag.toNat ++ leBytes 1 (c.stream % 16) ++ leBytes 2 (ctxSlot c.loom c.stream) ++
  leBytes 2 (((wptr >>> log2n) + 1) % 2)

/-- A completion record written and WPTR advanced (R233). -/
def writeCompletion (s : State) (c : Cmd) : State :=
  let slot := ctxSlot c.loom c.stream
  let w := s.fld (Reg.CTX_CQ_CTL_WPTR slot)
  let n := s.fld (Reg.CTX_CQ_CTL_LOG2N slot)
  (s.storeBytes ((s.reg (Reg.CTX_CQ_BASE slot)).toNat + 16 * (w % 2 ^ n)) (completionRecord s c w n)).addWrap
    (Reg.CTX_CQ_CTL_WPTR slot) 1

/-- A SIGNAL's addition (R235). -/
def addSignal (s : State) (loom stream sem n : Nat) : State :=
  s.setStream loom stream ((s.stream loom stream).addSem sem n)

/-! ### Program words -/

/-- The running swatch whose program is in view (R399). -/
def State.swRun (s : State) (loom : Nat) : Option SwatchRun := s.res.swatches.find? fun r => r.loom == loom && r.running

/-- Words of the program memory in view: the loom's instruction memory, or a running swatch's program. -/
def State.progLen (s : State) (loom : Nat) : Nat :=
  if s.swMode then match s.swRun loom with | some r => r.prog.length | none => 0 else 32768

/-- A word of the program memory in view. -/
def State.progWord (s : State) (loom pc : Nat) : Option W64 :=
  if pc < s.progLen loom then
    (if s.swMode then (s.swRun loom).bind fun r => r.prog[pc]? else some (s.imWord loom pc))
  else none

/-- Whether the bundle at a program word is a LOOP bundle, an end bundle, carries PB, and its length; nothing where its
header does not check (R208) or lies outside. -/
structure Shape where
  loop : Bool
  ends : Bool
  pb : Bool
  len : Nat
  deriving DecidableEq, Repr

/-- The scalar slot's OP in a bundle whose slot words follow its header. -/
def scalarOp (h : Nat) (word : Nat → Option W64) : Nat :=
  if bitAt (hMask h) 4 then match word (1 + popCount 4 (hMask h % 16)) with | some w => w.toNat % 16 | none => 0 else 0

/-- The shape of the bundle at a program word. -/
def State.shape (s : State) (loom pc : Nat) : Option Shape :=
  match s.progWord loom pc with
  | none => none
  | some h =>
    let h := h.toNat
    if bitsOf h 63 56 = lchk (hMask h) ∧ pc + bundleLen h ≤ s.progLen loom then
      let op := scalarOp h fun k => s.progWord loom (pc + k)
      some { loop := op == 4, ends := hLe h || op == 5, pb := hPb h, len := bundleLen h }
    else none

/-- The word after the end bundle of a loop whose body starts at `pc` (R222): the next end at the same nesting level, at or
before the program's PB bundle. -/
def State.loopEnd (s : State) (loom : Nat) : Nat → Nat → Nat → Option Nat
  | 0, _, _ => none
  | n + 1, level, pc =>
    match s.shape loom pc with
    | none => none
    | some b =>
      if b.ends then
        (if level = 0 then some (pc + b.len) else if b.pb then none else s.loopEnd loom n (level - 1) (pc + b.len))
      else if b.pb then none
      else s.loopEnd loom n (if b.loop then level + 1 else level) (pc + b.len)

/-- Whether the `n` bundles from `pc` may be skipped (R223): no LOOP, no PB, and within an open loop's body up to its end
bundle. A bundle whose header does not check ends the walk: it raises DECODE_ILLEGAL when it is reached. -/
def State.skipOk (s : State) (loom : Nat) (inLoop : Bool) : Nat → Nat → Bool
  | 0, _ => true
  | n + 1, pc =>
    match s.shape loom pc with
    | none => true
    | some b => !b.loop && !b.pb && (!inLoop || !b.ends || n == 0) && s.skipOk loom inLoop n (pc + b.len)

end Sys2Proof.Machine
end

