-- ==== Sys2Proof/Machine/Resil.lean ====
section
/-! DEFINITION. Resil: tally votes (R370 to R377), checkpoint cuts and drains (R378 to R386), restore (R387, R388), expected
replays (R391), spares (R22, R23, R403, R404) and HEALTH (R402). -/
namespace Sys2Proof.Machine

/-! ### Streams of the device -/

/-- The streams whose entries are enabled, as (loom, stream), in increasing order. -/
def State.enabledStreams (s : State) : List (Nat × Nat) :=
  (s.streams.filter fun p => p.2.enabled).map fun p => (p.1 / 16, p.1 % 16)

/-- STOP of every enabled stream (R376). -/
def State.stopAll (s : State) : State := s.enabledStreams.foldl (fun s p => s.stopStream p.1 p.2) s

/-- Whether a stream is IDLE, STOPPED or FAULTED. -/
def StreamSt.atRest (t : StreamSt) : Bool := t.state == .idle || t.state == .stopped || t.state == .faulted

/-- Whether a capture, drain or restore runs (R378, R387, R403). -/
def State.ckptBusy (s : State) : Bool := s.fld Reg.RES_CK_STAT_PHASE != 0 || s.flag Reg.RES_RST_STAT_BUSY

/-! ### Votes -/

/-- P of a CKPT (R371). -/
def ckptPick (i : IssueCtx) (f : CkptF) : Nat := i.ctr f.ch.toNat * 2 ^ 32 + i.ctr f.cl.toNat

/-- DT, lane by lane (R370). -/
def deviceTally (s : State) : Nat × Nat :=
  ((List.range 4).foldl (fun n d => n ^^^ (s.reg (Reg.FUL_TALLY_ACC_LO d)).toNat) 0,
   (List.range 4).foldl (fun n d => n ^^^ (s.reg (Reg.FUL_TALLY_ACC_HI d)).toNat) 0)

/-- TALLY_ACC of every die cleared (R372). -/
def clearTallies (s : State) : State :=
  (List.range 4).foldl (fun s d => (s.setReg (Reg.FUL_TALLY_ACC_LO d) 0).setReg (Reg.FUL_TALLY_ACC_HI d) 0) s

/-- The REPLAY_EXPECT entries that a latch is compared with (R391). -/
def expectEntries (s : State) (vstep : Nat) : List Nat :=
  (List.range 8).filter fun i => s.flag (Reg.RES_REXP_CTL_VALID i) && (s.reg (Reg.RES_REXP_STEP i)).toNat == vstep

/-- Whether an entry holds a device tally. -/
def expectHolds (s : State) (dt : Nat × Nat) (i : Nat) : Bool :=
  (s.reg (Reg.RES_REXP_LO i)).toNat == dt.1 && (s.reg (Reg.RES_REXP_HI i)).toNat == dt.2

/-- Whether the latch diverges from every expectation of its step (R391). -/
def diverges (s : State) (vstep : Nat) (dt : Nat × Nat) : Bool :=
  !(expectEntries s vstep).isEmpty && !(expectEntries s vstep).any (expectHolds s dt)

/-- MATCHED, or DIVERGED with REPLAY_DIVERGED (R391). -/
def compareExpect (s : State) (vstep : Nat) (dt : Nat × Nat) : State :=
  let es := expectEntries s vstep
  if diverges s vstep dt then
    (es.foldl (fun s i => s.setFld (Reg.RES_REXP_CTL_DIVERGED i) 1) s).raiseDevice 0x0604 vstep dt.1
  else (es.filter (expectHolds s dt)).foldl (fun s i => s.setFld (Reg.RES_REXP_CTL_MATCHED i) 1) s

/-- Whether the vote record of a latch has INVALID set (R372, R376, R391). -/
def latchInvalid (s : State) (vstep : Nat) (dt : Nat × Nat) : Bool :=
  s.res.invalidSeen || s.flag Reg.RES_RES_STAT_EXPELLED || s.flag Reg.RES_RES_STAT_VOTE_HOLD || diverges s vstep dt

/-- The DEADLINE of a vote's gather, START = P + 32 and one slot (R334, R373). -/
def voteDeadline (s : State) (p : Nat) : Option Nat :=
  match flowEntry s (s.fld Reg.RES_VOTE_CFG_VFLOW) with
  | some f => if f.collective then some (p + 32 + f.cbase) else none
  | none => none

/-- A vote record: VSTEP, the two lanes of DT, INVALID (R372). -/
abbrev VoteRec := Nat × Nat × Nat × Bool

/-- The 32 bytes of a vote record (R372). -/
def voteBytes (r : VoteRec) : List Byte := leBytes 8 r.1 ++ leBytes 8 r.2.1 ++ leBytes 8 r.2.2.1 ++ leBytes 8 (bit r.2.2.2)

/-- The GATHER of a vote (R373): NREP members of VMEMB, this one at REP_RANK, START = P + 32. -/
def voteGather (s : State) (p : Nat) (r : VoteRec) : VoteGather :=
  { start := p + 32, deadline := (voteDeadline s p).getD (p + 32), rank := s.fld Reg.RES_VOTE_CFG_REP_RANK
    members := (List.range (s.fld Reg.RES_VOTE_CFG_NREP)).map fun k => s.fld (Reg.RES_VMEMB_GRANK k), record := voteBytes r }

/-- What a VOTE latches (R372). -/
def voteRun (s : State) (i : IssueCtx) (cmd p : Nat) : VoteRun :=
  let vstep := i.step s
  let dt := deviceTally s
  let inv := latchInvalid s vstep dt
  { cmd := cmd, vstep := vstep, lo := dt.1, hi := dt.2, invalid := inv, gather := voteGather s p (vstep, dt.1, dt.2, inv) }

/-- The latch of a VOTE (R372). -/
def latchVote (s : State) (v : VoteRun) : State :=
  let s := { s with res := { s.res with votes := s.res.votes ++ [v], invalidSeen := false } }
  let s := (((s.setReg Reg.RES_VOTE_STEP (BitVec.ofNat 64 v.vstep)).setReg Reg.RES_VOTE_DT_LO (BitVec.ofNat 64 v.lo)).setReg
    Reg.RES_VOTE_DT_HI (BitVec.ofNat 64 v.hi)).addWrap Reg.RES_VOTES_COUNT 1
  compareExpect (clearTallies s) v.vstep (v.lo, v.hi)

/-- A vote that is over. -/
def State.dropVote (s : State) (v : VoteRun) : State := { s with res := { s.res with votes := s.res.votes.filter (·.cmd != v.cmd) } }

/-- A vote's command ends in a fault (R373): RESULT reads 7. -/
def failVote (s : State) (v : VoteRun) (f : LateFault) : State :=
  let s := (s.dropVote v).setFld Reg.RES_VOTE_RES_RESULT 7
  match s.cmd? v.cmd with
  | some c => failThrow s c f
  | none => s

/-- The ranks whose records are valid and equal to that of rank `r` (R374). -/
def sameRecord (recs : List VoteRec) (r : Nat) : List Nat :=
  match recs[r]? with
  | none => []
  | some x => (List.range recs.length).filter fun k => match recs[k]? with
      | some y => !y.2.2.2 && y.1 == x.1 && y.2.1 == x.2.1 && y.2.2.1 == x.2.2.1
      | none => false

/-- The ranks whose records are valid (R374). -/
def validRanks (recs : List VoteRec) : List Nat :=
  (List.range recs.length).filter fun k => match recs[k]? with | some y => !y.2.2.2 | none => false

/-- The decision of R374: RESULT 1 AGREE, 2 EXPEL, 4 TIE, 5 NO_MAJORITY, and the odd ranks. -/
def decideVote (recs : List VoteRec) (nrep : Nat) : Nat × List Nat :=
  if nrep = 1 then (1, [])
  else
    let valid := validRanks recs
    match valid.find? fun r => decide (nrep < 2 * (sameRecord recs r).length) with
    | none => if nrep = 2 ∧ valid.length = 2 then (4, []) else (5, [])
    | some r =>
      let odd := valid.filter fun k => !(sameRecord recs r).contains k
      if odd.isEmpty then (1, []) else (2, odd)

/-- Ranks as a mask. -/
def rankMask (l : List Nat) : Nat := l.foldl (fun n r => n ||| 2 ^ r) 0

/-- EXPELLED or VOTE_HOLD sets and every stream stops (R375, R376). -/
def holdDevice (s : State) (f : Fld) : State := ({ s with res := { s.res with restored := false } }.setFld f 1).stopAll

/-- The effects of a decision on this member (R375). -/
def applyVote (s : State) (v : VoteRun) (d : Nat × List Nat) : State :=
  let me := s.fld Reg.RES_VOTE_CFG_REP_RANK
  let mask := rankMask d.2
  if v.invalid then s.setFld Reg.RES_VOTE_RES_RESULT 6
  else match d.1 with
    | 1 => s.setFld Reg.RES_VOTE_RES_RESULT 1
    | 2 =>
      if d.2.contains me then
        holdDevice ((s.setFld Reg.RES_VOTE_RES_RESULT 3).raiseDevice 0x0601 1 v.vstep mask) Reg.RES_RES_STAT_EXPELLED
      else (s.setFld Reg.RES_VOTE_RES_RESULT 2).advise 0x0601 2 v.vstep mask
    | n => holdDevice ((s.setFld Reg.RES_VOTE_RES_RESULT n).raiseDevice 0x0601 n v.vstep mask .bolt) Reg.RES_RES_STAT_VOTE_HOLD

/-- Whether gathered records fit the vote: one for each replica, and the 32 bytes that this member handed in at its rank. -/
def recordsFit (s : State) (v : VoteRun) (recs : List VoteRec) : Bool :=
  recs.length == s.fld Reg.RES_VOTE_CFG_NREP && (recs[v.gather.rank]?).map voteBytes == some v.gather.record

/-- A decision on gathered records, with which the VOTE retires (R374 to R377). -/
def settleVote (s : State) (v : VoteRun) (recs : List VoteRec) : State :=
  let d := decideVote recs (s.fld Reg.RES_VOTE_CFG_NREP)
  let invalids := (List.range recs.length).filter fun k => match recs[k]? with | some y => y.2.2.2 | none => false
  let s := ((s.dropVote v).setFld Reg.RES_VOTE_RES_ODD (rankMask d.2)).setFld
    Reg.RES_VOTE_RES_INVALIDS (rankMask invalids)
  let s := applyVote s v d
  match s.cmd? v.cmd with
  | some c => s.retire c
  | none => s

/-- The fault of a gather with a reason (R334, R508). -/
def voteFault (s : State) (code reason : Nat) : LateFault := throwFault code reason (s.fld Reg.RES_VOTE_CFG_VFLOW)

/-- A VOTE that has latched (R373): a sole replica agrees at once; otherwise the gather starts on VFLOW, whose rank must lie below NREP
(R332) and whose START 16 picks ahead (R331). -/
def startVote (s : State) (v : VoteRun) (f : Option Nat) : State :=
  let n := s.fld Reg.RES_VOTE_CFG_NREP
  if n = 1 then settleVote s v [(v.vstep, v.lo, v.hi, v.invalid)]
  else if n ≤ v.gather.rank then failVote s v { code := 0x0104, dw0 := v.gather.rank, dw1 := n }
  else if f.isNone then failVote s v (voteFault s 0x0401 1)
  else if v.gather.start < s.pick + 16 then failVote s v (voteFault s 0x0401 7)
  else s.addSat Reg.WVN_THROW_CNT_ADMITTED 1

/-- VOTE at issue (R371 to R373). -/
def issueVote (i : IssueCtx) (f : CkptF) (s : State) : IssueRes :=
  if s.pick < ckptPick i f then .held .ckpt
  else if !(s.cmdsOf i.loom i.stream).isEmpty then .rejected { code := 0x0103, dw0 := 1 }
  else if s.fld Reg.RES_CK_STAT_PHASE = 1 then .rejected { code := 0x0103, dw0 := 3 }
  else
    let v := voteRun s i s.nextId (ckptPick i f)
    .issued (startVote (latchVote (s.launch i (.ckptVote f) { nc := none, phase := .own }) v) v (voteDeadline s (ckptPick i f)))

/-- Whether a gather with a fault ends a vote (R334): the members' digests differ, or DEADLINE has come. -/
def voteBreaks (s : State) (code reason : Nat) (v : VoteRun) : Bool :=
  (code == 0x0401 && reason == 5) || (code == 0x0402 && reason == 3 && decide (v.gather.deadline ≤ s.pick))

/-- Whether gathered records end a vote: its START has come, and they are its own or come after its DEADLINE (R334, R373). -/
def voteMeets (s : State) (recs : List VoteRec) (v : VoteRun) : Bool :=
  decide (v.gather.start ≤ s.pick) && (decide (v.gather.deadline < s.pick) || recordsFit s v recs)

/-- VOTE_DECIDE (R373 to R377), of the first vote in flight that it concerns: the decision on the gathered records, after START and no
later than DEADLINE; or the gather's fault, where the members' digests differ, or DEADLINE has come. -/
def voteDecides (s : State) (recs : List VoteRec) (failure : Option (BitVec 16 × Nat)) : State :=
  match failure with
  | some (code, reason) =>
    match s.res.votes.find? (voteBreaks s code.toNat reason) with
    | some v => failVote s v (voteFault s code.toNat reason)
    | none => s
  | none =>
    match s.res.votes.find? (voteMeets s recs) with
    | some v => if v.gather.deadline < s.pick then failVote s v (voteFault s 0x0402 3) else settleVote s v recs
    | none => s

/-- A vote at its gather's DEADLINE without a decision (R334, R377). -/
def voteLate (s : State) (id : Nat) : State :=
  match s.res.votes.find? fun v => v.cmd == id && decide (v.gather.deadline ≤ s.pick) with
  | some v => failVote s v (voteFault s 0x0402 3)
  | none => s

/-- REJOIN (R376). -/
def rejoinOp (s : State) : State :=
  if (s.flag Reg.RES_RES_STAT_EXPELLED || s.flag Reg.RES_RES_STAT_VOTE_HOLD) && s.res.restored then
    (s.setFld Reg.RES_RES_STAT_EXPELLED 0).setFld Reg.RES_RES_STAT_VOTE_HOLD 0
  else s.ignored

/-! ### Cuts (R378 to R380, R383) -/

/-- Whether a stream is quiet for a CUT that the stream `me` issues (R378). -/
def quietStream (s : State) (me p : Nat × Nat) : Bool :=
  let t := s.stream p.1 p.2
  !(s.cmds.any fun c => c.loom == p.1 && c.stream == p.2) &&
    (t.atRest || (t.prog.isNone && (p == me || (t.state == .held && (match t.hold with
      | some (.waitsem, _) => true
      | some (.waitpick, _) => true
      | _ => false)))))

/-- Whether a VOTE of another stream is due, so that it latches before a CUT of this pick (R379). -/
def voteDue (s : State) (me : Nat × Nat) : Bool :=
  s.streams.any fun p => streamKey me.1 me.2 != p.1 && p.2.state == .held && (match p.2.hold, p.2.queue with
    | some (.ckpt, _), .slot i (.ckptVote f) :: _ => decide (ckptPick i f ≤ s.pick)
    | _, _ => false)

/-- The designated set of a list of handles (R379), each with its resolved operand. -/
def designate (s : State) : List Handle → List (Handle × Operand) → Except Reject (List (Handle × Operand))
  | [], acc => .ok acc
  | h :: rest, acc =>
    match resolvePlain s h with
    | .error r => .error r
    | .ok o =>
      let acc := acc ++ [(h, o)]
      if o.scaled then
        let m := dMordant o.words
        match resolvePlain s m with
        | .error r => .error r
        | .ok x => designate s rest (if acc.any (·.1 == m) then acc else acc ++ [(m, x)])
      else designate s rest acc

/-- Granules that a buffer of `n` bytes takes (R383). -/
def granules (n : Nat) : Nat := ceilDiv n granuleSize

/-- The non-zero bytes of a whole buffer, by buffer offset. -/
def bufferBytes (m : List Host.Cell) (w0 w1 : W64) : SMap Byte :=
  m.foldl (fun acc p => match entryOffset w0 w1 p.1 with
    | some o => smSet (fun _ => (0 : Byte)) acc o p.2
    | none => acc) []

/-- The designated buffers with their places in the image, from granule `g` on, and those of the capture copies of beam and bobbin
buffers in the shadow, from granule `c` on (R379, R380, R382, R383). -/
def layOut : Nat → Nat → List (Handle × Operand) → List DesigBuf
  | _, _, [] => []
  | g, c, (h, o) :: rest =>
    let n := granules o.bufLen
    let hbm := bitsOf o.w0.toNat 49 48 == 0
    { handle := h, desc := o.words, w0 := o.w0, w1 := o.w1, first := g, count := n, hbm := hbm, copy := c, copied := [] } ::
      layOut (g + n) (if hbm then c else c + n) rest

/-- The capture copies written into the shadow (R380, R382), of buffers as memory `m` holds them. -/
def captureCopies (m : List Host.Cell) (s : State) (bufs : List DesigBuf) : State :=
  (bufs.filter (!·.hbm)).foldl (fun s b => s.toShadow b.copy b.count (bufferBytes m b.w0 b.w1)) s

/-- Some little-endian fields, each an offset, a length in bytes and a value, as a sparse run of bytes. -/
def fieldBytes (fs : List (Nat × Nat × Nat)) : SMap Byte :=
  fs.foldl (fun m f => (leBytes f.2.1 f.2.2).zipIdx.foldl (fun (m : SMap Byte) (b, k) => smSet (fun _ => (0 : Byte)) m (f.1 + k) b) m) []

/-- The fields of a stream record (R383). -/
def streamRecord (s : State) (at_ : Nat) (p : Nat × Nat) : List (Nat × Nat × Nat) :=
  let t := s.stream p.1 p.2
  [(at_, 1, p.1), (at_ + 1, 1, p.2), (at_ + 2, 1, t.state.code), (at_ + 4, 4, t.retired), (at_ + 72, 1, t.cmps.toNat)] ++
  ((List.range 16).map fun k => (at_ + 8 + 4 * k, 4, (t.ctr k).toNat)) ++
  ((List.range 64).map fun k => (at_ + 128 + 4 * k, 4, (t.sem k).toNat))

/-- The fields of a handle record (R383). -/
def handleRecord (at_ : Nat) (b : DesigBuf) : List (Nat × Nat × Nat) :=
  [(at_, 2, b.handle.toNat), (at_ + 4, 4, b.first), (at_ + 16, 8, b.w0.toNat), (at_ + 24, 8, b.w1.toNat)] ++
  ((List.range 16).map fun k => (at_ + 32 + 8 * k, 8, dword b.desc k))

/-- The header granule (R383). -/
def imageHeader (s : State) (p g : Nat) (bufs : List DesigBuf) : SMap Byte :=
  let ss := s.enabledStreams
  fieldBytes (
    [(0, 8, s.fld Reg.RES_CK_SEQ_SEQ), (8, 8, p), (16, 8, (s.reg Reg.GCTL_JOB_ID).toNat), (24, 8, (s.reg Reg.GCTL_UID0).toNat),
     (32, 8, (s.reg Reg.GCTL_UID1).toNat), (40, 4, s.fld Reg.RES_RANK_GRANK), (44, 4, g), (48, 2, bufs.length), (50, 2, ss.length)] ++
    ((List.range 16).map fun k => (64 + 8 * k, 8, (s.reg (Reg.RES_INLOG k)).toNat)) ++
    ((List.range 4).flatMap fun d => [(192 + 16 * d, 8, (s.reg (Reg.FUL_TALLY_ACC_LO d)).toNat),
      (200 + 16 * d, 8, (s.reg (Reg.FUL_TALLY_ACC_HI d)).toNat)]) ++
    (ss.zipIdx.flatMap fun (q, k) => streamRecord s (256 + 384 * k) q) ++
    (bufs.zipIdx.flatMap fun (b, k) => handleRecord (256 + 384 * ss.length + 160 * k) b))

/-- Bmax: the most bytes that designated beam and bobbin buffers hold on one compute die (R380). -/
def captureMax (s : State) (os : List (Handle × Operand)) : Nat :=
  let dieBytes (d : Nat) : Nat := (os.map fun (_, o) =>
    let a := entryAddr o.w0 0
    match bitsOf o.w0.toNat 49 48 with
    | 1 => if bankOf a / 96 = d then o.bufLen else 0
    | 2 => if s.dieOf (bobbinLoom a) = d then o.bufLen else 0
    | _ => 0).sum
  (List.range 4).foldl (fun n d => max n (dieBytes d)) 0

/-- The handles that a resolved list tensor holds. -/
def listHandles (s : State) (o : Operand) : List Nat := (List.range o.total).map fun e => readElem s o (o.logOff e)

/-- Orders 3 and 4 of R378: the list resolves and its elements hold handles. -/
def checkList (s : State) (list : Handle) : Except Reject (Operand × List Handle) := do
  let o ← resolve s list
  checkFormat o
  check (o.fmt? == some .int32 && o.dense) { code := 0x0205, handle := some list }
  check (0 < o.total && o.total ≤ 4096) { code := 0x0104, dw0 := o.total, dw1 := 4096, handle := some list }
  checkSpan o false
  let es := listHandles s o
  check (es.all (· < 65536)) { code := 0x0104, dw0 := (es.find? (65536 ≤ ·)).getD 0, dw1 := 65535, handle := some list }
  pure (o, es.map (BitVec.ofNat 16 ·))

/-- The checks of R378, and after them that the banks of the list and of the designated tensors are ON (R239, R267; log entry
55). -/
def checkCut (s : State) (i : IssueCtx) (list : Handle) : Except Reject (Operand × List (Handle × Operand)) := do
  check (s.enabledStreams.all (quietStream s (i.loom, i.stream))) { code := 0x0103, dw0 := 2 }
  check (!s.ckptBusy) { code := 0x0103, dw0 := 3 }
  let (o, hs) ← checkList s list
  let os ← designate s hs []
  let n := 1 + ((os.filter fun (_, x) => bitsOf x.w0.toNat 49 48 != 0).map fun (_, x) => granules x.bufLen).sum
  check (n ≤ s.fld Reg.RES_SHADOW_LEN_GRANULES) { code := 0x0104, dw0 := n, dw1 := s.fld Reg.RES_SHADOW_LEN_GRANULES, handle := some list }
  checkBanks s (o :: os.map (·.2))
  pure (o, os)

/-- CUT at issue (R371, R378 to R380). A VOTE that is due in the same pick latches first (R379). The copies that capture makes are those
of P, the pick of issue: nothing may write a captured buffer before capture ends (R239; log entry 60). -/
def issueCut (i : IssueCtx) (f : CkptF) (s : State) : IssueRes :=
  let p := ckptPick i f
  if s.pick < p || voteDue s (i.loom, i.stream) then .held .ckpt
  else if !(s.cmdsOf i.loom i.stream).isEmpty then .rejected { code := 0x0103, dw0 := 1 }
  else
    match checkCut s i f.list with
    | .error r => .rejected r
    | .ok (o, os) =>
      let s1 := s.addWrap Reg.RES_CK_SEQ_SEQ 1
      let bufs := layOut 1 1 os
      let g := 1 + (bufs.map (·.count)).sum
      let run : CkptRun := { cmd := s.nextId, bufs := bufs, total := g }
      let s1 := captureCopies s.servedMem (s1.toShadow 0 1 (imageHeader s1 p g bufs)) bufs
      let s2 := ({ s1 with res := { s1.res with ckpt := some run } }.setReg Reg.RES_CK_PICK (BitVec.ofNat 64 p)).setReg Reg.RES_CK_PROG
        (BitVec.ofNat 64 (g * 2 ^ 32))
      let s3 := (((s2.setFld Reg.RES_CK_STAT_PHASE 1).setFld Reg.RES_CK_STAT_OUTCOME 0).setFld Reg.RES_CK_STAT_REASON 0).setFld
        Reg.RES_CK_STAT_USED run.used
      let hs := os.map (·.1)
      .issued (launchPicks s3 i (.ckptCut f) (64 + ceilDiv (captureMax s os) 524288 + s.slack i.loom i.ctx - (s.pick - p))
        { nc := none, handles := { names := f.list :: hs }, entries := o.entries s ++ os.flatMap (fun (_, x) => x.entries s)
          reads := o.runs, phase := .own })

/-- The handles that a cut in progress has captured (R239): those of the designated set while PHASE is 1. -/
def capturedHandles (s : State) : List Handle :=
  match s.res.ckpt with
  | some c => if s.fld Reg.RES_CK_STAT_PHASE = 1 then c.bufs.map (·.handle) else []
  | none => []

/-- CAPTURE_END (R380): the drain follows and the CUT, unless it has faulted, retires. -/
def captureEnds (s : State) : State :=
  match s.cmds.find? fun c => match c.c with | .ckptCut _ => true | _ => false with
  | none => if s.fld Reg.RES_CK_STAT_PHASE = 1 then s.setFld Reg.RES_CK_STAT_PHASE 2 else s
  | some c => (if s.fld Reg.RES_CK_STAT_PHASE = 1 then s.setFld Reg.RES_CK_STAT_PHASE 2 else s).retire c

/-- COPY_ON_WRITE (R381). -/
def copyOnWriteOp (s : State) (buf granule : Nat) : State := s.copyOnWrite buf granule

/-! ### Drains (R361, R384, R386) -/

/-- `n` bytes of a sparse run from offset `o`. -/
def sparseBytes (m : SMap Byte) (o n : Nat) : List Byte := (List.range n).map fun k => smGet (fun _ => (0 : Byte)) m (o + k)

/-- A granule of the shadow, its bytes by offset (R382). -/
def shadowGranule (s : State) (k : Nat) : SMap Byte :=
  let at_ := (s.reg Reg.RES_SHADOW_BASE).toNat + k * granuleSize
  (s.servedMem.filter fun p => decide (at_ ≤ p.1) && decide (p.1 < at_ + granuleSize)).map fun p => (p.1 - at_, p.2)

/-- The bytes of granule `g` of the image being drained, by offset (R383): the header, and the copies, from the shadow; what is not
copied from its buffer. -/
def imageData (s : State) (c : CkptRun) (g : Nat) : SMap Byte :=
  if g = 0 then shadowGranule s 0
  else
    match c.bufs.find? fun b => decide (b.first ≤ g) && decide (g < b.first + b.count) with
    | none => []
    | some b =>
      let k := g - b.first
      if !b.hbm then shadowGranule s (b.copy + k)
      else match smGet (fun _ => none) b.copied k with
        | some n => shadowGranule s n
        | none => (granuleBytes s.servedMem b.w0 b.w1 k).map fun p => (p.1 - k * granuleSize, p.2)

/-- Granule `g` of the image being drained (R383). -/
def imageGranule (s : State) (c : CkptRun) (g : Nat) : List Byte := sparseBytes (imageData s c g) 0 granuleSize

/-- The closing record of an image (R384). -/
def closingRecord (header : List Byte) (seq p g : Nat) : List Byte :=
  leBytes 8 seq ++ leBytes 8 p ++ leBytes 4 g ++ leBytes 4 1 ++ shake256 32 header ++ leBytes 8 0

/-- The closing record of the drain. -/
def drainClosing (s : State) (c : CkptRun) : List Byte :=
  let h := shadowGranule s 0
  closingRecord (sparseBytes h 0 granuleSize) (leValue (sparseBytes h 0 8)) (leValue (sparseBytes h 8 8)) c.total

/-- A queue pair's memory (R348). -/
def State.qp (s : State) (q : Nat) : QpSt := smGet (fun _ => {}) s.host.qps q
/-- The state with a queue pair's memory replaced. -/
def State.setQp (s : State) (q : Nat) (x : QpSt) : State :=
  { s with host := { s.host with qps := smSet (fun _ => {}) s.host.qps q x } }
/-- STATE of a queue pair's context (R349). -/
def QpSt.state (x : QpSt) : Nat := bitsOf (x.ctx.getD 0 0).toNat 2 0
/-- The PMTU of a queue pair in bytes (R349). -/
def QpSt.pmtu (x : QpSt) : Nat := 128 * 2 ^ bitsOf (x.ctx.getD 0 0).toNat 7 5

/-- The host port that a queue pair is bound to (R349). -/
def QpSt.port (x : QpSt) : Nat := bitsOf (x.ctx.getD 0 0).toNat 4 3
/-- `n` RoCE packets sent on a port counted (R365). -/
def State.countTx (s : State) (port n : Nat) : State := (s.addSat (Reg.HOST_HPCNT0_TX_PKTS port) n).countEvent (63 + port) 2 0 n
/-- A packet received on a host port (R365, R478). -/
def State.countRx (s : State) (port : Nat) : State := (s.addSat (Reg.HOST_HPCNT0_RX_PKTS port) 1).countEvent (63 + port) 1 0 1

/-- The 802.1Q priority of a queue pair (R349). -/
def QpSt.prio (x : QpSt) : Nat := bitsOf (x.ctx.getD 0 0).toNat 18 16
/-- Where a queue pair's packets go (R349). -/
def QpSt.peer (x : QpSt) : PeerAddr :=
  let w (k : Nat) : Nat := (x.ctx.getD k 0).toNat
  { port := x.port, qpn := BitVec.ofNat 24 (w 1), gid := BitVec.ofNat 128 (w 3 + 2 ^ 64 * w 4), mac := BitVec.ofNat 48 (w 5)
    prio := BitVec.ofNat 3 x.prio, dscp := BitVec.ofNat 6 (bitsOf (w 0) 24 19)
    vid := if bitAt (w 5) 60 then some (BitVec.ofNat 12 (bitsOf (w 5) 59 48)) else none }

/-- Whether priority flow control pauses a priority of a port now (R346). -/
def prioPaused (s : State) (port prio : Nat) : Bool :=
  s.flag (Reg.HOST_HPCFG_PFC_EN port) && s.fld (Reg.HOST_HPCFG_PFC_PRIO port) == prio &&
    decide (s.pick < smGet (fun _ => 0) s.host.pausedTo (8 * port + prio))

/-- Whether priority flow control holds a queue pair's packets back (R346, R349): its priority is paused, or packets of that priority
that were still wait. -/
def pfcHolds (s : State) (q : Nat) : Bool :=
  let x := s.qp q
  prioPaused s x.port x.prio || s.host.paused.any fun h => h.port == x.port && h.prio == x.prio

/-- A message leaves its port and counts there (R365, R478). -/
def State.sendHeld (s : State) (h : HeldMsg) : State :=
  let s := s.countTx h.port h.pkts
  (match h.msg with
    | .roce _ (.nak _ _ _) => s.addSat (Reg.HOST_HPCNT1_NAK_SENT h.port) 1
    | .roce _ (.cnp _) => s.addSat (Reg.HOST_HPCNT1_CNP_SENT h.port) 1
    | .roce _ (.resend _ _) => (s.addSat (Reg.HOST_HPCNT2_RETRIES h.port) 1).countEvent (63 + h.port) 5 0 1
    | _ => s).out h.msg

/-- A message of a queue pair, of `n` packets, sent on its port, or kept until the port's priority is paused no more (R346). -/
def State.outQp (s : State) (q n : Nat) (m : RoceMsg) : State :=
  let x := s.qp q
  let h : HeldMsg := { qp := q, port := x.port, prio := x.prio, pkts := n, msg := .roce x.peer m }
  if pfcHolds s q then { s with host := { s.host with paused := s.host.paused ++ [h] } } else s.sendHeld h

/-- What waited for a pause that is over is sent, in its order (R346). -/
def State.flushPaused (s : State) : State :=
  let stays (h : HeldMsg) : Bool := prioPaused s h.port h.prio
  (s.host.paused.filter (!stays ·)).foldl State.sendHeld { s with host := { s.host with paused := s.host.paused.filter stays } }

/-- An RDMA WRITE sent by a queue pair as requester (R350): its packets take PSNs, and it waits for its acknowledgement. -/
def rdmaSend (s : State) (q va rkey : Nat) (bytes : List Byte) (k : OutKind) : State :=
  let x := s.qp q
  let n := max 1 (ceilDiv bytes.length x.pmtu)
  let s := s.setQp q { x with spsn := (x.spsn + n) % 2 ^ 24, out := x.out ++ [{ first := x.spsn, last := (x.spsn + n - 1) % 2 ^ 24, kind := k, sentAt := s.pick }] }
  s.outQp q n (.rdmaWrite q x.spsn va rkey bytes)

/-- The queue pair of a DRAIN entry, when the entry is valid and its queue pair is in RTS (R361). -/
def drainQp (s : State) (t : Nat) : Option Nat :=
  let q := s.fld (Reg.HOST_DR_QP_QP t)
  if s.flag (Reg.HOST_DR_QP_VALID t) && (s.qp q).state == 3 then some q else none

/-- The next granule of a drain to storage (R361). -/
def storeGranule (s : State) (c : CkptRun) (g : Nat) : State :=
  let nt := s.fld Reg.RES_CK_TARGET_NTM1 + 1
  let t := g % nt
  if s.fld (Reg.HOST_DR_LEN_LEN t) < (g / nt + 1) * granuleSize then s.drainFails 3
  else
    match drainQp s t with
    | none => s.drainFails 2
    | some q =>
      (rdmaSend s q (s.fld (Reg.HOST_DR_ADDR_ADDR t) + (g / nt) * granuleSize) (s.fld (Reg.HOST_DR_KEY_RKEY t)) (imageGranule s c g)
        (.granule g)).addWrap Reg.RES_CK_PROG_SENT 1

/-- The closing record of a drain to storage (R361, R384). -/
def storeClosing (s : State) (c : CkptRun) : State :=
  match drainQp s 0 with
  | none => s.drainFails 2
  | some q =>
    rdmaSend { s with res := { s.res with ckpt := some { c with closing := true } } } q
      (s.fld (Reg.HOST_DR_ADDR_ADDR 0) + s.fld (Reg.HOST_DR_LEN_LEN 0) - 64) (s.fld (Reg.HOST_DR_KEY_RKEY 0)) (drainClosing s c) .closing

/-- Bytes as a sparse run. -/
def sparseOf (bs : List Byte) : SMap Byte := bs.zipIdx.foldl (fun m b => smSet (fun _ => (0 : Byte)) m b.2 b.1) []

/-- The pick since which a throw of the engine waits for credit, once it does. -/
def waitSince (s : State) (since : Option Nat) (credit : Bool) : Option Nat := if credit then some (since.getD s.pick) else none

/-- The next throw of a drain to a buddy (R384), its closing record after the last granule; the drain fails where it is rejected
(R386). -/
def buddyDrain (s : State) (c : CkptRun) (g : Nat) : State :=
  let flow := s.fld Reg.RES_CK_TARGET_BFLOW
  let closing := decide (c.total ≤ g)
  let r := if closing then engineThrow s flow 64 false true (sparseOf (drainClosing s c)) c.since
    else engineThrow s flow granuleSize false false (imageData s c g) c.since
  match r with
  | .failed reason => (engineRejected s flow reason).drainFails 4
  | .waits credit => { s with res := { s.res with ckpt := some { c with since := waitSince s c.since credit } } }
  | .goes t =>
    let t := { t with res := { t.res with ckpt := some { c with closing := closing, since := none } } }
    if closing then t else t.addWrap Reg.RES_CK_PROG_SENT 1

/-- Whether every granule of the drain has been acknowledged (R361). -/
def allAcked (s : State) (total : Nat) : Bool := (List.range total).all fun g => smGet (fun _ => false) s.host.acked g

/-- The next granule of a drain (R384), or the closing record after the last. -/
def drainSends (s : State) : State :=
  match s.res.ckpt with
  | none => s
  | some c =>
    if s.fld Reg.RES_CK_STAT_PHASE ≠ 2 ∨ c.closing then s
    else
      let g := s.fld Reg.RES_CK_PROG_SENT
      let buddy := s.flag Reg.RES_CK_TARGET_KIND
      if g < c.total then
        let s := if g = 0 then { s with host := { s.host with acked := [] } } else s
        if buddy then buddyDrain s c g else storeGranule s c g
      else if buddy then buddyDrain s c g
      else if allAcked s c.total then storeClosing s c else s

/-- CLOSING_RECORD_ACK (R384). -/
def closingAcked (s : State) : State :=
  match s.res.ckpt with
  | some c =>
    if c.closing then s.drainDone else s
  | none => s

/-- Whether a cause of R386 stands while a drain runs: its shadow is full; a target's queue pair is not in RTS; the next granule passes its
target's LEN; the throw of the engine is rejected, has waited too long for credit, or lacks a DELIVERED at its DEADLINE. -/
def drainCause (s : State) (c : CkptRun) (reason : Nat) : Bool :=
  let g := s.fld Reg.RES_CK_PROG_SENT
  let nt := s.fld Reg.RES_CK_TARGET_NTM1 + 1
  match reason, s.flag Reg.RES_CK_TARGET_KIND with
  | 2, false => (List.range nt).any fun t => (drainQp s t).isNone
  | 3, false => decide (g < c.total) && decide (s.fld (Reg.HOST_DR_LEN_LEN (g % nt)) < (g / nt + 1) * granuleSize)
  | 4, true =>
    (match engineThrow s (s.fld Reg.RES_CK_TARGET_BFLOW) (if g < c.total then granuleSize else 64) false false [] c.since with
      | .failed _ => !c.closing
      | _ => false) ||
    s.wvn.flows.any fun p => p.2.throws.any fun t => t.engine.any fun e => !e.send && decide (e.deadline ≤ s.pick)
  | _, _ => false

/-- DRAIN_FAIL (R386): the drain fails for a reason whose cause stands. Reasons 1 and 5 arise in the events that cause them. -/
def drainFailOp (s : State) (reason : Nat) : State :=
  match s.res.ckpt with
  | some c => if s.fld Reg.RES_CK_STAT_PHASE = 2 && drainCause s c reason then s.drainFails reason else s
  | none => s

/-! ### The buddy region (R385) -/

/-- The flow on which the checkpoint engine has caught a whole throw of some bytes. -/
def caughtFlow (s : State) (bytes : List Byte) : Option FlowEntry :=
  s.wvn.active.bind fun sc => sc.flows.find? fun f => f.catcher && f.catchLoom == 127 &&
    ((s.flowSt f.flow).eng.any fun e => e.got == e.len && bytes == sparseBytes e.data 0 e.len && decide (s.pick ≤ e.cdl))

/-- A throw that the checkpoint engine has caught is taken: DELIVERED goes back, and a credit for the next (R329, R344, R385). -/
def takeCaught (s : State) (f : FlowEntry) : State :=
  let fs := s.flowSt f.flow
  match fs.eng with
  | some e =>
    let s := if fs.detoured then s.addSat Reg.WVN_THROW_FAIL_DETOURED 1 else s
    buddyCredit ((s.setFlow f.flow { fs with eng := none, detoured := false }).sendRec f.revPort (mkRec 2 f.cidx f.flow e.tseq 0))
  | none => s

/-- BUDDY_GRANULE_RECEIVE (R385): a throw that the engine has caught whole is written: a granule, or the closing record. Which granule
it is, no field of the throw says: 0 begins an image, any other is the next (log entry 60). -/
def buddyReceives (s : State) (g : Nat) (closing : Bool) (bytes : List Byte) : State :=
  let base := (s.reg Reg.RES_BUDDY_BASE).toNat
  let held := s.fld Reg.RES_BUDDY_STAT_GRANULES
  match caughtFlow s bytes with
  | none => s
  | some f =>
    if closing then
      if bytes.length = 64 ∧ s.flag Reg.RES_BUDDY_STAT_RECEIVING then
        takeCaught (((s.storeBytes (base + held * granuleSize) bytes).setFld Reg.RES_BUDDY_STAT_IMAGE 1).setFld Reg.RES_BUDDY_STAT_RECEIVING 0) f
      else s
    else if bytes.length = granuleSize ∧ (g + 1) * granuleSize ≤ s.fld Reg.RES_BUDDY_LEN_LEN - 64 ∧
        (g = 0 ∨ (g = held ∧ s.flag Reg.RES_BUDDY_STAT_RECEIVING)) then
      let s := if g = 0 then s.setFld Reg.RES_BUDDY_STAT_IMAGE 0 else s
      takeCaught (((s.storeBytes (base + g * granuleSize) bytes).setFld Reg.RES_BUDDY_STAT_RECEIVING 1).setFld
        Reg.RES_BUDDY_STAT_GRANULES (g + 1)) f
    else s

/-- The next throw of a running SEND (R385): a granule of the held image, or its closing record after the last. A throw that is
rejected ends it (DESIGN CHOICE, log entry 60). -/
def sendGoesOn (s : State) : State :=
  match s.res.sending with
  | none => s
  | some x =>
    let n := s.fld Reg.RES_BUDDY_STAT_GRANULES
    let at_ := (s.reg Reg.RES_BUDDY_BASE).toNat + x.next * granuleSize
    let len := if x.next < n then granuleSize else 64
    if n < x.next then s
    else match engineThrow s x.flow len true (decide (n ≤ x.next)) (sparseOf (s.readOut at_ len)) x.since with
      | .failed reason => (engineRejected s x.flow reason).sendEnds
      | .waits credit => { s with res := { s.res with sending := some { x with since := waitSince s x.since credit } } }
      | .goes t => { t with res := { t.res with sending := some { x with next := x.next + 1, since := none } } }

/-- BUDDY_CTL SEND (R385): the held image, then its closing record; each throw after the first goes with a DRAIN_GRANULE_SEND. It is
refused without an image, and while another SEND runs (the latter a DESIGN CHOICE, log entry 60). -/
def buddySends (s : State) (flow : Nat) : State :=
  if s.flag Reg.RES_BUDDY_STAT_IMAGE && s.res.sending.isNone then
    sendGoesOn (({ s with res := { s.res with sending := some { flow := flow } } }).setFld Reg.RES_BUDDY_STAT_SENDING 1)
  else s.ignored

/-- DRAIN_GRANULE_SEND (R384, R385): the next throw of the drain and of a SEND. -/
def granulesSend (s : State) : State := sendGoesOn (drainSends s)

/-! ### Restore (R387, R388) -/

/-- A field of the image at RST_ADDR. -/
def imgField (s : State) (o n : Nat) : Nat := leValue (s.readOut ((s.reg Reg.RES_RST_ADDR).toNat + o) n)

/-- The handle records of the image: handle, first granule, entry, descriptor. -/
def imgHandles (s : State) : List (Nat × Nat × W64 × W64 × List W64) :=
  let at0 := 256 + 384 * imgField s 50 2
  (List.range (imgField s 48 2)).map fun h =>
    let a := at0 + 160 * h
    (imgField s a 2, imgField s (a + 4) 4, BitVec.ofNat 64 (imgField s (a + 16) 8), BitVec.ofNat 64 (imgField s (a + 24) 8),
     (List.range 16).map fun k => BitVec.ofNat 64 (imgField s (a + 32 + 8 * k) 8))

/-- A recorded entry without its read-only fields (R255). -/
def bareEntry (w0 : W64) : W64 := BitVec.ofNat 64 (setBits (setBits w0.toNat 63 63 0) 57 56 0)

/-- The REASONs of R387, in order, each with whether it applies. -/
def restoreRules (s : State) : List (Nat × Bool) :=
  let g := imgField s 44 4
  let c := g * granuleSize
  let n := imgField s 50 2
  [(1, !s.jobActive || s.enabledStreams.any (fun p => !(s.stream p.1 p.2).atRest) || s.ckptBusy),
   (2, imgField s (c + 20) 4 != 1 || imgField s c 8 != imgField s 0 8 || imgField s (c + 8) 8 != imgField s 8 8 ||
      imgField s (c + 16) 4 != g),
   (3, s.readOut ((s.reg Reg.RES_RST_ADDR).toNat + c + 24) 32 != shake256 32 (s.readOut (s.reg Reg.RES_RST_ADDR).toNat granuleSize)),
   (4, imgField s 16 8 != (s.reg Reg.GCTL_JOB_ID).toNat),
   (5, (List.range n).any fun k =>
      let l := imgField s (256 + 384 * k) 1
      let t := imgField s (256 + 384 * k + 1) 1
      decide (s.nLooms ≤ l) || decide (16 ≤ t) || !(s.stream l t).enabled),
   (6, (imgHandles s).any fun h => (htReason s (dDie h.2.2.2.2) (bareEntry h.2.2.1) h.2.2.2.1).isSome)]

/-- GO in RST_CTL (R387). -/
def restoreGoes (s : State) : State :=
  match (restoreRules s).find? (·.2) with
  | some (r, _) => (s.setFld Reg.RES_RST_STAT_REFUSED 1).setFld Reg.RES_RST_STAT_REASON r
  | none => (s.setFld Reg.RES_RST_STAT_BUSY 1).setFld Reg.RES_RST_STAT_REASON 0

/-- A buffer's contents set from the image: its bytes lie from device address `src` on (R388). -/
def restoreBuffer (img s : State) (w0 w1 : W64) (src : Nat) : State :=
  let ext := bitsOf w1.toNat 39 0
  let kept := s.mem.filter fun p => (entryOffset w0 w1 p.1).isNone
  let from_ := img.servedMem.filter fun p =>
    decide (src ≤ p.1) && decide (p.1 < src + ext) && !s.absent (entryAddr w0 (p.1 - src))
  { s with mem := from_.foldl (fun m p => smSet (fun _ => (0 : Byte)) m (entryAddr w0 (p.1 - src)) p.2) kept
           badWords := s.badWords.filter fun p => (entryOffset w0 w1 p.1).isNone }

/-- One handle record restored: entry, then descriptor (R388, step 1). -/
def restoreHandle (s : State) (h : Nat × Nat × W64 × W64 × List W64) : State :=
  let d := h.2.2.2.2
  let s := (s.setReg (Reg.HTAB_ENTRY_W0 (dDie d) (dEntry d)) (bareEntry h.2.2.1 ||| BitVec.ofNat 64 (2 ^ 63))).setReg
    (Reg.HTAB_ENTRY_W1 (dDie d) (dEntry d)) h.2.2.2.1
  s.setDesc (h.1 % 4096) (dSet0 (dSet0 d 26 26 0) 27 27 1)

/-- A stream restored from its record at image offset `a` (R388, step 4). -/
def restoreStream (img s : State) (a : Nat) : State :=
  let l := imgField img a 1
  let k := imgField img (a + 1) 1
  let ret := imgField img (a + 4) 4
  let t := (List.range 16).foldl (fun t i => t.setCtr i (BitVec.ofNat 32 (imgField img (a + 8 + 4 * i) 4))) (s.stream l k)
  let t := (List.range 64).foldl (fun t i => t.setSem i (BitVec.ofNat 32 (imgField img (a + 128 + 4 * i) 4))) t
  s.setStream l k { t with cmps := BitVec.ofNat 8 (imgField img (a + 72) 1), head := ret, tail := ret, retired := ret, pending := 0
                           loops := [], prog := none, skip := 0, queue := [], bundles := [], bells := [], state := .idle
                           hold := none, stopReq := false, resumeReq := false, decoded := none }

/-- Every descriptor's POISON cleared (R388, step 3). -/
def clearPoisons (s : State) : State :=
  (s.descs.filter fun p => dPoison p.2).foldl (fun s p => s.setDesc p.1 (dSet0 p.2 26 26 0)) s

/-- FLAGS of every loom cleared. -/
def clearFlags (s : State) : State :=
  (List.range s.nLooms).foldl (fun s l => (List.range 4).foldl (fun s c => s.setReg (Reg.LOOM_FLAGS l c) 0) s) s

/-- RESTORE_COMPLETE: the steps of R388, in order. -/
def restoreEnds (s : State) : State :=
  if s.flag Reg.RES_RST_STAT_BUSY then
    let src := (s.reg Reg.RES_RST_ADDR).toNat
    let hs := imgHandles s
    let img := s
    let s := hs.foldl restoreHandle s
    let s := hs.foldl (fun s h => restoreBuffer img s (bareEntry h.2.2.1) h.2.2.2.1 (src + h.2.1 * granuleSize)) s
    let s := clearPoisons s
    let s := (List.range (imgField img 50 2)).foldl (fun s k => restoreStream img s (256 + 384 * k)) s
    let s := (List.range 16).foldl (fun s k => s.setReg (Reg.RES_INLOG k) (BitVec.ofNat 64 (imgField img (64 + 8 * k) 8))) s
    let s := (List.range 4).foldl (fun s d =>
      (s.setReg (Reg.FUL_TALLY_ACC_LO d) (BitVec.ofNat 64 (imgField img (192 + 16 * d) 8))).setReg (Reg.FUL_TALLY_ACC_HI d)
        (BitVec.ofNat 64 (imgField img (200 + 16 * d) 8))) s
    let s := clearFlags (s.setReg Reg.RES_CK_SEQ (BitVec.ofNat 64 (imgField img 0 8)))
    let s := { s with res := { s.res with invalidSeen := false, restored := true } }
    (s.setFld Reg.RES_RST_STAT_BUSY 0).setFld Reg.RES_RST_STAT_DONE 1
  else s

/-! ### Spares (R22, R23, R403, R404) -/

/-- STATE of spare `j` of a die (R39). -/
def spareState (s : State) (die j : Nat) : Nat :=
  bitsOf (s.fld Reg.GCTL_SPARE_STAT_STATE) (4 * die + 2 * j + 1) (4 * die + 2 * j)

/-- SPARE_STAT with the state of a spare changed. -/
def setSpare (s : State) (die j v : Nat) : State :=
  s.setFld Reg.GCTL_SPARE_STAT_STATE (setBits (s.fld Reg.GCTL_SPARE_STAT_STATE) (4 * die + 2 * j + 1) (4 * die + 2 * j) v)

/-- The physical looms of a die with a role, in increasing index (R20, R416). -/
def physWith (roles die role : Nat) : List Nat :=
  (List.range 22).filter fun p => bitsOf roles (44 * die + 2 * p + 1) (44 * die + 2 * p) == role

/-- The physical loom of spare `j` of a die (R22). -/
def sparePhys (s : State) (die j : Nat) : Nat := (physWith ((s.fuses.roles.value?).getD 0) die 1).getD j 0

/-- The available spare of a die with the lowest number. -/
def freeSpare (s : State) (die : Nat) : Option Nat := (List.range 2).find? fun j => spareState s die j == 0

/-- The LMAP byte of a logical loom. -/
def lmapByte (s : State) (l : Nat) : Nat := bitsOf (s.reg (Reg.GCTL_LMAP (l / 8))).toNat (8 * (l % 8) + 7) (8 * (l % 8))

/-- A request refused: LOOM, REFUSED and REASON (R403). -/
def spareRefused (s : State) (loom reason : Nat) : State :=
  ((s.setFld Reg.RES_SPARE_RES_LOOM loom).setFld Reg.RES_SPARE_RES_REFUSED 1).setFld Reg.RES_SPARE_RES_REASON reason

/-- SPARE_CMD with GO (R403). A die without a spare raises SPARE_EXHAUSTED whatever else refuses the command (R22); of several
reasons, REASON shows the lowest number (DESIGN CHOICE, log entry 52). -/
def spareRequest (s : State) (loom : Nat) : State :=
  let die := s.dieOf loom
  let gone := decide (loom < s.nLooms) && (freeSpare s die).isNone
  let s := if gone then s.raiseDevice 0x0605 1 loom die (loom := some loom) else s
  if decide (s.nLooms ≤ loom) || (List.range 16).any (fun k => !(s.stream loom k).atRest) || s.cmds.any (·.loom == loom) then
    spareRefused s loom 1
  else if gone then spareRefused s loom 2
  else if s.ckptBusy then spareRefused s loom 3
  else if s.res.remap.isSome then spareRefused s loom 4
  else
    let s := { s with res := { s.res with remap := some loom } }
    ((s.setFld Reg.RES_SPARE_RES_LOOM loom).setFld Reg.RES_SPARE_RES_PENDING 1).setFld Reg.RES_SPARE_RES_REASON 0

/-- The position's registers and arrays after a substitution (R404). -/
def freshPosition (s : State) (loom : Nat) : State :=
  let t := s.loom loom
  let s := (List.range 2).foldl (fun s h => if (t.acc h).isSome then s.setFld (Reg.LOOM_ACC_DISCARDED loom h) 1 else s) s
  let s := s.setLoom loom { ({} : LoomSt) with imPages := t.imPages, imSrc := t.imSrc }
  let s := (List.range 4).foldl (fun s c => ((((s.setReg (Reg.LOOM_FLAGS loom c) 0).setReg (Reg.LOOM_MVSTAT loom c) 0).setReg
    (Reg.LOOM_MVSTAT2 loom c) 0).setFld (Reg.LOOM_STATCTL_VALID loom c) 0)) s
  let s := (List.range 8).foldl (fun s k => s.setReg (Reg.LOOM_PGEN loom k) 0) s
  let s := { s with imem := s.imem.filter fun p => p.1 / 32768 != loom }
  let s := s.zeroRange (bobbinBase + 0x400000 * loom) (bobbinBase + 0x400000 * (loom + 1))
  if s.loadOpen loom then (s.setFld (Reg.LOOM_IMLD_STAT_BUSY loom) 0).setFld (Reg.LOOM_IMLD_STAT_PENDING loom) 1 else s

/-- The remap of a position onto the spare `j` of its die (R22, R40, R404). -/
def remapLoom (s : State) (loom j : Nat) : State :=
  let die := s.dieOf loom
  let old := lmapByte s loom
  let s := if bitAt old 6 then
      match (List.range 2).find? fun k => sparePhys s die k == old % 32 with
      | some k => setSpare s die k 2
      | none => s
    else s
  let phys := sparePhys s die j
  let s := setSpare s die j 1
  let s := s.setReg (Reg.GCTL_LMAP (loom / 8)) (BitVec.ofNat 64
    (setBits (s.reg (Reg.GCTL_LMAP (loom / 8))).toNat (8 * (loom % 8) + 7) (8 * (loom % 8)) (phys + 0xC0)))
  let s := ((s.setFld (Reg.LOOM_LOOM_ID_PHYS loom) phys).setFld (Reg.LOOM_LOOM_ID_DIE loom) die).setFld (Reg.LOOM_LOOM_ID_SPARE loom) 1
  let s := freshPosition s loom
  let s := { s with res := { s.res with remap := none } }
  (s.setFld Reg.RES_SPARE_RES_PENDING 0).setFld Reg.RES_SPARE_RES_DONE 1

/-- A write of SUSPECT (R402): the passes that count begin when it sets. -/
def suspect (s : State) : State :=
  if s.flag Reg.RES_HEALTH_SUSPECT then s
  else ({ s with res := { s.res with passed := [] } }).setFld Reg.RES_HEALTH_SUSPECT 1

end Sys2Proof.Machine
end

