-- ==== Sys2Proof/Machine/Swatch.lean ====
section
/-! DEFINITION. Swatch: the handles that every slot command names (R217, R238), swatches as they run (R395 to R400, R402), and
candidate captures (R392 to R394). -/
namespace Sys2Proof.Machine

/-! ### Handles named -/

/-- The handles that a slot command names, and its destinations (R217, R238). -/
def slotNames (s : State) (i : IssueCtx) : SlotCmd → Named
  | .mload f => nameAll s [f.w] []
  | .mstream f => mstreamNames s i f
  | .mdrain f => mdrainNames s i f
  | .vec op f => vectorNames s op f
  | .move d a => moveNames s d a
  | .fill d _ => nameAll s [] [d]
  | .copy d a => nameAll s [a] [d]
  | .xpose f => moveNames s f.dst f.src
  | .throwTo a _ _ => nameAll s [a] []
  | .catchAt d _ _ => nameAll s [] [d]
  | .statcfg st sg clear => if clear then nameAll s [] [st, sg] else nameAll s [st, sg] []
  | .statread f => if f.mode then nameAll s [f.ref, statHandle s i] [f.dst] else nameAll s [] [f.dst]
  | .qgrad f => nameAll s [f.q, f.x, f.g] [sgHandle s i]
  | .full f => fullNames s f
  | .swatch _ out => nameAll s [] [out]
  | _ => {}

/-! ### A swatch in view (R399) -/

/-- The running swatch of a loom and the machine change places: its stream, descriptors and generator key come into view
in place of the job's, or the job's again in place of its. -/
def swapSwatch (s : State) (loom : Nat) : State :=
  match s.swRun loom with
  | none => s
  | some r =>
    let r' : SwatchRun := { r with st := s.stream r.loom r.stream, descs := s.descs, seed := s.reg Reg.GCTL_JOB_SEED }
    let s1 := (s.setStream r.loom r.stream r.st).setReg Reg.GCTL_JOB_SEED r.seed
    let s2 := { s1 with descs := r.descs, swMode := !s.swMode }
    { s2 with res := { s2.res with swatches := s2.res.swatches.map fun x => if x.loom = loom ∧ x.running then r' else x } }

/-- An event of a command, with the swatch in view when the command is a swatch program's. -/
def onCmd (s : State) (id : Nat) (f : State → State) : State :=
  match s.cmd? id with
  | some c => if c.sw then swapSwatch (f (swapSwatch s c.loom)) c.loom else f s
  | none => s

/-! ### Running a swatch -/

/-- A field of the swatch image at a device address. -/
def swField (s : State) (a o n : Nat) : Nat := s.load (a + o) n

/-- Context registers that a swatch replaces while it runs (R399). -/
def swatchRegs (loom ctx : Nat) : List Nat :=
  [Reg.LOOM_FLAGS loom ctx, Reg.LOOM_CLAMP loom ctx, Reg.LOOM_STATCTL loom ctx, Reg.LOOM_GEN loom ctx, Reg.LOOM_VDROP loom ctx,
   Reg.LOOM_VDSCALE loom ctx, Reg.LOOM_MVSTAT loom ctx, Reg.LOOM_MVSTAT2 loom ctx, Reg.LOOM_DIG_BASE loom ctx, Reg.LOOM_DIG_CTL loom ctx] ++
  (List.range 16).map fun e => Reg.LOOM_EPICFG loom ctx e

/-- Whether the other contexts of a loom are quiet (R398): no bundle half issued, no command in flight, no claim. -/
def othersQuiet (s : State) (loom ctx : Nat) : Bool :=
  (List.range 16).all (fun k => k % 4 == ctx || (s.stream loom k).queue.isEmpty) &&
  !(s.cmds.any fun c => c.loom == loom && c.stream % 4 != ctx) &&
  [(s.loom loom).own0, (s.loom loom).own1].all fun o => o == none || o == some ctx

/-- Whether a SWATCH of another context keeps a stream from issuing bundles (R398): it waits for quiet contexts, or runs. -/
def swatchBlocks (s : State) (loom stream : Nat) : Bool :=
  s.res.swatches.any fun r => r.loom == loom && r.stream % 4 != stream % 4 &&
    (r.running || match (s.stream r.loom r.stream).hold with | some (.swatchWait, _) => true | _ => false)

/-- A SWATCH that waits for quiet contexts is noted (R398). -/
def noteSwatch (s : State) (loom stream : Nat) : State :=
  if s.res.swatches.any fun r => r.loom == loom && r.stream == stream then s
  else { s with res := { s.res with swatches := s.res.swatches ++ [{ loom := loom, stream := stream }] } }

/-- The checks of R398 from order 2 on; OUT as resolved. -/
def checkSwatch (s : State) (i : IssueCtx) (entry : Nat) (out : Handle) : Except Reject Operand := do
  let st := s.fld (Reg.RES_SWS_CTL_STATE entry)
  check (st == 1 || st == 2) { code := 0x0103 }
  check ((s.loom i.loom).claimOf i.ctx).isNone { code := 0x0103 }
  let o ← resolve s out
  check (o.ranges.all (inBobbin i.loom)) { code := 0x0103, handle := some out }
  checkFormat o
  check (o.fmt? == some .int32 && o.dense) { code := 0x0205, handle := some out }
  checkSpan o true
  let scratch := swField s (s.reg (Reg.RES_SWS_ADDR entry)).toNat 24 8
  check (decide (scratch ≤ o.span)) { code := 0x0104, dw0 := scratch, dw1 := o.span, handle := some out }
  pure o

/-- The swatch descriptors of an image, placed inside OUT's buffer (R395, R399). -/
def swatchDescs (s : State) (a : Nat) (o : Operand) : SMap (List W64) :=
  (List.range (swField s a 12 1)).foldl (fun m k =>
    let d : List W64 := (List.range 16).map fun w => BitVec.ofNat 64 (swField s a (512 + 128 * k + 8 * w) 8)
    let off := dword d 14
    let d := (d.set 14 (BitVec.ofNat 64 (entryAddr o.w0 0 + off))).set 15 (BitVec.ofNat 64 (o.bufLen - off))
    smSet (fun _ => List.replicate 16 0) m k (dSet0 (dSet0 d 26 26 0) 27 27 1)) []

/-- A SWATCH that passes its checks starts (R399). -/
def startSwatch (s : State) (i : IssueCtx) (sw : BitVec 16) (out : Handle) (o : Operand) : State :=
  let entry := sw.toNat
  let a := (s.reg (Reg.RES_SWS_ADDR entry)).toNat
  let nd := swField s a 12 1
  let plen := swField s a 16 4
  let dlen := swField s a 32 8
  let p0 := 512 + 128 * nd
  let s1 := s.launch i (.swatch sw out)
    { nc := some (64 + ceilDiv dlen 512 + swField s a 272 8), handles := nameAll s [] [out], entries := o.entries s, writes := o.runs
      phase := .own }
  let t0 : StreamSt := { enabled := true, state := .running, prog := some { pc := 0, pgen := 0 } }
  let st := (List.range 16).foldl (fun (t : StreamSt) k => t.setCtr k (BitVec.ofNat 32 (swField s a (64 + 4 * k) 4))) t0
  let run : SwatchRun :=
    { loom := i.loom, stream := i.stream, running := true, cmd := s.nextId, entry := entry
      entered := s.fld (Reg.RES_SWS_CTL_STATE entry), swid := swField s a 0 8, out := some o
      skey := swField s a 48 8, expect := swField s a 40 8, st := st, descs := swatchDescs s a o
      seed := BitVec.ofNat 64 (swField s a 56 8)
      prog := (List.range (plen / 8)).map fun k => BitVec.ofNat 64 (swField s a (p0 + 8 * k) 8)
      saved := (swatchRegs i.loom i.ctx).map fun r => (r, s.reg r) }
  let s2 := s1.storeBytes (entryAddr o.w0 0) (s.bytes (a + p0 + plen) dlen)
  let s3 := (swatchRegs i.loom i.ctx).foldl (fun s r => s.setReg r (regReset r)) s2
  let s4 := (List.range 16).foldl (fun s e => s.setReg (Reg.LOOM_EPICFG i.loom i.ctx e) (BitVec.ofNat 64 (swField s a (128 + 8 * e) 8))) s3
  let s5 := (s4.setReg (Reg.LOOM_CLAMP i.loom i.ctx) (BitVec.ofNat 64 (swField s a 256 8))).setFld (Reg.LOOM_GEN_STEPCTR i.loom i.ctx)
    (swField s a 264 1 % 16)
  let s6 := s5.setLoom i.loom ((s5.loom i.loom).claim i.ctx 1)
  { s6 with res := { s6.res with swatches := (s6.res.swatches.filter fun r => !(r.loom == i.loom && r.stream == i.stream)) ++ [run] } }

/-- SWATCH at issue (R398, R399): held for its window, then for quiet contexts, then checked. -/
def issueSwatch (i : IssueCtx) (sw : BitVec 16) (out : Handle) (s : State) : IssueRes :=
  let waiting := s.res.swatches.any (fun r => r.loom == i.loom && r.stream == i.stream) &&
    (match (s.stream i.loom i.stream).hold with | some (.swatchWait, _) => true | _ => false)
  if windowLeft s 1 = 0 ∧ !waiting then .held .other
  else if !othersQuiet s i.loom i.ctx then .held .swatchWait
  else
    match checkSwatch s i sw.toNat out with
    | .error r => .rejected r
    | .ok o => .issued (startSwatch s i sw out o)

/-- The words of retired commands, command after command in issue order. -/
def orderedWords (ws : List (Nat × List (Nat × Nat × Nat))) : List Nat :=
  let ids := ws.map (·.1)
  let le (a b : Nat) : Bool := decide (a ≤ b)
  (ids.mergeSort le).flatMap fun id => match ws.find? (·.1 == id) with
    | some w => digestMessage w.2
    | none => []

/-- The result record of a swatch (R400). -/
def swatchRecord (s : State) (r : SwatchRun) (tag : Tag) (result digest code : Nat) : List Byte :=
  leBytes 8 r.swid ++ leBytes 8 s.pick ++ leBytes 1 r.loom ++ leBytes 1 (lmapByte s r.loom % 32 + 32 * s.dieOf r.loom) ++
  leBytes 1 result ++ leBytes 1 (r.stream % 4) ++ leBytes 3 tag.toNat ++ leBytes 1 0 ++ leBytes 8 digest ++ leBytes 2 code ++ leBytes 30 0

/-- A result record written and WPTR advanced (R400). -/
def writeResult (s : State) (rec_ : List Byte) : State :=
  let w := s.fld Reg.RES_SWR_CTL_WPTR
  (s.storeBytes ((s.reg Reg.RES_SWR_BASE).toNat + 64 * (w % 2 ^ s.fld Reg.RES_SWR_CTL_LOG2N)) rec_).addWrap Reg.RES_SWR_CTL_WPTR 1

/-- SUSPECT clears once every entry with STATE 1 has passed on every active loom (R402). -/
def settleSuspect (s : State) : State :=
  if s.flag Reg.RES_HEALTH_SUSPECT && (List.range 256).all (fun e => s.fld (Reg.RES_SWS_CTL_STATE e) != 1 ||
      (List.range s.nLooms).all fun l => s.res.passed.contains (e, l)) then
    s.setFld Reg.RES_HEALTH_SUSPECT 0
  else s

/-- PASS or FAIL counted, and what it means for SUSPECT (R400, R402), for the entry as it was when the SWATCH issued (R475). -/
def countResult (s : State) (r : SwatchRun) (pass : Bool) : State :=
  if pass then
    let s := s.addSat (Reg.RES_LSW_PASS r.loom) 1
    let passed := if r.entered = 1 ∧ !s.res.passed.contains (r.entry, r.loom) then
        s.res.passed ++ [(r.entry, r.loom)] else s.res.passed
    settleSuspect { s with res := { s.res with passed := passed } }
  else ({ (s.addSat (Reg.RES_LSW_FAIL r.loom) 1) with res := { s.res with passed := [] } }).advise 0x0602 r.swid r.loom (loom := some r.loom)

/-- The swatch leaves the loom: its claim is released and the context's registers return (R399). -/
def leaveSwatch (s : State) (r : SwatchRun) : State :=
  let s := s.setLoom r.loom ((s.loom r.loom).release (r.stream % 4))
  let s := r.saved.foldl (fun s p => s.setReg p.1 p.2) s
  { s with res := { s.res with swatches := s.res.swatches.filter fun x => !(x.loom == r.loom && x.running) }
           cmds := s.cmds.filter fun c => !(c.sw && c.loom == r.loom) }

/-- Whether the program of a running swatch has ended: no bundle to issue and no command in flight. -/
def SwatchRun.ended (r : SwatchRun) (s : State) : Bool :=
  (r.st.prog.isNone || r.st.fault.isSome) && r.st.queue.isEmpty && !(s.cmds.any fun c => c.sw && c.loom == r.loom)

/-- SWATCH_COMPLETE (R400, R402). -/
def swatchEnds (s : State) (loom stream : Nat) : State :=
  match s.swRun loom with
  | none => s
  | some r =>
    match s.cmd? r.cmd with
    | none => s
    | some c =>
      if r.stream = stream ∧ r.ended s then
        let s := leaveSwatch s r
        let digest := gdigest r.skey 0 (orderedWords r.words)
        if c.draining then s.retire c
        else match r.st.fault with
          | some (code, a, b, d) =>
            (writeResult s (swatchRecord s r c.tag 3 digest code)).lateFault c { code := code, dw0 := a, dw1 := b, dw2 := d }
          | none =>
            let pass := digest == r.expect
            (countResult (writeResult s (swatchRecord s r c.tag (if pass then 0 else 1) digest 0)) r pass).retire c
      else s

/-- A SWATCH that passes its budget ends with its program (R243, R400). -/
def abortSwatch (s : State) (c : Cmd) : State :=
  match s.swRun c.loom with
  | some r => if r.cmd = c.id then leaveSwatch s r else s
  | none => s

/-- A SWATCH event for a store entry (R468, R475): its index, SWID, STATE and the hash of its image. -/
def State.logSwatch (s : State) (e : Nat) (image : List Byte) : State :=
  s.logEvent 0x0006 0xFF (leBytes 2 e ++ leBytes 8 (s.reg (Reg.RES_SWS_ID e)).toNat ++
    leBytes 1 (s.fld (Reg.RES_SWS_CTL_STATE e)) ++ shake256 32 image)

/-- The image that a store entry names, as memory holds it. -/
def State.storeImage (s : State) (e : Nat) : List Byte :=
  s.bytes (s.reg (Reg.RES_SWS_ADDR e)).toNat (s.fld (Reg.RES_SWS_LEN_LEN e))

/-- A QUARANTINE write (R397, R475). The entry counts no longer for SUSPECT (R402). -/
def quarantineEntry (s : State) (e : Nat) : State :=
  let s := settleSuspect ((s.setFld (Reg.RES_SWS_CTL_STATE e) 3).advise 0x0603 (s.reg (Reg.RES_SWS_ID e)).toNat)
  s.logSwatch e (s.storeImage e)

/-! ### Candidate capture (R392 to R394) -/

/-- A CAP_START write with ARM (R392): ignored while a range is armed or active. -/
def armCapture (s : State) : State :=
  if s.flag Reg.RES_CAP_STAT_ARMED || s.flag Reg.RES_CAP_STAT_ACTIVE then s
  else s.setFld Reg.RES_CAP_STAT_ARMED 1

/-- A capture refused (R394). -/
def refuseCapture (s : State) (reason : Nat) : State :=
  (((({ s with res := { s.res with cap := none } }).setFld Reg.RES_CAP_STAT_ARMED 0).setFld Reg.RES_CAP_STAT_ACTIVE 0).setFld
    Reg.RES_CAP_STAT_REFUSED 1).setFld Reg.RES_CAP_STAT_REASON reason

/-- Whether a bundle starts the armed range (R392). -/
def capMatches (s : State) (loom stream : Nat) (tag : Tag) (iters : List Nat) : Bool :=
  let iter (k : Nat) : Nat := match k with
    | 0 => s.fld Reg.RES_CAP_ITER01_ITER0
    | 1 => s.fld Reg.RES_CAP_ITER01_ITER1
    | 2 => s.fld Reg.RES_CAP_ITER23_ITER2
    | _ => s.fld Reg.RES_CAP_ITER23_ITER3
  s.flag Reg.RES_CAP_STAT_ARMED && s.res.cap.isNone && s.fld Reg.RES_CAP_START_LOOM == loom && s.fld Reg.RES_CAP_START_STREAM == stream &&
    s.fld Reg.RES_CAP_START_TAG == tag.toNat &&
    (List.range 4).all fun k => !bitAt (s.fld Reg.RES_CAP_START_ITMASK) k || iters[k]? == some (iter k)

/-- The capture of a range begins (R393); ARMED stays set until the range ends (R392). -/
def beginCapture (s : State) (loom stream : Nat) : State :=
  let ctx := stream % 4
  let cap : CapRun :=
    { startPick := s.pick, ctrs := (s.stream loom stream).allCtrs
      epi := (List.range 16).map fun e => s.reg (Reg.LOOM_EPICFG loom ctx e)
      clamp := s.reg (Reg.LOOM_CLAMP loom ctx), gen := s.reg (Reg.LOOM_GEN loom ctx), firstCmd := s.nextId }
  { s with res := { s.res with cap := some cap } }.setFld Reg.RES_CAP_STAT_ACTIVE 1

/-- The swatch handle of a job handle, by the order in which the range first named it (R393). -/
def CapRun.handleOf (c : CapRun) (h : Handle) : Option Nat := c.handles.findIdx? (·.1 == h)

/-- The swatch handle that stands for a job handle; 0 for one the range has not named. -/
def CapRun.rename (c : CapRun) (h : Handle) : Handle := BitVec.ofNat 16 ((c.handleOf h).getD 0)

/-- Bytes that a handle's tensor, or a mordant stream, takes in the scratch, in steps of 64. -/
def capSize (s : State) (h : Handle) (mordOf : Option Operand) : Nat :=
  match mordOf, resolvePlain s h with
  | some o, _ => max 64 (64 * o.frames)
  | none, .ok o => max 64 (ceilDiv o.span 64 * 64)
  | none, .error _ => 64

/-- The operand whose mordant handle `h` is, among some handles. -/
def mordantOf (s : State) (hs : List Handle) (h : Handle) : Option Operand :=
  hs.findSome? fun x => match resolvePlain s x with
    | .ok o => if o.scaled && dMordant o.words == h then some o else none
    | .error _ => none

/-- A handle named for the first time joins the range's handles (R393). -/
def CapRun.name (s : State) (all : List Handle) (c : CapRun) (h : Handle) : CapRun :=
  if (c.handleOf h).isSome then c
  else { c with handles := c.handles ++ [(h, s.desc (handleIndex h), c.scratch)], scratch := c.scratch + capSize s h (mordantOf s all h) }

/-- Whether a command reads its own destinations before it writes them. -/
def readsDsts : SlotCmd → Bool
  | .vec op f => readsD op f.fn.toNat || op == .smstep || op == .smnorm
  | .full _ | .qgrad _ => true
  | _ => false

/-- A handle's span or mordant stream copied into DATA at the issue of its first read (R393). -/
def CapRun.copyIn (s : State) (all : List Handle) (c : CapRun) (h : Handle) : CapRun :=
  match c.handles.find? (·.1 == h), resolvePlain s h with
  | some (_, _, off), .ok o =>
    let n := match mordantOf s all h with | some x => 64 * x.frames | none => o.span
    { c with data := (List.range n).foldl (fun m k => smSet (fun _ => (0 : Byte)) m (off + k) (s.operandByte (entryAddr o.w0 k))) c.data }
  | _, _ => c

/-- The handles that a command of the range names join the range's handles (R393). -/
def CapRun.nameSlot (s : State) (i : IssueCtx) (cap : CapRun) (c : SlotCmd) : CapRun :=
  (slotNames s i c).names.foldl (CapRun.name s (slotNames s i c).names) cap

/-- What a capture takes from a command at its issue, the state as it stands before: contents and N_c (R393). -/
def captureSlot (s : State) (i : IssueCtx) (c : SlotCmd) (cycles : Nat) (cap : CapRun) : CapRun :=
  let n := slotNames s i c
  let all := n.names
  let reads := all.filter fun h => !cap.written.contains h && (!n.wrote.contains h || readsDsts c)
  let cap := reads.foldl (CapRun.copyIn s all) cap
  let load := match c with | .mload _ => true | _ => false
  let ones := match c with | .full f => if passOne f.pass.toNat then [f.s] else [] | _ => []
  let layers := match c with | .full f => if cap.layers.contains f.s then [] else [f.s] | _ => []
  { cap with written := cap.written ++ n.wrote, cycles := cap.cycles + cycles, loaded := cap.loaded || load
             passOnes := cap.passOnes ++ ones, layers := cap.layers ++ layers }

/-- The counters that a slot command reads at issue: those its fields name (R195), and STEPCTR for the commands that use the step
(R169). -/
def countersRead (s : State) (i : IssueCtx) : SlotCmd → List Nat
  | .mload f => [f.kt.toNat, f.nt.toNat]
  | .mstream f => [f.m0.toNat, f.mrows.toNat, s.fld (Reg.LOOM_GEN_STEPCTR i.loom i.ctx)]
  | .mdrain f => [f.m0.toNat, s.fld (Reg.LOOM_GEN_STEPCTR i.loom i.ctx)]
  | .cadd f => f.cs.toNat :: (if f.usect then [f.ct.toNat] else [])
  | .cmp f => f.cs.toNat :: (if f.usect then [f.ct.toNat] else [])
  | .vec .dropout _ | .vec .convert _ | .full _ => [s.fld (Reg.LOOM_GEN_STEPCTR i.loom i.ctx)]
  | .vec .causal f => [f.x.toNat % 16]
  | .xpose f => if f.rb then [s.fld (Reg.LOOM_GEN_STEPCTR i.loom i.ctx)] else []
  | _ => []

/-- Whether a command is left out of a candidate's program (R393). -/
def capDrops : SlotCmd → Bool
  | .loop _ _ _ | .endloop | .skipif _ _ _ | .run _ _ _ | .mpair _ | .waitsem _ _ | .signal _ _ _ _ | .waitpick _ | .fence _ => true
  | _ => false

/-- A slot command with its handles rewritten to swatch handles (R393). -/
def CapRun.rewrite (c : CapRun) : SlotCmd → SlotCmd
  | .mload f => .mload { f with w := c.rename f.w }
  | .mstream f => .mstream { f with a := c.rename f.a, d := c.rename f.d }
  | .mdrain f => .mdrain { f with d := c.rename f.d }
  | .vec op f => .vec op { f with d := c.rename f.d, a := c.rename f.a, b := c.rename f.b }
  | .move d a => .move (c.rename d) (c.rename a)
  | .fill d v => .fill (c.rename d) v
  | .copy d a => .copy (c.rename d) (c.rename a)
  | .xpose f => .xpose { f with dst := c.rename f.dst, src := c.rename f.src }
  | .statcfg a b cl => .statcfg (c.rename a) (c.rename b) cl
  | .statread f => .statread { f with dst := c.rename f.dst, ref := c.rename f.ref }
  | .qgrad f => .qgrad { f with q := c.rename f.q, x := c.rename f.x, g := c.rename f.g }
  | .full f => .full { f with p := c.rename f.p, g := c.rename f.g, s := c.rename f.s }
  | x => x

/-- The program words of an issued bundle (R393): a CSET bundle for each counter it reads, then the bundle with WAIT, SIGNAL,
LE and PB clear and without the commands that are left out. The CSET bundles carry the bundle's tag and stand in the order in which its
slots first read the counters (DESIGN CHOICE, log entry 56). -/
def capWords (s : State) (i : IssueCtx) (hdr : Nat) (cmds : List SlotCmd) (cap : CapRun) : List Nat :=
  let kept := cmds.filter fun c => !capDrops c
  let ctrs := nubNat (kept.flatMap (countersRead s i))
  let mask := kept.foldl (fun m c => m ||| 2 ^ slotOf c) 0
  (ctrs.flatMap fun k => [bundleHeader 0x10 i.tag.toNat, (slotWord (.cset (BitVec.ofNat 4 k) (i.snap.getD k 0))).toNat]) ++
    [bundleHeader mask i.tag.toNat + (if hTr hdr then 2 ^ 34 else 0)] ++ kept.map fun c => (slotWord (cap.rewrite c)).toNat

/-- The REASON for which a command refuses a capture (R394). -/
def capRefusal (s : State) (i : IssueCtx) (cap : CapRun) (c : SlotCmd) : Option Nat :=
  let t := s.loom i.loom
  let old (h : Nat) : Bool := match t.acc h with | some a => decide (a.aid < cap.firstCmd) | none => true
  match c with
  | .throwTo _ _ _ | .catchAt _ _ _ | .ckptCut _ | .ckptVote _ | .swatch _ _ => some 1
  | .mstream f =>
    match t.claimOf i.ctx with
    | some (h, _) =>
      if !cap.loaded || ((f.accm == 2 || f.accm == 3) && old h) then some 4 else none
    | none => none
  | .mdrain _ => match t.claimOf i.ctx with | some (h, _) => if old h then some 4 else none | none => none
  | .full f => if passTwo f.pass.toNat && !passOne f.pass.toNat && !cap.passOnes.contains f.s then some 4 else none
  | _ => none

/-- The descriptor words of a captured handle (R393, R395). -/
def CapRun.descWords (c : CapRun) (x : Handle × List W64 × Nat) : List W64 :=
  let d := dSet0 (dSet0 x.2.1 31 28 0) 26 26 0
  let d := dSet0 d 11 0 0
  let d := dSet0 d 47 32 (c.rename (dMordant x.2.1)).toNat
  (d.set 14 (BitVec.ofNat 64 x.2.2)).set 15 0

/-- DATA of a candidate (R393): the handles that the layer records of the range's FULLs hold, STATS and BIND 2 to 7 (R288), are
rewritten as far as the range has named them. -/
def CapRun.dataOut (c : CapRun) : SMap Byte :=
  let put (m : SMap Byte) (a v : Nat) : SMap Byte := smSet (fun _ => (0 : Byte)) m a (BitVec.ofNat 8 v)
  (c.handles.filter fun x => c.layers.contains x.1).foldl (fun m x =>
    [28, 32, 34, 36, 38, 40, 42].foldl (fun m o =>
      let h := leValue (sparseBytes m (x.2.2 + o) 2)
      match c.handleOf (BitVec.ofNat 16 h) with
      | some k => put (put m (x.2.2 + o) k) (x.2.2 + o + 1) (k / 256)
      | none => m) m) c.data

/-- The bytes of a candidate's image before its signature (R393, R395). -/
def candidateBytes (s : State) (c : CapRun) : List Byte :=
  let w (n v : Nat) : List Byte := leBytes n v
  let named (h : Nat) : Nat := ((c.handleOf (BitVec.ofNat 16 h)).getD h)
  let epi (e : W64) : Nat :=
    let v := setBits e.toNat 6 6 0
    setBits (setBits (setBits v 31 16 (named (bitsOf v 31 16))) 47 32 (named (bitsOf v 47 32))) 63 48 (named (bitsOf v 63 48))
  w 8 c.startPick ++ w 2 1 ++ w 1 0 ++ w 1 1 ++ w 1 c.handles.length ++ w 3 0 ++ w 4 (8 * c.prog.length) ++ w 4 0 ++
  w 8 c.scratch ++ w 8 c.scratch ++ w 8 (gdigest (s.reg Reg.RES_DKEY).toNat 0 (orderedWords c.words)) ++
  w 8 (s.reg Reg.RES_DKEY).toNat ++ w 8 (s.reg Reg.GCTL_JOB_SEED).toNat ++
  (c.ctrs.flatMap fun v => w 4 v.toNat) ++ (c.epi.flatMap fun e => w 8 (epi e)) ++ w 8 c.clamp.toNat ++
  w 1 (c.gen.toNat % 16) ++ w 7 0 ++ w 8 c.cycles ++ w 232 0 ++
  (c.handles.flatMap fun x => (c.descWords x).flatMap fun v => w 8 v.toNat) ++ (c.prog.flatMap fun v => w 8 v) ++
  sparseBytes c.dataOut 0 c.scratch

/-- The image length of a candidate, its signature area included. -/
def CapRun.imageLen (c : CapRun) : Nat := 512 + 128 * c.handles.length + 8 * c.prog.length + c.scratch + 29792

/-- A capture that has grown too large, or has too many handles, is refused (R394). -/
def checkCapture (s : State) (c : CapRun) : State :=
  if s.fld Reg.RES_CAP_LEN_LEN < c.imageLen then refuseCapture s 2
  else if 64 < c.handles.length then refuseCapture s 3
  else { s with res := { s.res with cap := some c } }

/-- The range has ended and its last command has retired: the image is written and DONE sets (R393). -/
def finishCapture (s : State) : State :=
  match s.res.cap with
  | none => s
  | some c =>
    match c.closing with
    | none => s
    | some bno =>
      let loom := s.fld Reg.RES_CAP_START_LOOM
      let stream := s.fld Reg.RES_CAP_START_STREAM
      let busy := s.cmds.any fun x => x.loom == loom && x.stream == stream && !x.sw && decide (x.bno ≤ bno)
      if busy || (s.stream loom stream).queue.any (fun q => match q with | .slot i _ => decide (i.bno ≤ bno) | .fin _ b => decide (b ≤ bno)) then s
      else
        let a := (s.reg Reg.RES_CAP_ADDR).toNat
        let s := s.storeBytes a (candidateBytes s c ++ List.replicate 29792 0)
        let s := { s with res := { s.res with cap := none } }
        (((s.setFld Reg.RES_CAP_STAT_ARMED 0).setFld Reg.RES_CAP_STAT_ACTIVE 0).setFld Reg.RES_CAP_STAT_DONE 1).setFld
          Reg.RES_CAP_STAT_BYTES c.imageLen

/-- The digest words of a retired command kept for the swatch or the capture that it belongs to (R393, R399). -/
def keepWords (s : State) (c : Cmd) : State :=
  if !slotWrites c.c then s
  else if c.sw then
    { s with res := { s.res with swatches := s.res.swatches.map fun r =>
        if r.loom = c.loom ∧ r.running then { r with words := r.words ++ [(c.id, c.plan.words)] } else r } }
  else match s.res.cap with
    | some k =>
      if decide (k.firstCmd ≤ c.id) && c.loom == s.fld Reg.RES_CAP_START_LOOM && c.stream == s.fld Reg.RES_CAP_START_STREAM &&
          (match k.closing with | some b => decide (c.bno ≤ b) | none => true) then
        { s with res := { s.res with cap := some { k with words := k.words ++ [(c.id, c.plan.words)] } } }
      else s
    | none => s

end Sys2Proof.Machine
end

