-- ==== Sys2Proof/Machine/Hexig.lean ====
section
/-! DEFINITION. Hexig: how a stream fetches, decodes and issues bundles (R207 to R212, R222 to R225), the order of holds and
rejections before every engine's own checks (R238, R239), bundle ends, signal sets, doorbells, rings, STOP, RESUME and
time-slicing (R228 to R234, R511), and the events of commands in flight (R237, R243). -/
namespace Sys2Proof.Machine

/-! ### One slot command at issue -/

/-- LOOP at issue: the fifth level faults (R222); the loop starts when its bundle has issued. -/
def issueLoop (i : IssueCtx) (s : State) : IssueRes :=
  if 4 ≤ (s.stream i.loom i.stream).loops.length then .rejected { code := 0x0109, dw0 := 1 } else .issued s

/-- RUN at issue (R225, R226): held while a load is open, rejected when PGEN is not the page's generation. -/
def issueRun (i : IssueCtx) (page : BitVec 6) (pgen : BitVec 8) (s : State) : IssueRes :=
  if s.loadOpen i.loom then .held .other
  else if s.pgen i.loom page.toNat ≠ pgen.toNat then
    .rejected { code := 0x0107, dw0 := page.toNat, dw1 := pgen.toNat, dw2 := s.pgen i.loom page.toNat }
  else .issued s

/-- The engine's part of a command's issue. A scalar command takes effect when its bundle has issued (R211). -/
def engineIssue (s : State) (i : IssueCtx) : SlotCmd → IssueRes
  | .mload f => issueMload i f s
  | .mstream f => issueMstream i f s
  | .mpair claim => issueMpair i claim.toNat s
  | .mdrain f => issueMdrain i f s
  | .vec op f => issueVector i op f s
  | .move d a => issueMove i d a s
  | .fill d v => issueFill i d v s
  | .copy d a => issueCopy i d a s
  | .xpose f => issueXpose i f s
  | .throwTo a fc len => issueThrow i a fc len s
  | .catchAt d fc len => issueCatch i d fc len s
  | .cset _ _ | .cadd _ | .cmp _ | .endloop | .skipif _ _ _ => .issued s
  | .loop _ _ _ => issueLoop i s
  | .run page _ pgen => issueRun i page pgen s
  | .waitsem sem n => issueWaitsem i sem n s
  | .signal sem loom stream add => issueSignal i sem loom stream add s
  | .waitpick p => issueWaitpick i p s
  | .fence crec => issueFence i crec s
  | .statcfg st sg clear => issueStatcfg i st sg clear s
  | .statread f => issueStatread i f s
  | .qgrad f => issueQgrad i f s
  | .full f => startFull i f s
  | .ckptCut f => issueCut i f s
  | .ckptVote f => issueVote i f s
  | .swatch sw out => issueSwatch i sw out s

/-- What holds a command before any check: the remap of its position (R23, R239), an earlier command on its handles (R238),
and the hold of the arrays or of the fulling engine (R119, R125, R286, R305). A FULL that finds the engine busy waits for it, whatever
else holds it. -/
def heldFirst (s : State) (i : IssueCtx) (c : SlotCmd) : Option HoldKind :=
  if s.remapPending i.loom then some .other
  else if let (.full _, some k) := (c, engineHold s i) then some k
  else if handleHeld (s.cmdsOf i.loom i.stream) (slotNames s i c) then some .other
  else match c with
    | .mload _ => mloadHold s i
    | .mstream _ => mstreamHold s i
    | .mpair claim => mpairHold s i claim.toNat
    | _ => none

/-- The handles whose capture rejects a command (R239): those it writes. A SWATCH is not among the commands of that row. -/
def capturedWrites (s : State) (i : IssueCtx) (c : SlotCmd) : List Handle :=
  match c with
  | .swatch _ _ => []
  | c => (slotNames s i c).wrote

/-- One attempt to issue a command: what holds it; the ACT check of order 1 (R125, R161); the power state of its loom and
the captured handles of a cut in progress, at order 2 (R239, R305); then its engine's checks. -/
def tryIssue (s : State) (i : IssueCtx) (c : SlotCmd) : IssueRes :=
  match heldFirst s i c with
  | some k => .held k
  | none =>
    match matrixAct s i c with
    | .error r => .rejected r
    | .ok _ =>
      if s.loomPower i.loom ≠ 0 then .rejected { code := 0x0103 }
      else
        match (capturedWrites s i c).find? (capturedHandles s).contains with
        | some h => .rejected { code := 0x0103, handle := some h }
        | none => engineIssue s i c

/-! ### Bundle ends (R210, R222, R223, R225) -/

/-- The stream fault of a loop rule (R222, R508). -/
def loopFault (s : State) (loom stream : Nat) (e : BundleEnd) (bno detail : Nat) : State :=
  s.streamFault { loom := loom, stream := stream, slot := 4, tag := e.tag, iters := (s.stream loom stream).loops.map (·.iter) } bno
    s.nextId { code := 0x0109, dw0 := detail } none false []

/-- The loop-end action of the innermost loop: the stream after it, and whether it jumps back (R222). -/
def StreamSt.endLoop (t : StreamSt) (top : LoopFrame) : StreamSt × Bool :=
  let it := top.iter + 1
  if it = top.count then ({ t with loops := t.loops.dropLast }, false)
  else
    let t := { t with loops := t.loops.dropLast ++ [{ top with iter := it }], prog := t.prog.map fun p => { p with pc := top.body } }
    (match top.idx with | some k => t.setCtr k (BitVec.ofNat 32 it) | none => t, true)

/-- The walk over the bundles that a taken SKIPIF of a program skips: the word after them, whether the innermost open
loop's end bundle is among them, or the word whose header does not check (R223). -/
def State.skipWalk (s : State) (loom : Nat) (inLoop : Bool) : Nat → Nat → Bool → Except Nat (Nat × Bool)
  | 0, pc, hit => .ok (pc, hit)
  | n + 1, pc, hit =>
    match s.shape loom pc with
    | none => .error pc
    | some b => s.skipWalk loom inLoop n (pc + b.len) (hit || (inLoop && b.ends))

/-- The program a stream was in has ended: fetch resumes in the ring, and the RUN bundle can retire (R225). -/
def StreamSt.leaveProgram (t : StreamSt) : StreamSt :=
  { t with prog := none, loops := [], bundles := t.bundles.map fun b => { b with running := false } }

/-- The effect of a bundle's scalar slot beside its counters: where the program goes on (R222, R223, R225). -/
def StreamSt.steer (t : StreamSt) (s : State) (loom : Nat) (e : BundleEnd) (bno : Nat) : StreamSt :=
  match e.scalar with
  | some (.loop cnt idx idxen) =>
    let n := (e.snap.getD cnt.toNat 0).toNat
    if n = 0 then { t with prog := t.prog.map fun p => { p with pc := (s.loopEnd loom 32768 0 e.next).getD e.next } }
    else
      let t := { t with loops := t.loops ++ [{ body := e.next, count := n, iter := 0, idx := if idxen then some idx.toNat else none }] }
      if idxen then t.setCtr idx.toNat 0 else t
  | some (.run page word pgen) =>
    { t with prog := some { pc := 512 * page.toNat + word.toNat, pgen := pgen.toNat }
             bundles := t.bundles.map fun (b : BundleRec) => if b.bno = bno then { b with running := true } else b }
  | _ => t

/-- How many bundles a bundle's SKIPIF skips. -/
def skipCount (e : BundleEnd) : Nat :=
  match e.scalar with
  | some (.skipif k sense n) => if bitAt e.cmps.toNat k.toNat == sense then n.toNat else 0
  | _ => 0

/-- What waits for a bundle boundary acts there: a forced load (R226), STOP, a gate or a vote stop (R511). -/
def atBoundary (s : State) (loom stream : Nat) : State :=
  let t := s.stream loom stream
  let s := if t.reload then (if t.inside then stopProgram s loom stream else s.setStream loom stream { t with reload := false }) else s
  let t := s.stream loom stream
  let s := if t.stopReq && (t.state == .running || t.state == .held || t.state == .idle) then
      s.setStream loom stream { t with state := .stopped, stopReq := false, hold := none }
    else s
  s.settle loom stream

/-- A bundle has issued: its scalar write, its skip, the loop end, the program's end (R210, R211, R222, R223, R225). -/
def bundleEnd (s : State) (loom stream : Nat) (e : BundleEnd) (bno : Nat) : State :=
  let t := s.stream loom stream
  let t := match e.scalar with | some c => t.scalar e.snap c | none => t
  let t := { t with prog := t.prog.map fun (p : ProgPos) => { p with pc := e.next }
                    bundles := t.bundles.map fun (b : BundleRec) => if b.bno = bno then { b with issued := true } else b }
  let t := t.steer s loom e bno
  let inLoop := !t.loops.isEmpty
  let walk := if e.ring then .ok (e.next, false) else s.skipWalk loom inLoop (skipCount e) e.next false
  match walk with
  | .error pc =>
    let h := ((s.progWord loom pc).getD 0).toNat
    (s.setStream loom stream t).streamFault { loom := loom, stream := stream, slot := 0, tag := hTag h, iters := t.loops.map (·.iter) }
      (bno + 1) s.nextId { code := 0x0101, dw0 := h } none false []
  | .ok (pc, hit) =>
    let t := if e.ring then { t with skip := skipCount e }
      else if skipCount e = 0 then t
      else { t with prog := t.prog.map fun p => { p with pc := pc } }
    let ends := e.le || e.endloop || hit
    match ends, t.loops.getLast? with
    | true, none => loopFault (s.setStream loom stream t) loom stream e bno 2
    | _, top =>
      let r := if ends then (match top with | some f => t.endLoop f | none => (t, false)) else (t, false)
      let t := r.1
      let ended := (e.pb && !r.2) || (s.swMode && t.prog.any fun p => decide (s.progLen loom ≤ p.pc))
      if ended && !t.loops.isEmpty then loopFault (s.setStream loom stream t) loom stream e bno 3
      else atBoundary (s.setStream loom stream (if ended then t.leaveProgram else t)) loom stream

/-! ### The issue queue -/

/-- What a capture takes from a command that has issued (R393). -/
def captureIssued (before after : State) (i : IssueCtx) (c : SlotCmd) : State :=
  match after.res.cap with
  | some cap =>
    if !before.swMode && cap.closing.all (i.bno ≤ ·) && i.loom == before.fld Reg.RES_CAP_START_LOOM &&
        i.stream == before.fld Reg.RES_CAP_START_STREAM then
      let cycles := ((after.cmds.find? (·.id == before.nextId)).map (·.cycles)).getD 0 +
        (if before.flag (Reg.LOOM_DIG_CTL_EN i.loom i.ctx) then 16 else 0)
      checkCapture after (captureSlot before i c cycles cap)
    else after
  | none => after

/-- The trace record of a bundle, if it has one, shows that the bundle was held before issue (R484). -/
def StreamSt.traceHeld (t : StreamSt) (bno : Nat) : StreamSt :=
  { t with bundles := t.bundles.map fun (b : BundleRec) =>
      if b.bno = bno then { b with trace := b.trace.map fun r => { r with held := true } } else b }

/-- A command of a stream that reached issue and was held (R231, R239). -/
def noteHold (s : State) (loom stream bno : Nat) (k : HoldKind) : State :=
  let s := s.holdStream loom stream k
  let s := s.setStream loom stream ((s.stream loom stream).traceHeld bno)
  match k with
  | .fulling | .fullingOwn => enqueueFull s loom stream
  | .swatchWait => noteSwatch s loom stream
  | _ => s

/-- The first item of a stream's issue queue taken off. -/
def popItem (s : State) (loom stream : Nat) : State :=
  let t := s.stream loom stream
  s.setStream loom stream { t with queue := t.queue.drop 1 }

/-- The items of a stream's issue queue in order, up to the first that is held (R210). -/
def drainQueue (loom stream : Nat) : Nat → State → State
  | 0, s => s
  | n + 1, s =>
    match (s.stream loom stream).queue with
    | [] => s
    | .fin e bno :: _ => drainQueue loom stream n (bundleEnd (popItem s loom stream) loom stream e bno)
    | .slot i c :: _ =>
      match tryIssue s i c with
      | .held k => noteHold s loom stream i.bno k
      | .rejected r => (rejectEffects s i c r).rejectAt i (r.named c)
      | .issued s' =>
        let s' := captureIssued s s' i c
        drainQueue loom stream n ((popItem (dequeueFull s' loom stream) loom stream).unhold loom stream)

/-- The whole issue queue of a stream tried. -/
def drain (s : State) (loom stream : Nat) : State := drainQueue loom stream ((s.stream loom stream).queue.length) s

/-! ### Decoding (R209, R213, R222, R223, R225, R399) -/

/-- Commands that fail decode inside a swatch (R399). -/
def swatchExcludes : SlotCmd → Bool
  | .throwTo _ _ _ | .catchAt _ _ _ | .ckptCut _ | .ckptVote _ | .swatch _ _ | .run _ _ _ | .mpair _ | .signal _ _ _ _ | .waitsem _ _
  | .waitpick _ => true
  | .fence crec => crec
  | _ => false

/-- The structural rules of loops, skips and programs, for a slot command of a bundle with header `h` whose next word is
`next`. -/
def structureOk (s : State) (loom : Nat) (ring inLoop : Bool) (h next : Nat) (c : SlotCmd) : Bool :=
  !(s.swMode && swatchExcludes c) && (match c with
    | .loop _ _ _ => !ring && !hLe h && !hPb h && (s.loopEnd loom 32768 0 next).isSome
    | .endloop => !ring && !hLe h
    | .run _ _ _ => ring
    | .skipif _ _ n => ring || n == 0 || (!hPb h && !(inLoop && hLe h) && s.skipOk loom inLoop n.toNat next)
    | _ => true)

/-- A bundle as fetched: header, slot words, whether it comes from the ring, the word after it. -/
structure Fetched where
  hdr : Nat
  words : List W64
  ring : Bool
  next : Nat
  deriving DecidableEq, Repr

/-- The fault of a bundle that fails decode: its header and the failing word (R508), and the slot of that word. -/
structure DecodeFault where
  fault : LateFault
  slot : Nat := 0
  deriving DecidableEq, Repr

/-- DECODE_ILLEGAL for a header check. -/
def headerFault (h : Nat) : DecodeFault := { fault := { code := 0x0101, dw0 := h } }

/-- The slot words of a bundle decoded in increasing slot index (R209, R213). -/
def decodeWords (s : State) (loom : Nat) (inLoop : Bool) (f : Fetched) : List (Nat × W64) → Except DecodeFault (List SlotCmd)
  | [] => .ok []
  | (k, w) :: rest =>
    let bad : Except DecodeFault (List SlotCmd) := .error { fault := { code := 0x0101, dw0 := f.hdr, dw1 := w.toNat }, slot := k }
    match decodeSlot k w with
    | none => bad
    | some c =>
      if structureOk s loom f.ring inLoop f.hdr f.next c then
        match decodeWords s loom inLoop f rest with
        | .ok l => .ok (c :: l)
        | .error e => .error e
      else bad

/-- The decode checks of a bundle (R208, R209, R222, R225). -/
def decodeBundle (s : State) (loom : Nat) (inLoop : Bool) (f : Fetched) : Except DecodeFault (List SlotCmd) :=
  if !headerOk f.hdr || (f.ring && (hLe f.hdr || hPb f.hdr)) then .error (headerFault f.hdr)
  else decodeWords s loom inLoop f ((maskSlots f.hdr).zip f.words)

/-- The page of a run of program words whose generation is not the RUN's (R225). -/
def stalePage (s : State) (loom : Nat) (p : ProgPos) (len : Nat) : Option Nat :=
  if s.swMode then none
  else (List.range 64).find? fun g => decide (p.pc / 512 ≤ g) && decide (g ≤ (p.pc + len - 1) / 512) && s.pgen loom g != p.pgen

/-- The next bundle of a program (R225). -/
def fetchProgram (s : State) (loom : Nat) (p : ProgPos) : Except DecodeFault Fetched :=
  match s.progWord loom p.pc with
  | none => .error (headerFault 0)
  | some h =>
    let len := bundleLen h.toNat
    match stalePage s loom p len with
    | some g => .error { fault := { code := 0x0107, dw0 := g, dw1 := p.pgen, dw2 := s.pgen loom g } }
    | none =>
      if s.progLen loom < p.pc + len then .error (headerFault h.toNat)
      else .ok { hdr := h.toNat, words := (List.range (len - 1)).map fun k => (s.progWord loom (p.pc + 1 + k)).getD 0, ring := false, next := p.pc + len }

/-- A word of a stream's ring (R228). -/
def ringWord (s : State) (t : StreamSt) (k : Nat) : Nat := s.load (t.base + 8 * (k % t.ringWords)) 8

/-- The first of `n` words of a ring, from word `k` on, that fails every read (R262): its address. -/
def badRing (s : State) (t : StreamSt) (k n : Nat) : Option Nat :=
  ((List.range n).map fun j => t.base + 8 * ((k + j) % t.ringWords)).find? s.isBad

/-- Words from the fetch position to the tail of the doorbell being fetched; a whole ring when they are equal (R229). -/
def bellWords (t : StreamSt) (tail : Nat) : Nat :=
  let d := (tail + t.ringWords - t.head) % t.ringWords
  if d = 0 then t.ringWords else d

/-- The next bundle of a ring, with the framing of its doorbell (R229); a word that cannot be read faults it (R261, R262). -/
def fetchRing (s : State) (t : StreamSt) (tail left : Nat) : Except DecodeFault Fetched :=
  let h := ringWord s t t.head
  let len := bundleLen h
  let rem := bellWords t tail
  if let some a := badRing s t t.head 1 then .error { fault := memFault a }
  else if bitsOf h 63 56 ≠ lchk (hMask h) ∨ rem < len ∨ (rem = len ∧ left ≠ 1) ∨ (len < rem ∧ left = 1) then .error (headerFault h)
  else if let some a := badRing s t t.head len then .error { fault := memFault a }
  else .ok { hdr := h, words := (List.range (len - 1)).map fun k => BitVec.ofNat 64 (ringWord s t (t.head + 1 + k)), ring := true
             next := (t.head + len) % t.ringWords }

/-- The fetch position moved past a ring bundle: HEAD, and the doorbell it belongs to (R228, R229). -/
def StreamSt.pastRing (t : StreamSt) (next : Nat) : StreamSt :=
  { t with head := next, bells := match t.bells with
      | (tail, left) :: rest => if left ≤ 1 then rest else (tail, left - 1) :: rest
      | [] => [] }

/-- The header of a bundle that fails decode, where it is known (R209, R225, R261). -/
def failedHeader (s : State) (loom : Nat) (t : StreamSt) (f : LateFault) : Option Nat :=
  if f.code = 0x0107 then t.prog.bind fun p => (s.progWord loom p.pc).map (·.toNat)
  else if f.code = 0x0301 then fetchHeader s loom t f.dw0
  else some f.dw0

/-- The handle that the record of a failed slot word names: the command's first operand, as the word gives it (R217, R504). -/
def wordHandle (d : DecodeFault) : Option Handle :=
  if d.fault.code = 0x0101 then (readSlot d.slot (BitVec.ofNat 64 d.fault.dw1)).bind firstOperand else none

/-- A bundle that cannot issue faults its stream when it is next in line (R209). -/
def decodeFails (s : State) (loom stream : Nat) (d : DecodeFault) : State :=
  let t := s.stream loom stream
  let h := failedHeader s loom t d.fault
  let s := s.failBundle loom stream h
  s.streamFault { loom := loom, stream := stream, slot := d.slot, tag := hTag (h.getD 0), iters := t.loops.map (·.iter) } (t.bno + 1)
    s.nextId d.fault (wordHandle d) false []

/-! ### Beginning a bundle -/

/-- A bundle of the captured range (R392 to R394). -/
def captureBundle (s : State) (i : IssueCtx) (hdr : Nat) (cmds : List SlotCmd) : State :=
  let starts := !s.swMode && capMatches s i.loom i.stream i.tag i.iters
  let s := if starts then beginCapture s i.loom i.stream else s
  match s.res.cap with
  | none => s
  | some cap =>
    if s.swMode || cap.closing.isSome || i.loom != s.fld Reg.RES_CAP_START_LOOM || i.stream != s.fld Reg.RES_CAP_START_STREAM then s
    else
      match cmds.findSome? (capRefusal s i cap) with
      | some r => refuseCapture s r
      | none =>
        let kept := cmds.filter fun c => !capDrops c
        let cap := kept.foldl (fun k c => k.nameSlot s i c) cap
        let cap := { cap with prog := cap.prog ++ capWords s i hdr cmds cap }
        let cap := if !starts && i.tag.toNat == s.fld Reg.RES_CAP_END_TAG then { cap with closing := some i.bno } else cap
        if cap.closing.isSome then (checkCapture s cap).setFld Reg.RES_CAP_STAT_ARMED 0 else checkCapture s cap

/-- The wait set of a bundle: whether every semaphore in it holds at least 1 (R210). -/
def waitReady (t : StreamSt) (w : Nat) : Bool := (List.range 8).all fun k => !bitAt w k || t.sem k != 0

/-- The wait set taken (R210). -/
def takeWait (t : StreamSt) (w : Nat) : StreamSt :=
  (List.range 8).foldl (fun t k => if bitAt w k then t.setSem k (t.sem k - 1) else t) t

/-- The items that a bundle puts into the issue queue: its slot commands, then its end. -/
def bundleItems (i : IssueCtx) (cmds : List SlotCmd) (e : BundleEnd) : List IssueItem :=
  cmds.map (fun c => .slot { i with slot := slotOf c, word := (slotWord c).toNat } c) ++ [.fin e i.bno]

/-- The scalar command of a bundle. -/
def scalarOf (cmds : List SlotCmd) : Option SlotCmd := cmds.find? fun c => slotOf c == 4

/-- A bundle begins to issue: its commands and its end stand in the issue queue, it is counted (R478), and it is selected for tracing
(R483). `ring` says that it is one of the ring's words. -/
def startBundle (s : State) (t : StreamSt) (i : IssueCtx) (cmds : List SlotCmd) (e : BundleEnd) (ring : Bool) : State :=
  let tr := traceOf s i.loom i.stream i.hdr cmds
  let t := { t with bno := i.bno, queue := bundleItems i cmds e, begun := some s.pick
                    bundles := t.bundles ++ [{ bno := i.bno, tag := i.tag, signal := BitVec.ofNat 8 (hSignal i.hdr), issued := false
                                               ring := ring, endOff := e.next, running := false, trace := tr }] }
  ((s.setStream i.loom i.stream t).countEvent (128 + i.loom) 3 i.stream 1).traced i.loom i.stream tr

/-- A decoded bundle begins to issue: its wait set is taken and its counters are read (R210, R211), and it is recorded (R393). -/
def beginBundle (s : State) (loom stream : Nat) (f : Fetched) (cmds : List SlotCmd) : State :=
  let t := takeWait (s.stream loom stream) (hWait f.hdr)
  let i : IssueCtx := { loom := loom, stream := stream, slot := 0, tag := hTag f.hdr, hdr := f.hdr, snap := t.allCtrs
                        iters := t.loops.map (·.iter), bno := t.bno + 1, inProg := t.prog.isSome }
  let e : BundleEnd := { tag := i.tag, le := hLe f.hdr, pb := hPb f.hdr, endloop := cmds.contains .endloop, scalar := scalarOf cmds
                         snap := t.allCtrs, cmps := t.cmps, next := f.next, ring := f.ring }
  let t := if f.ring then t.pastRing f.next else t
  drain (captureBundle (startBundle s { t with state := .running, hold := none, decoded := none } i cmds e f.ring) i f.hdr cmds) loom stream

/-- A skipped ring bundle retires without issuing (R223); it must hold no LOOP and no PB, and its framing must hold. -/
def skipRing (s : State) (loom stream : Nat) (f : Fetched) : State :=
  let t := s.stream loom stream
  let op := scalarOp f.hdr fun k => f.words[k - 1]?
  if op == 4 || hPb f.hdr then decodeFails s loom stream (headerFault f.hdr)
  else
    let t := { t.pastRing f.next with bno := t.bno + 1, skip := t.skip - 1
                                      bundles := t.bundles ++ [{ bno := t.bno + 1, tag := hTag f.hdr, signal := 0, issued := true, ring := true
                                                                 endOff := f.next, running := false }] }
    (s.setStream loom stream t).settle loom stream

/-- The next bundle of a stream at a bundle boundary (R209, R210, R223). -/
def nextBundle (s : State) (loom stream : Nat) : State :=
  let t := s.stream loom stream
  let fetched : Option (Except DecodeFault Fetched) := match t.prog, t.bells with
    | some p, _ => some (fetchProgram s loom p)
    | none, (tail, left) :: _ => some (fetchRing s t tail left)
    | none, [] => none
  match fetched with
  | none => s
  | some (.error d) => decodeFails s loom stream d
  | some (.ok f) =>
    if f.ring && decide (0 < t.skip) then skipRing s loom stream f
    else
      match decodeBundle s loom (!t.loops.isEmpty) f with
      | .error d => decodeFails s loom stream d
      | .ok cmds =>
        if waitReady t (hWait f.hdr) then beginBundle s loom stream f cmds
        else
          let t := { t with decoded := some (t.decoded.getD (s.pick, s.time.frac)) }
          (s.setStream loom stream t).holdStream loom stream .other

/-- Whether a stream may issue: of the grade, enabled, on its context, and running or held; none does while a restore runs (R406; log
entry 60). -/
def mayIssue (s : State) (loom stream : Nat) : Bool :=
  let t := s.stream loom stream
  !s.flag Reg.RES_RST_STAT_BUSY && decide (loom < s.nLooms) && decide (stream < 16) && t.enabled && s.residentOf (ctxSlot loom stream) == some stream &&
    (t.state == .running || t.state == .held)

/-- What follows every event that issues or ends commands: a waiting fulling program may install (R308), a capture may end
(R393). -/
def afterEvent (s : State) : State := finishCapture (settleProgram s)

/-- BUNDLE_ISSUE (R210): a held bundle goes on, else the next one begins; a running swatch's program takes its stream's
place (R399), and a waiting or running one keeps other contexts at their boundary (R398). -/
def issueNext (s : State) (loom stream : Nat) : State :=
  match s.swRun loom with
  | some r =>
    if r.stream = stream then
      let s := swapSwatch s loom
      let s := if (s.stream loom stream).queue.isEmpty then nextBundle s loom stream else drain s loom stream
      afterEvent (swapSwatch s loom)
    else if r.stream % 4 ≠ stream % 4 ∧ mayIssue s loom stream ∧ !(s.stream loom stream).queue.isEmpty then afterEvent (drain s loom stream)
    else s
  | none =>
    if mayIssue s loom stream then
      if !(s.stream loom stream).queue.isEmpty then afterEvent (drain s loom stream)
      else if swatchBlocks s loom stream then s
      else afterEvent (nextBundle s loom stream)
    else s

/-! ### A command by itself -/

/-- What a command by itself knows at issue: the context of a bundle of one slot (R207, R211). -/
def directCtx (src : Src) (c : SlotCmd) (s : State) : IssueCtx :=
  let t := s.stream src.loom src.stream
  { loom := src.loom, stream := src.stream, slot := slotOf c, tag := src.tag, hdr := bundleHeader (2 ^ slotOf c) src.tag.toNat
    word := (slotWord c).toNat, snap := t.allCtrs, iters := t.loops.map (·.iter), bno := t.bno + 1, inProg := t.prog.isSome }

/-- The word after a command by itself: it stands at no word of its stream's ring or program. -/
def directNext (src : Src) (s : State) : Nat :=
  let t := s.stream src.loom src.stream
  match t.prog with
  | some p => p.pc
  | none => t.head

/-- The end of the bundle of one slot. -/
def directEnd (src : Src) (c : SlotCmd) (s : State) : BundleEnd :=
  let t := s.stream src.loom src.stream
  { tag := src.tag, le := false, pb := false, endloop := c == .endloop, scalar := scalarOf [c], snap := t.allCtrs
    cmps := t.cmps, next := directNext src s, ring := t.prog.isNone }

/-- Whether a stream takes a command by itself: a job is active, the stream exists, is enabled and resident, runs or is IDLE, has no
bundle half issued, no swatch keeps it back, and no restore runs (R210, R231, R234, R398, R406, R505). -/
def directReady (src : Src) (s : State) : Bool :=
  let t := s.stream src.loom src.stream
  s.jobActive && !s.flag Reg.RES_RST_STAT_BUSY && decide (src.loom < s.nLooms) && decide (src.stream < 16) && t.enabled && s.residentOf (ctxSlot src.loom src.stream) == some src.stream &&
    t.state != .faulted && t.state != .stopped && t.queue.isEmpty && !swatchBlocks s src.loom src.stream && (s.swRun src.loom).isNone

/-- Whether a command by itself passes the decode checks (R213, R222, R223). -/
def directLegal (src : Src) (c : SlotCmd) (s : State) : Bool :=
  let t := s.stream src.loom src.stream
  !slotIllegal c && structureOk s src.loom t.prog.isNone (!t.loops.isEmpty) (directCtx src c s).hdr (directNext src s) c

/-- The machine with a command by itself next to issue: a bundle of one slot has begun (R207, R210). -/
def directBegun (src : Src) (c : SlotCmd) (s : State) : State :=
  let t := s.stream src.loom src.stream
  startBundle s { t with state := if t.state = .idle then .running else t.state } (directCtx src c s) [c] (directEnd src c s) false

/-- A command by itself that fails decode: the bundle of one slot faults its stream (R209, R504). -/
def directFails (src : Src) (c : SlotCmd) (s : State) : State :=
  let i := directCtx src c s
  let t := s.stream src.loom src.stream
  let s := s.setStream src.loom src.stream { t with state := if t.state = .idle then .running else t.state }
  (s.failBundle src.loom src.stream (some i.hdr)).rejectAt i
    { code := 0x0101, dw0 := i.hdr, dw1 := (slotWord c).toNat, handle := firstOperand c }

/-- A slot command that reaches issue as a bundle of one slot: the meaning of the table's row of each command (R210). -/
def directSlot (src : Src) (c : SlotCmd) (s : State) : State :=
  if !directReady src s then s
  else if !directLegal src c s then directFails src c s
  else afterEvent (drain (captureBundle (directBegun src c s) (directCtx src c s) (directCtx src c s).hdr [c]) src.loom src.stream)

/-! ### Doorbells, rings, STOP and RESUME (R228 to R232, R511) -/

/-- QDEPTH of a stream (R230). -/
def qdepth (s : State) (loom stream : Nat) : Nat :=
  let bolt := match s.wvn.active with | some sc => decide (4096 < sc.boltSize) | none => false
  if s.paced bolt (ctxSlot loom stream) then 64 else 512

/-- DOORBELL (R229). -/
def ringBell (s : State) (loom stream tail added : Nat) : State :=
  let t := s.stream loom stream
  let tail := tail % t.ringWords
  if !s.jobActive || s.releasing || !t.enabled || t.state == .faulted || t.state == .stopped then s.ignored (some loom)
  else if added = 0 then (if tail = t.tail then s else s.ignored (some loom))
  else if qdepth s loom stream < t.pending + added then s.advise 0x010A t.pending added (loom := some loom)
  else
    s.setStream loom stream { t with tail := tail, pending := t.pending + added, bells := t.bells ++ [(tail, added)]
                                     state := if t.state = .idle then .running else t.state }

/-- The stream resident on a CTX slot set, with the first shed that it is wholly resident in. -/
def State.setResident (s : State) (slot : Nat) (r : Option (Nat × Nat)) : State :=
  { s with resident := smSet (fun _ => none) s.resident slot r }

/-- A RING_CTL write (R228). -/
def ringCtl (s : State) (loom stream log2 : Nat) (enable : Bool) : State :=
  let slot := ctxSlot loom stream
  let e := stream / 4
  let t := s.stream loom stream
  let deny := s.denied (ctlBase + Reg.CTX_RING_CTL slot e)
  let base := (s.reg (Reg.CTX_RING_BASE slot e)).toNat / 4096 * 4096
  let write (s : State) : State := (s.setFld (Reg.CTX_RING_CTL_LOG2SIZE slot e) log2).setFld (Reg.CTX_RING_CTL_ENABLE slot e) (bit enable)
  if t.enabled then
    if log2 ≠ t.log2 then deny
    else if enable then s
    else if t.state = .idle ∧ t.pending = 0 then
      let s := write (s.setStream loom stream { t with enabled := false })
      if s.residentOf slot = some stream then s.setResident slot none else s
    else deny
  else if enable then
    if log2 < 12 ∨ 30 < log2 ∨ base % 2 ^ log2 ≠ 0 ∨ !inHbm base (2 ^ log2) then deny
    else
      let s := write (s.setStream loom stream { t with enabled := true, base := base, log2 := log2, head := 0, tail := 0, retired := 0
                                                       pending := 0, bells := [] })
      if (s.residentOf slot).isNone then s.setResident slot (some (stream, shedOf s.pick + 1)) else s
  else write s

/-- STOP of a context's resident stream (R511). -/
def stopCtx (s : State) (slot : Nat) : State :=
  match s.residentOf slot with
  | some k => s.stopStream (slot / 4) k
  | none => s

/-- RESUME of a context's resident stream (R232). DESIGN CHOICE (log entry 56): with no stream resident it is ignored as in IDLE, with
an ADVISORY STATE_ILLEGAL, since R232 states no outcome there. -/
def resumeCtx (s : State) (slot : Nat) : State :=
  match s.residentOf slot with
  | none => s.ignored (some (slot / 4))
  | some k =>
    let t := s.stream (slot / 4) k
    if t.state = .faulted ∨ t.state = .stopped then s.setStream (slot / 4) k { t with resumeReq := true } else s.ignored (some (slot / 4))

/-- BUNDLE_SIGNAL_SET (R212): the oldest signal set whose commands, and every command issued before, have retired. -/
def signalSet (s : State) (loom stream : Nat) : State :=
  let t := s.stream loom stream
  match t.bundles.find? (fun b => b.signal != 0) with
  | none => s
  | some b =>
    if b.issued && !((s.cmdsOf loom stream).any fun c => c.bno ≤ b.bno) then
      let t := (List.range 8).foldl (fun t k => if bitAt b.signal.toNat k then t.addSem k 1 else t) t
      let t := { t with bundles := t.bundles.map fun x => if x.bno = b.bno then { x with signal := 0 } else x }
      (s.setStream loom stream t).settle loom stream
    else s

/-- The signal sets of a stream that are due, all performed. -/
def signalSets (s : State) (loom stream : Nat) : State :=
  (s.stream loom stream).bundles.foldl (fun s _ => signalSet s loom stream) s

/-- RESUME_EFFECT (R232), after the signal sets that the retired commands left. DESIGN CHOICE (log entry 56): what is left of a
ring's SKIPIF is dropped (R223). -/
def resumeTakes (s : State) (loom stream : Nat) : State :=
  let t := s.stream loom stream
  if t.resumeReq && (t.state == .faulted || t.state == .stopped) && (s.cmdsOf loom stream).isEmpty then
    let s := dequeueFull (signalSets s loom stream) loom stream
    let t := s.stream loom stream
    s.setStream loom stream { t with resumeReq := false, head := t.retired, tail := t.retired, pending := 0, prog := none, loops := []
                                     skip := 0, queue := [], bundles := [], bells := [], state := .idle, hold := none, stopReq := false
                                     reload := false, faultShown := false, decoded := none }
  else s

/-- The pick from which a hold counts against its limit: the target of a WAITPICK, else its start (R243). -/
def StreamSt.holdFrom (t : StreamSt) (since : Nat) : Nat :=
  match t.queue with
  | .slot i (.waitpick p) :: _ => pickTarget i p
  | _ => since

/-- A stream sliced out (R234). -/
def State.sliceOut (s : State) (loom stream : Nat) : State :=
  s.setStream loom stream { s.stream loom stream with slicedAt := s.pick }

/-- A stream sliced in (R234): the time it was away does not count against its hold (R243). -/
def State.sliceIn (s : State) (loom stream : Nat) : State :=
  let t := s.stream loom stream
  match t.hold with
  | none => s
  | some (_, since) => s.setStream loom stream { t with heldOut := t.heldOut + (s.pick - max t.slicedAt (t.holdFrom since)) }

/-- STREAM_SLICE (R234): the firmware's decision for a context at a shed boundary, made within 1,024 picks of it. The resident stream
leaves when it has been resident for a whole shed, its context holds no claim, and its commands have retired with no bundle begun
since the boundary. -/
def slice (s : State) (loom ctx : Nat) : State :=
  let slot := 4 * loom + ctx
  if decide (s.nLooms ≤ loom) || decide (4 ≤ ctx) || decide (1024 < s.pick % shedPicks) then s
  else
    let res := smGet (fun _ => none) s.resident slot
    let e0 := match res with | some (k, _) => k / 4 | none => 3
    let order := (List.range 4).map fun d => 4 * ((e0 + 1 + d) % 4) + ctx
    let want (k : Nat) : Bool :=
      let t := s.stream loom k
      t.enabled && (t.state == .running || t.state == .held || decide (0 < t.pending))
    match order.find? (fun k => want k && res.map (·.1) != some k) with
    | none => s
    | some k =>
      let leave := match res with
        | none => true
        | some (r, since) => decide (since < shedOf s.pick) && ((s.loom loom).claimOf ctx).isNone && (s.cmdsOf loom r).isEmpty &&
          !(s.stream loom r).begun.any fun p => shedOf p == shedOf s.pick
      let s' := match res with | some (r, _) => s.sliceOut loom r | none => s
      if leave then (s'.sliceIn loom k).setResident slot (some (k, shedOf s.pick + bit (s.pick % shedPicks != 0))) else s

/-! ### Commands in flight (R91, R237, R243) -/

/-- Whether a command has something to write into a bank that takes no access of it (R268). -/
def shutWrite (s : State) (c : Cmd) : Bool :=
  (c.plan.writes ++ c.plan.records).any (fun w => s.shutTo c.id w.addr) || c.plan.stats.any (fun m => s.shutTo c.id m.addr)

/-- Whether a command can retire: its frames are whole, no bad word lies in what it reads, its writes are served, and its phase
is over. -/
def retireReady (s : State) (c : Cmd) : Bool :=
  c.draining || (c.frames.all (·.isNone) && (badRead s c).isNone && !shutWrite s c && (match c.c with
    | .signal _ _ _ _ | .fence _ => !((s.cmdsOf c.loom c.stream).any fun x => decide (x.id < c.id))
    | _ => true) && (match c.phase with
    | .plain | .full _ _ => true
    | .mstream _ _ _ _ _ _ _ _ mrows _ _ fed rows => fed == mrows && rows.isEmpty
    | .mdrain _ _ _ _ started rows => started && rows.isEmpty
    | _ => false))

/-- A command's retirement with what it alone does: SIGNAL's addition, FENCE's record, counts, words kept (R233, R235, R237,
R478). -/
def retireNow (s : State) (c : Cmd) : State :=
  let s := if c.draining then s else keepWords s c
  let s := if c.draining then s else match c.c with
    | .signal sem loom stream add => addSignal s loom.toNat stream.toNat sem.toNat add.toNat
    | .fence true => writeCompletion s c
    | .vec _ _ => s.countEvent (128 + c.loom) 8 c.stream (c.plan.words.filter fun w => w.1 == 0).length
    | _ => s
  s.retire c

/-- COMMAND_RETIRE (R237). -/
def cmdRetires (s : State) (id : Nat) : State :=
  match s.cmd? id with
  | some c => if retireReady s c then afterEvent (onCmd s id fun s => match s.cmd? id with | some c => retireNow s c | none => s) else s
  | none => s

/-- The next frame that a command of no matrix kind reads arrives (R91). -/
def plainFrame (s : State) (c : Cmd) : State :=
  match c.frames with
  | [] => s
  | some f :: _ => s.lateFault c f
  | none :: rest => s.setCmd { c with frames := rest }

/-- MORDANT_FRAME_ARRIVAL (R91). -/
def frameArrives (s : State) (id : Nat) : State :=
  match s.cmd? id with
  | none => s
  | some c =>
    match c.phase with
    | .mload h p op k n cols need got => if c.draining then s else mloadFrame s c h p op k n cols need got
    | .mstream _ _ _ _ _ _ _ _ _ _ _ _ _ => if c.draining then s else mstreamFrame s c
    | _ => plainFrame s c

/-- MLOAD_COMPLETE (R127). -/
def planeCompletes (s : State) (id : Nat) : State :=
  match s.cmd? id with
  | none => s
  | some c =>
    match c.phase with
    | .mload h p op k n cols need got => if !c.draining && (!need.isEmpty || (badRead s c).isSome) then s else mloadDone s c h p op k n cols got
    | _ => s

/-- MOVER_READ_FAULT (R281): the frame that fails among those a mover command reads. -/
def moverFaults (s : State) (id : Nat) : State :=
  match s.cmd? id with
  | none => s
  | some c => if slotMover c.c then (match c.frames.findSome? (fun f => f) with | some f => s.lateFault c f | none => s) else s

/-- TIME_BUDGET_EXPIRY of a command (R236, R243). -/
def cmdBudget (s : State) (id : Nat) : State :=
  match s.cmd? id with
  | none => s
  | some c =>
    match c.budget with
    | some b =>
      if c.issuePick + b < s.pick then
        let s := match c.c with | .swatch _ _ => abortSwatch s c | _ => s
        s.lateFault c { code := 0x0108, dw0 := b, dw1 := c.issuePick }
      else s
    | none => s

/-- The pick at which another context's FULL, which now has the engine of a command's die, took it (R239, R286). -/
def othersEngine (s : State) (i : IssueCtx) : Option Nat :=
  match (s.full (s.dieOf i.loom)).running.bind s.cmd? with
  | some c => if c.loom = i.loom ∧ c.stream % 4 = i.ctx then none else some c.issuePick
  | none => none

/-- The limit of a hold and the pick it runs from (R242, R243): WAIT_LIMIT for WAITSEM and the holds marked W, SLACK from the
target for WAITPICK. -/
def holdLimit (s : State) (i : IssueCtx) (c : SlotCmd) (k : HoldKind) (since : Nat) : Option (Nat × Nat) :=
  match k with
  | .arrays | .waitsem | .swatchWait => some (s.waitLimit i.loom i.ctx, since)
  | .fulling | .fullingOwn => (othersEngine s i).map fun issued =>
      (s.waitLimit i.loom i.ctx, if k = .fulling then since else max since issued)
  | .waitpick => match c with | .waitpick p => some (s.slack i.loom i.ctx, pickTarget i p) | _ => none
  | _ => none

/-- TIME_BUDGET_EXPIRY of a held command (R243): time spent sliced out does not count. -/
def holdBudget (s : State) (loom stream : Nat) : State :=
  let t := s.stream loom stream
  match t.queue, t.hold with
  | .slot i c :: _, some (k, since) =>
    match holdLimit s i c k since with
    | some (n, from_) =>
      if s.residentOf (ctxSlot loom stream) = some stream ∧ from_ + n + t.heldOut < s.pick then s.rejectAt i (({ code := 0x0108, dw0 := n, dw1 := since } : Reject).named c) else s
    | none => s
  | _, _ => s

/-- The head of a stream's queue tried again when it is a command of one kind. -/
def retryHead (s : State) (loom stream : Nat) (p : SlotCmd → Bool) : State :=
  match (s.stream loom stream).queue with
  | .slot _ c :: _ => if mayIssue s loom stream && p c then afterEvent (drain s loom stream) else s
  | _ => s

/-- FULL_START (R286): the stream that waits longest for a die's engine. -/
def fullStarts (s : State) (die : Nat) : State :=
  match (s.full die).running, waitingFor s die with
  | none, (l, t) :: _ => retryHead s l t fun c => match c with | .full _ => true | _ => false
  | _, _ => s

end Sys2Proof.Machine
end

