-- ==== Sys2Proof/Machine/FaultRing.lean ====
section
/-! DEFINITION. FaultRing: the ring writer and FR_CTL (R505, R506, R509). -/
namespace Sys2Proof.Machine

/-- Whether a record is a first CONTEXT fault of the same stream as another. -/
def FaultRec.firstOf (r : FaultRec) (c : CmdName) : Bool :=
  r.sev == .context && !r.sec && (r.cmd.any fun x => x.loom == c.loom && x.stream == c.stream)

/-- A record's stream reads FAULTED once it is in the ring (R506), unless a later first fault of it still waits. -/
def State.showFault (s : State) (q : Nat) (r : FaultRec) : State :=
  match r.cmd with
  | some c =>
    if r.sev == .context && !r.sec && !((s.queue q).any (·.firstOf c)) then
      s.setStream c.loom c.stream { s.stream c.loom c.stream with faultShown := true }
    else s
  | none => s

/-- SEV_SUM, SEV_CNT and LAST_DEV follow a record that is written (R509). -/
def State.countSeverity (s : State) (r : FaultRec) : State :=
  match r.sev with
  | .advisory => (s.setFld Reg.FAULT_SEV_SUM_ADVISORY 1).addSat Reg.FAULT_SEV_CNT0_ADVISORY 1
  | .context => (s.setFld Reg.FAULT_SEV_SUM_CONTEXT 1).addSat Reg.FAULT_SEV_CNT0_CONTEXT 1
  | .device => (((s.setFld Reg.FAULT_SEV_SUM_DEVICE 1).addSat Reg.FAULT_SEV_CNT1_DEVICE 1).setReg Reg.FAULT_LAST_DEV
      (BitVec.ofNat 64 (r.code + 2 * 2 ^ 16))).setReg Reg.FAULT_LAST_DEV_PICK (BitVec.ofNat 64 r.pick)
  | .bolt => (((s.setFld Reg.FAULT_SEV_SUM_BOLT 1).addSat Reg.FAULT_SEV_CNT1_BOLT 1).setReg Reg.FAULT_LAST_DEV
      (BitVec.ofNat 64 (r.code + 3 * 2 ^ 16))).setReg Reg.FAULT_LAST_DEV_PICK (BitVec.ofNat 64 r.pick)

/-- The address of the next record (R505). -/
def State.ringSlot (s : State) : Nat :=
  (s.reg Reg.FAULT_FR_BASE).toNat + 64 * (s.fld Reg.FAULT_FR_CTL_WPTR % 2 ^ s.fld Reg.FAULT_FR_CTL_LOG2N)

/-- One record written whole, and WPTR advanced past it (R25, R505). -/
def State.putRecord (s : State) (r : FaultRec) : State :=
  let bs := recordBytes r (s.fld Reg.FAULT_FR_CTL_WPTR) (s.fld Reg.FAULT_FR_CTL_LOG2N)
  ((s.storeBytes s.ringSlot bs).addWrap Reg.FAULT_FR_CTL_WPTR 1).countSeverity r

/-- A DEVICE or BOLT record is logged and sent as an event, once (R458, R468). -/
def State.reportRecord (s : State) (r : FaultRec) (bs : List Byte) : State :=
  if 2 ≤ r.sev.code && !r.reported then (s.logEvent 0x0002 r.sev.code bs).platformEvent 0xF0 bs else s

/-- FAULT_RECORD_WRITE (R505, R506): the oldest record of one queue, at most eight of all queues in a pick. A first
fault's trace record is recorded with it (R484). -/
def writeRecord (s : State) (q : Nat) : State :=
  match s.queue q with
  | [] => s
  | r :: rest =>
    if s.ringOn && decide (s.faults.written < 8) then
      let bs := recordBytes r (s.fld Reg.FAULT_FR_CTL_WPTR) (s.fld Reg.FAULT_FR_CTL_LOG2N)
      let s := { s with faults := { s.faults with queues := smSet (fun _ => []) s.faults.queues q rest, written := s.faults.written + 1 } }
      (((s.putRecord r).reportRecord r bs).showFault q r).bufferTrace r.trace
    else s

/-- The held records written in the order in which they were raised, when the ring first becomes available: EN is set, and HBM is
trained (R413, R505). -/
def State.flushHeld (s : State) : State :=
  let held := s.faults.held
  held.foldl State.putRecord { s with faults := { s.faults with held := [] } }

/-- An FR_CTL write (R505, R509). -/
def frCtl (s : State) (log2n : Nat) (en : Bool) : State :=
  let deny (s : State) : State := s.denied (ctlBase + Reg.FAULT_FR_CTL)
  if s.flag Reg.FAULT_FR_CTL_EN then
    let s := if log2n ≠ s.fld Reg.FAULT_FR_CTL_LOG2N then deny s else s
    if en then s else if s.jobActive then deny s else s.setFld Reg.FAULT_FR_CTL_EN 0
  else if en then
    let base := (s.reg Reg.FAULT_FR_BASE).toNat
    if base % 64 ≠ 0 ∨ !inHbm base (64 * 2 ^ log2n) then deny s
    else
      let s := (s.setFld Reg.FAULT_FR_CTL_LOG2N log2n).setFld Reg.FAULT_FR_CTL_EN 1
      if s.ringOn then s.flushHeld else s
  else s.setFld Reg.FAULT_FR_CTL_LOG2N log2n

/-- An FR_BASE write: discarded while EN is set (R509). -/
def frBase (s : State) (v : Nat) : State :=
  if s.flag Reg.FAULT_FR_CTL_EN then s.denied (ctlBase + Reg.FAULT_FR_BASE) else s.setReg Reg.FAULT_FR_BASE (BitVec.ofNat 64 v)

/-- CTXF word `w`: the CTX slots on which a stream homed there shows FAULTED (R506, R509). -/
def ctxf (s : State) (w : Nat) : Nat :=
  (List.range 64).foldl (fun n b =>
    let slot := 64 * w + b
    if (List.range 4).any fun e =>
        let t := s.stream (slot / 4) (4 * e + slot % 4)
        t.state == .faulted && t.faultShown
    then n + 2 ^ b else n) 0

end Sys2Proof.Machine
end

