-- ==== Sys2Proof/Machine/Job.lean ====
section
/-! DEFINITION. Job: a job's start and release (R34 to R38, R510). -/
namespace Sys2Proof.Machine

/-- JOB_START (R35). -/
def jobStarts (s : State) : State :=
  if s.fld Reg.GCTL_DEV_STATE_STATE = 3 ∧ !s.jobActive ∧ !s.releasing ∧ s.ringOn then
    (({ s with res := { s.res with invalidSeen := false } }).setFld Reg.GCTL_DEV_STATE_JOB_ACTIVE 1).setDevState 4
  else s.ignored

/-- Whether a release is accepted (R36), in READY or RUN, the states that a release leads to and from (log entry 22). -/
def releaseOk (s : State) : Bool :=
  s.readyOrRun && !s.releasing && s.cmds.isEmpty && s.res.ckpt.isNone && !s.flag Reg.RES_SPARE_RES_PENDING && s.flag Reg.PWR_PWR_STAT_DONE &&
  s.streams.all fun x => !x.2.enabled || x.2.state == .idle || x.2.state == .faulted || x.2.state == .stopped

/-- JOB_RELEASE (R36, R510): throughout the release RELEASING and JOB_ACTIVE are set and STATE reads RUN. -/
def releaseStarts (s : State) : State :=
  if releaseOk s then ((s.setFld Reg.GCTL_DEV_STATE_RELEASING 1).setFld Reg.GCTL_DEV_STATE_JOB_ACTIVE 1).setDevState 4 else s.ignored

/-- A JOB_CTL write (R35, R36). -/
def jobCtl (s : State) (start release : Bool) : State :=
  if start && release then s.ignored
  else if start then jobStarts s
  else if release then releaseStarts s
  else s

/-- Whether a register keeps its value over a release (R37, and the last words of each block's register rule). -/
def releaseKeeps (off : Nat) : Bool :=
  match blockAt off with
  | some (.gctl, _, l) => l != 0x40
  | some (.ctx, _, _) => false
  | some (.htab, _, l) => l == 0x4100 || l == 0x4108 || (decide (0x4300 ≤ l) && decide (l < 0x4410))
  | some (.loom, _, l) => l == 0 || (decide (0xA00 ≤ l) && decide (l < 0xB00))
  | some (.host, _, l) => !(decide (0x600 ≤ l) && decide (l < 0x1000))
  | some (.ful, _, l) => !(l == 0x98 || l == 0x100 || l == 0x108 || (decide (0x210 ≤ l) && (l % 0x100 == 0x10 || l % 0x100 == 0x18 || l % 0x100 == 0x28)))
  | some (.res, _, l) => !(l == 0 || l == 0x88 || (decide (0x100 ≤ l) && decide (l < 0x200)))
  | _ => true

/-- The rings whose bytes a release keeps (R37). -/
def keptRings (s : State) : List (Nat × Nat) :=
  (if s.ringOn then [((s.reg Reg.FAULT_FR_BASE).toNat, 64 * 2 ^ s.fld Reg.FAULT_FR_CTL_LOG2N)] else []) ++ s.runningRings

/-- Whether an address lies in one of some ranges. -/
def inRanges (rs : List (Nat × Nat)) (a : Nat) : Bool := rs.any fun r => decide (r.1 ≤ a) && decide (a < r.1 + r.2)

/-- The configured values of the CTX registers (R246, R422). -/
def State.configCtx (s : State) : State :=
  match s.boot.cfg with
  | none => s
  | some c => (List.range (4 * s.nLooms)).foldl (fun s k =>
      ((s.setFld (Reg.CTX_CCTL_FORCE_PACED k) (bit c.forcePaced)).setFld (Reg.CTX_BUDGET_SLACK k) c.slack).setFld
        (Reg.CTX_BUDGET_WAIT_LIMIT k) c.waitLimit) s

/-- The configured values of the registers on the compute and link dies (R246, R283, R183, R344, R422): BEAM_MODE, the watched entries,
which apply to every logical loom, ENCRYPT and CTX. -/
def State.configDies (s : State) : State :=
  match s.boot.cfg with
  | none => s
  | some c =>
    let s := (List.range 4).foldl (fun s d =>
      let m := c.beamMode.getD d 0
      (s.setFld (Reg.HTAB_BEAM_MODE_CACHE d) m).setFld (Reg.HTAB_BEAM_STAT_MODE d) m) s
    let s := c.watch.foldl (fun s (w : Nat × Nat × W64) => if w.1 < s.nLooms ∧ w.2.1 < 32 then s.setReg (Reg.LOOM_WATCH w.1 w.2.1) w.2.2 else s) s
    let s := (List.range s.nPorts).foldl (fun s p => s.setFld (Reg.WVN_PCTL_ENCRYPT p) (bit c.encrypt)) s
    s.configCtx

/-- The tables and the work of a job that lie on the compute dies, cleared. -/
def State.clearWork (s : State) : State :=
  { s with streams := [], resident := [], cmds := [], descs := [], descWait := [], htWait := [], imem := [], fprogs := [], fpWait := none
           fullEng := [], looms := [], wvn := { s.wvn with local_ := [] }
           res := { s.res with votes := [], ckpt := none, cap := none, swatches := [], stalled := [], remap := none } }

/-- Registers and tables as a release leaves them (R37): streams, descriptors, table entries, instruction memory, fulling
programs, array state, sticky flags, and the keys. BANKS read ON again (R283), and a beam die that is switching stands in the
mode requested, since nothing of either memory is kept (DEDUCED, log entry 55). -/
def clearJob (s : State) : State :=
  let s := s.resetRegs releaseKeeps
  let s := { s.clearWork with host := { s.host with mirNext := [], acked := [] } }
  let s := (List.range 4).foldl (fun s d => s.setReg (Reg.HTAB_BEAM_STAT d) (BitVec.ofNat 64 (s.fld (Reg.HTAB_BEAM_MODE_CACHE d)))) s
  let s := { s with pwr := { s.pwr with closed := [], closedAt := [] } }
  let s := (s.setFld Reg.RES_CAP_STAT_ARMED 0).setFld Reg.RES_CAP_STAT_ACTIVE 0
  s.configCtx

/-- Whether a release leaves a byte of memory as it was: one of HBM in a ring; beam and bobbins are zero-filled whole (R37). -/
def keptByte (s : State) (a : Nat) : Bool := decide (a < hbmEnd) && inRanges (keptRings s) a

/-- Memory as a release leaves it (R37). -/
def clearMemory (s : State) : State :=
  { s with mem := s.mem.filter (fun p => keptByte s p.1), badWords := s.badWords.filter (fun p => keptByte s p.1) }

/-- RELEASE_COMPLETE (R37, R510). -/
def releaseEnds (s : State) : State :=
  if s.releasing then
    let s := clearJob (clearMemory s)
    ((s.setFld Reg.GCTL_DEV_STATE_RELEASING 0).setFld Reg.GCTL_DEV_STATE_JOB_ACTIVE 0).setDevState 3
  else s

/-- A JOB_SEED or JOB_ID write (R38). -/
def writeUnlessJob (s : State) (off v : Nat) : State :=
  if s.jobActive then s.denied (ctlBase + off) else s.setReg off (BitVec.ofNat 64 v)

end Sys2Proof.Machine
end

