-- ==== Sys2Proof/Machine/HostQp.lean ====
section
/-! DEFINITION. HostQp: queue pairs and memory regions as software sets them (R348, R349, R353). -/
namespace Sys2Proof.Machine

/-! ### Queue pairs (R348 to R350) -/

/-- Bits of a staged context word that R349 lists. -/
def qpMask (w : Nat) : Nat :=
  match w with
  | 0 => 2 ^ 29 - 1
  | 1 => 2 ^ 24 - 1
  | 2 => 2 ^ 48 - 1
  | 3 | 4 => 2 ^ 64 - 1
  | 5 => 2 ^ 61 - 1
  | _ => 0

/-- The staged context. -/
def State.qpStage (s : State) : List W64 := (List.range 8).map fun w => s.reg (Reg.HOST_QP_STAGE w)

/-- Whether a staged context has no reserved bit set and every field in range (R348, REASON 1). -/
def qpFieldsOk (ws : List W64) : Bool :=
  let w0 := (ws.getD 0 0).toNat
  ((List.range 8).all fun k => decide ((ws.getD k 0).toNat % (qpMask k + 1) = (ws.getD k 0).toNat)) &&
    decide (bitsOf w0 2 0 ≤ 4) && decide (1 ≤ bitsOf w0 7 5) && decide (bitsOf w0 7 5 ≤ 5) && decide (1 ≤ bitsOf w0 15 11)

/-- Whether a transition of the queue-pair state machine is allowed (R348, REASON 2). -/
def qpMoveOk (from_ next : Nat) : Bool :=
  next == 4 || (from_ == 0 && next == 1) || (from_ == 1 && next == 2) || (from_ == 2 && next == 3) || (from_ == 3 && next == 3)

/-- A queue pair of a running drain to storage that leaves RTS fails it (R361, R386). -/
def State.drainQpGone (s : State) (q : Nat) : State :=
  if s.fld Reg.RES_CK_STAT_PHASE = 2 && !s.flag Reg.RES_CK_TARGET_KIND &&
      (List.range (s.fld Reg.RES_CK_TARGET_NTM1 + 1)).any (fun t => s.flag (Reg.HOST_DR_QP_VALID t) && s.fld (Reg.HOST_DR_QP_QP t) == q) then
    s.drainFails 2
  else s

/-- A region's invalidation completes once no request that matched it is under way (R353). -/
def State.settleRegion (s : State) : State :=
  if !s.flag Reg.HOST_MR_STAT_DONE &&
      !(s.host.qps.any fun x => match x.2.cur with | some (_, key, _) => key % 256 == s.fld Reg.HOST_MR_STAT_INDEX | none => false) &&
      !(s.res.stalled.any fun x => match x with | .packet _ p true => p.rkey.toNat % 256 == s.fld Reg.HOST_MR_STAT_INDEX | _ => false) then
    s.setFld Reg.HOST_MR_STAT_DONE 1
  else s

/-- A queue pair's packets that wait for a remap are discarded with it (R348, R350). -/
def State.dropPackets (s : State) (q : Nat) : State :=
  { s with res := { s.res with stalled := s.res.stalled.filter fun x => match x with | .packet r _ _ => r != q | _ => true } }

/-- What priority flow control holds back of a queue pair is discarded: as requester, or with all it would answer (R348, R350). -/
def State.dropHeld (s : State) (q : Nat) (all : Bool) : State :=
  let goes (h : HeldMsg) : Bool := h.qp == q && (all || (match h.msg with
    | .roce _ (.rdmaWrite _ _ _ _ _) | .roce _ (.resend _ _) => true
    | _ => false))
  { s with host := { s.host with paused := s.host.paused.filter (!goes ·) } }

/-- A queue pair enters ERROR: its messages are flushed (R350). -/
def State.qpToError (s : State) (q : Nat) : State :=
  let x := s.qp q
  (((((s.dropPackets q).dropHeld q false).setQp q { x with ctx := x.ctx.set 0 (BitVec.ofNat 64 (setBits (x.ctx.getD 0 0).toNat 2 0 4))
                                                           out := [], cur := none }).drainQpGone q).settleRegion)

/-- A queue pair enters ERROR on a fault, with HOST_QP_ERROR (R364). -/
def State.qpFails (s : State) (q detail : Nat) : State := (s.qpToError q).advise 0x0501 detail q (q := some (portQueue (s.qp q).port))

/-- QP_STAT after an action. -/
def State.qpStat (s : State) (q reason : Nat) : State :=
  (((s.setFld Reg.HOST_QP_STAT_INDEX q).setFld Reg.HOST_QP_STAT_DONE 1).setFld Reg.HOST_QP_STAT_REFUSED (bit (reason != 0))).setFld
    Reg.HOST_QP_STAT_REASON reason

/-- QP_MODIFY (R348, R349): the staged context is taken over; RTR takes the expected PSN, RTS the send PSN. -/
def modifyQp (s : State) (q : Nat) : State :=
  let ws := s.qpStage
  let x := s.qp q
  let next := bitsOf (ws.getD 0 0).toNat 2 0
  if !qpFieldsOk ws then s.qpStat q 1
  else if !qpMoveOk x.state next then s.qpStat q 2
  else if next = 4 then ((s.setQp q { x with ctx := ws }).qpToError q).qpStat q 0
  else
    let w2 := (ws.getD 2 0).toNat
    let x := { x with ctx := ws }
    let x := if next = 2 then { x with epsn := bitsOf w2 47 24, gapNaked := false, cur := none } else x
    let x := if next = 3 ∧ (s.qp q).state = 2 then { x with spsn := bitsOf w2 23 0 } else x
    (s.setQp q x).qpStat q 0

/-- QP_QUERY (R365). -/
def queryQp (s : State) (q : Nat) : State :=
  ((s.qp q).ctx.zipIdx.foldl (fun s (w, k) => s.setReg (Reg.HOST_QP_STAGE k) w) s).qpStat q 0

/-- QP_RESET (R348): its outstanding requests are discarded; a drain that uses the queue pair fails, as when it enters ERROR
(DEDUCED, log entry 58). -/
def resetQp (s : State) (q : Nat) : State :=
  let x := s.qp q
  (((((s.dropPackets q).dropHeld q true).setQp q { ({} : QpSt) with ctx := x.ctx.set 0 (BitVec.ofNat 64 (setBits (x.ctx.getD 0 0).toNat 2 0 0)) }).drainQpGone q).settleRegion).qpStat q 0

/-- A QP_CMD write (R365). -/
def qpCmd (s : State) (q op : Nat) : State :=
  match op with
  | 0 => modifyQp s q
  | 1 => queryQp s q
  | 2 => resetQp s q
  | _ => s

/-- QP_USED (R365). -/
def State.qpUsed (s : State) : Nat := (s.host.qps.filter fun x => x.2.state != 0).length

/-! ### Memory regions (R353) -/

/-- The bytes of the control window. -/
def ctlSize : Nat := 0x10000000
/-- Whether a range lies wholly in the control window. -/
def inCtl (a len : Nat) : Bool := decide (ctlBase ≤ a) && decide (a + len ≤ ctlBase + ctlSize)

/-- A memory region. -/
def State.region (s : State) (i : Nat) : Option Region := smGet (fun _ => none) s.host.regions i
/-- A memory region replaced. -/
def State.setRegion (s : State) (i : Nat) (r : Option Region) : State :=
  { s with host := { s.host with regions := smSet (fun _ => none) s.host.regions i r } }

/-- MR_STAT after an action. -/
def State.mrStat (s : State) (i : Nat) (refused : Bool) : State :=
  ((s.setFld Reg.HOST_MR_STAT_INDEX i).setFld Reg.HOST_MR_STAT_DONE 1).setFld Reg.HOST_MR_STAT_REFUSED (bit refused)

/-- MR_COMMIT (R353). -/
def commitRegion (s : State) (i : Nat) : State :=
  let base := (s.reg Reg.HOST_MR_STAGE0).toNat
  let len := s.fld Reg.HOST_MR_STAGE1_LEN
  if len ≠ 0 && (inHbm base len || (inCtl base len && base % 8 == 0 && len % 8 == 0)) then
    (s.setRegion i (some { base := base, len := len, key := s.fld Reg.HOST_MR_STAGE2_KEY, read := s.flag Reg.HOST_MR_STAGE2_RREAD
                           write := s.flag Reg.HOST_MR_STAGE2_RWRITE })).mrStat i false
  else s.mrStat i true

/-- MR_INVALIDATE (R353). -/
def invalidateRegion (s : State) (i : Nat) : State :=
  (((s.setRegion i none).mrStat i false).setFld Reg.HOST_MR_STAT_DONE 0).settleRegion

/-- An MR_CMD write, discarded while the last action is not done. -/
def mrCmd (s : State) (i : Nat) (inv : Bool) : State :=
  if !s.flag Reg.HOST_MR_STAT_DONE then s.denied (ctlBase + Reg.HOST_MR_CMD)
  else if inv then invalidateRegion s i
  else commitRegion s i

end Sys2Proof.Machine
end

