-- ==== Sys2Proof/Machine/Power.lean ====
section
/-! DEFINITION. Power: the command path, power states of looms and banks, the clock ceiling and cap, droop, sensors and
trips (R434 to R449, R266 to R269). -/
namespace Sys2Proof.Machine

/-! ### Clock ceiling (R242, R442) -/

/-- f, the clock limit in MHz (R242, R427). -/
def State.clockLimit (s : State) : Nat := if s.flag Reg.GCTL_DEV_STATE_CAL_LIGHT then 1450 else 1600
/-- The thermal ceiling of a die in MHz (R447). -/
def State.thermalMhz (s : State) (d : Nat) : Nat := smGet (fun _ => 1600) s.pwr.thermMhz d

/-- CEIL of a die: the lowest of f, the cap ceiling and the die's thermal ceiling (R442, R449). -/
def State.showCeiling (s : State) (d : Nat) : State :=
  let f := s.clockLimit
  let m := min f (min s.pwr.capMhz (s.thermalMhz d))
  s.setReg (Reg.PWR_CEIL d) (BitVec.ofNat 64 (m + 2 ^ 12 * bit (s.pwr.capMhz == m && decide (m < f)) +
    2 ^ 13 * bit (s.thermalMhz d == m && decide (m < f))))

/-- CEIL of every die. -/
def State.showCeilings (s : State) : State := (List.range 4).foldl State.showCeiling s

/-! ### States (R434, R435, R439) -/

/-- A loom loses its core rail: bobbin, instruction memory, planes, claims and resident skeins are lost (R434, R438). -/
def State.loomDark (s : State) (l : Nat) : State :=
  let s := s.zeroRange (bobbinBase + 0x400000 * l) (bobbinBase + 0x400000 * (l + 1))
  let s := { s with imem := s.imem.filter fun p => p.1 / 32768 != l }
  let s := (List.range 8).foldl (fun s i => s.setReg (Reg.LOOM_PGEN l i) 0) s
  let s := s.setLoom l { ({} : LoomSt) with watch := (s.loom l).watch }
  s.setFld (Reg.PWR_LPWR_STATE l) 2

/-- A loom in another power state, no longer waiting or parked (R439, R449). -/
def State.setLoomPower (s : State) (l st : Nat) : State :=
  let s := if st = 2 then s.loomDark l else s.setFld (Reg.PWR_LPWR_STATE l) st
  (s.setFld (Reg.PWR_LPWR_PENDING l) 0).setFld (Reg.PWR_LPWR_PARKED l) 0

/-- The range of a bank (R29). -/
def bankRange (b : Nat) : Nat × Nat := (beamBase + 0x800000 * b, beamBase + 0x800000 * (b + 1))

/-- A bank in another state; DARK loses its contents (R266). -/
def State.setBankPower (s : State) (b st : Nat) : State :=
  let s := if st = 2 then s.zeroRange (bankRange b).1 (bankRange b).2 else s
  s.setFld (Reg.HTAB_BANKS_STATE (b / 96) (b % 96 / 16) (b % 16)) st

/-- Whether a register keeps its value when the compute and link dies lose power: CTX, HTAB, LOOM and FUL do not, but for the names
of a position, nor do the registers of a Weaven port (R15, R437). -/
def powerKeeps (off : Nat) : Bool :=
  match blockAt off with
  | some (.ctx, _, _) | some (.htab, _, _) | some (.ful, _, _) => false
  | some (.loom, _, l) => l == 0
  | some (.wvn, _, l) => decide (l < 0x10000)
  | _ => true

/-- What runs on the dies that lose power ends there: a restore, a pending substitution, a SEND (R437, R447; log entry 60). -/
def State.endRuns (s : State) : State := (s.setFld Reg.RES_RST_STAT_BUSY 0 |>.setFld Reg.RES_SPARE_RES_PENDING 0).sendEnds

/-- Compute, beam and link dies and HBM lose power (R437): all memory, the tables and registers of the compute dies, the
ports and the installed schedule. -/
def State.powerOffDies (s : State) : State :=
  let s := { (s.endRuns.resetRegs powerKeeps).clearWork with mem := [], badWords := [], rowErrs := [], chanErrs := [], sparing := [] }
  let s := { s with wvn := { s.wvn with active := none, ports := [], flows := [] }
                    boot := { s.boot with trainDone := false }
                    pwr := { s.pwr with closed := [], closedAt := [], servicePark := false } }
  let s := (List.range 18).foldl (fun s p => s.setFld (Reg.WVN_PSTAT_STATE p) 0) s
  ((List.range 128).foldl (fun s l => s.setReg (Reg.PWR_LPWR l) 0) s).configDies

/-- The device's records that still wait for the ring are logged and sent before the ring is lost with the HBM (R458, R468). -/
def State.reportWaiting (s : State) : State :=
  (List.range 6).foldl (fun s q =>
    let rs := s.queue q
    let s := rs.foldl (fun s r => if r.reported then s else s.reportRecord r (recordBytes r 0 0)) s
    let told := rs.map fun r => { r with reported := r.reported || decide (2 ≤ r.sev.code) }
    { s with faults := { s.faults with queues := smSet (fun _ => []) s.faults.queues q told } }) s

/-- The device in MGMT (R437); a bring-up phase that runs stops there, and DEV_STATE stays at it (R410). -/
def State.toMgmt (s : State) : State :=
  ({ s.reportWaiting with boot := { s.boot with running := false } }.powerOffDies.setDevState 1).setFld Reg.GCTL_DEV_STATE_JOB_ACTIVE 0 |>.setFld Reg.GCTL_DEV_STATE_RELEASING 0

/-! ### The command path (R436 to R440) -/

/-- Whether loom and bank commands are allowed in the device's state (R438). -/
def State.powerReady (s : State) : Bool :=
  s.fld Reg.GCTL_DEV_STATE_STATE == 3 || s.fld Reg.GCTL_DEV_STATE_STATE == 4 || s.pwr.servicePark

/-- Whether a device command is accepted (R437). -/
def deviceCmdOk (s : State) (st : Nat) : Bool :=
  let d := s.fld Reg.GCTL_DEV_STATE_STATE
  match st with
  | 0 => (d == 2 || d == 3) && !s.jobActive
  | 1 => (d == 1 && s.boot.configEnded) || (d == 3 && !s.jobActive)
  | 2 => d == 2 && s.pwr.servicePark
  | 3 => d == 1
  | _ => false

/-- A stream of a loom that a command to DARK may not find (R440, REASON 3). -/
def loomStreamsBusy (s : State) (l : Nat) : Bool :=
  (List.range 16).any fun k => let t := s.stream l k; t.enabled && (t.state == .running || t.state == .held)

/-- Whether a valid RESIDENT entry maps into a loom's bobbin window (R269). -/
def residentLoom (s : State) (l : Nat) : Bool :=
  s.anyEntry true fun w0 w1 => entryTouches w0 w1 (bobbinBase + 0x400000 * l, 0x400000)

/-- Whether a valid RESIDENT entry covers a bank (R269). -/
def residentBank (s : State) (b : Nat) : Bool := s.anyEntry true fun w0 w1 => (entryBanks w0 w1).contains b

/-- The REASON with which a target is refused (R440); 0 when it is not. -/
def targetReason (s : State) (kind st i : Nat) : Nat :=
  if kind = 1 then
    let now := s.loomPower i
    if 2 < st ∨ s.nLooms ≤ i ∨ (now = 2 ∧ st = 1) then 1
    else if !s.powerReady then 2
    else if now = st then 0
    else if st = 2 ∧ loomStreamsBusy s i then 3
    else if st = 2 ∧ residentLoom s i then 4
    else if s.res.remap = some i ∨ s.ckptBusy ∨ (s.res.cap.isSome ∧ s.fld Reg.RES_CAP_START_LOOM = i) then 6
    else 0
  else
    let now := s.bank i
    if 2 < st ∨ 384 ≤ i ∨ (now = 2 ∧ st = 1) then 1
    else if !s.powerReady then 2
    else if st = 2 ∧ now ≠ 2 ∧ residentBank s i then 4
    else if cachedOrSwitching s (i / 96) (i % 96 / 16) then 5
    else 0

/-- The first target refused, with its REASON (R436). -/
def firstRefused (s : State) (kind st index count : Nat) : Option (Nat × Nat) :=
  (List.range count).findSome? fun k =>
    let r := targetReason s kind st (index + k)
    if r = 0 then none else some (index + k, r)

/-- A PWR_CMD word (R436, R449). -/
def pwrWord (kind st index count : Nat) : Nat := kind + 4 * st + 32 * index + 2 ^ 14 * count

/-- A power command that is done is logged, with its result (R468). -/
def State.logPower (s : State) (word : Nat) : State :=
  s.logEvent 0x000A 0xFF (leBytes 8 word ++ leBytes 8 (s.reg Reg.PWR_PWR_STAT).toNat)

/-- The running power command is done (R436, R468). -/
def State.pwrDone (s : State) : State :=
  match s.pwr.run with
  | none => s
  | some r => (({ s with pwr := { s.pwr with run := none } }).setFld Reg.PWR_PWR_STAT_DONE 1).logPower r.word

/-- PWR_STAT of a command: DONE, and REASON and FAILIDX when it is refused (R436). -/
def State.pwrStat (s : State) (done : Bool) (reason fail : Nat) : State :=
  (((s.setFld Reg.PWR_PWR_STAT_DONE (bit done)).setFld Reg.PWR_PWR_STAT_REFUSED (bit (reason != 0))).setFld Reg.PWR_PWR_STAT_REASON
    reason).setFld Reg.PWR_PWR_STAT_FAILIDX fail

/-- What a refusal raises beside its REASON (R269, R271, R440). -/
def refusalAdvice (s : State) (kind i reason : Nat) : State :=
  if kind = 1 ∧ reason = 1 ∧ s.nLooms ≤ i then s.advise 0x0102 i
  else if reason = 4 then s.advise 0x0304 i (if kind = 1 then 2 else 1) (loom := if kind = 1 then some i else none)
  else if reason = 5 then s.advise 0x0303 (i / 16)
  else s

/-- A service park (R437): every ON loom is GATED and marked. -/
def State.parkLooms (s : State) : State :=
  let s := (List.range s.nLooms).foldl (fun s l =>
    if s.loomPower l = 0 then (s.setFld (Reg.PWR_LPWR_STATE l) 1).setFld (Reg.PWR_LPWR_PARKED l) 1 else s) s
  ({ s with pwr := { s.pwr with servicePark := true } }).setDevState 2

/-- READY after a service park (R437): the looms it gated return to ON. -/
def State.unparkLooms (s : State) : State :=
  let s := (List.range s.nLooms).foldl (fun s l => if s.flag (Reg.PWR_LPWR_PARKED l) then s.setLoomPower l 0 else s) s
  ({ s with pwr := { s.pwr with servicePark := false } }).setDevState 3

/-- The counters of every block that is not on a host die, zero when its die is powered (R477). -/
def State.zeroCounts (s : State) : State :=
  { s with cnt := { s.cnt with vals := s.cnt.vals.filter fun p => decide (63 ≤ p.1 / 8) && decide (p.1 / 8 ≤ 66) } }

/-- TRAIN and the later phases run (R410, R412, R437): the compute, beam and link dies leave power-down, so that their registers hold
their reset values and their counters are zero (R15, R477). -/
def State.startTrain (s : State) : State :=
  let s := s.powerOffDies.zeroCounts
  (({ s with boot := { s.boot with running := true, hold := false } }).setPhase 3).setDevState 2

/-- A device command (R437); a reserved STATE is refused with REASON 1 (R440). One to MGMT takes the device there as it is accepted, so
that no job starts while the dies lose power (R441; log entry 37). -/
def deviceCmd (s : State) (st word : Nat) : State :=
  if 3 < st then s.pwrStat true 1 0
  else if !deviceCmdOk s st then s.pwrStat true 2 0
  else
    match st with
    | 1 => ((if s.fld Reg.GCTL_DEV_STATE_STATE = 1 then s.startTrain else s.parkLooms)).pwrStat true 0 0
    | 2 => s.unparkLooms.pwrStat true 0 0
    | 0 =>
      let s := s.toMgmt.pwrStat false 0 0
      { s with pwr := { s.pwr with run := some { kind := 0, state := 0, todo := [], word := word } } }
    | _ => { (s.pwrStat false 0 0) with pwr := { s.pwr with run := some { kind := 0, state := st, todo := [], word := word } } }

/-- A loom that is commanded to GATED or DARK waits to be quiet, its RUNNING and HELD streams stopping (R439, R511). -/
def gateLoom (s : State) (l : Nat) : State :=
  let s := (List.range 16).foldl (fun s k =>
    let t := s.stream l k
    if t.state == .running || t.state == .held then s.stopStream l k else s) s
  s.setFld (Reg.PWR_LPWR_PENDING l) 1

/-- A loom or bank command (R436, R438). -/
def targetCmd (s : State) (kind st index count word : Nat) : State :=
  match firstRefused s kind st index count with
  | some (i, r) => refusalAdvice (s.pwrStat true r i) kind i r
  | none =>
    let targets := (List.range count).map (· + index)
    let todo := targets.filter fun i => (if kind = 1 then s.loomPower i else s.bank i) != st
    if todo = [] then s.pwrStat true 0 0
    else
      let s := { (s.pwrStat false 0 0) with pwr := { s.pwr with run := some { kind := kind, state := st, todo := todo, word := word } } }
      if kind = 1 ∧ st ≠ 0 then todo.foldl gateLoom s else s

/-- What a PWR_CMD write does at once (R436). -/
def pwrAct (s : State) (kind st index count word : Nat) : State :=
  if s.releasing then s.pwrStat true 2 (if kind = 0 then 0 else index)
  else if count = 0 then s.pwrStat true 0 0
  else if kind = 0 then deviceCmd s st word
  else if kind = 3 then s.pwrStat true 1 index
  else targetCmd s kind st index count word

/-- A PWR_CMD write (R436); one that takes no time is done and logged with it. Cores held in reset execute none (R451). -/
def pwrCmd (s : State) (kind st index count : Nat) : State :=
  let word := pwrWord kind st (index % 512) (count % 512)
  if s.mgmt.heldReset then s
  else if !s.flag Reg.PWR_PWR_STAT_DONE then s.denied (ctlBase + Reg.PWR_PWR_CMD)
  else
    let s := pwrAct s kind st index count word
    if s.flag Reg.PWR_PWR_STAT_DONE then s.logPower word else s

/-- One target of the running command is done; DONE sets with the last (R436). -/
def State.targetDone (s : State) (i : Nat) : State :=
  match s.pwr.run with
  | none => s
  | some r =>
    let todo := r.todo.filter (· != i)
    if todo = [] then s.pwrDone
    else { s with pwr := { s.pwr with run := some { r with todo := todo } } }

/-- LOOM_QUIET (R439): no command of the loom is in flight and no stream of it is still to stop. -/
def loomQuiets (s : State) (l : Nat) : State :=
  match s.pwr.run with
  | some r =>
    if r.kind == 1 && r.state != 0 && r.todo.contains l && !(s.cmds.any (·.loom == l)) &&
        !(List.range 16).any (fun k => (s.stream l k).stopReq) then (s.setLoomPower l r.state).targetDone l
    else s
  | none => s

/-- POWER_TRANSITION_COMPLETE (R437, R438): the timed part of the running command is over. A DARK loom or bank comes back
zero-filled, with every PGEN 0. SHUTDOWN waits until the log is in flash. -/
def transitionEnds (s : State) : State :=
  match s.pwr.run with
  | none => s
  | some r =>
    match r.kind, r.state with
    | 0, 0 => s.pwrDone
    | 0, 3 => if s.mgmt.logBuf = [] ∧ s.mgmt.logLost = 0 then (s.setFld Reg.PWR_PWR_STAT_SHUTDOWN_OK 1).pwrDone else s
    | 1, 0 => State.pwrDone (r.todo.foldl (fun s l => (if s.loomPower l = 2 then s.setLoomPower l 2 else s).setLoomPower l 0) s)
    | 2, 0 => State.pwrDone (r.todo.foldl (fun s b =>
        let s := (if s.bank b = 2 then s.setBankPower b 2 else s).setBankPower b 0
        { s with pwr := { s.pwr with closed := s.pwr.closed.filter (· != b), closedAt := smSet (fun _ => 0) s.pwr.closedAt b 0 } }) s)
    | _, _ => s

/-! ### Banks (R268) -/

/-- BANK_CLOSE (R268): a command to RETAIN or DARK reaches a bank; a command that issues from then on finds it closed. -/
def bankCloses (s : State) (b : Nat) : State :=
  match s.pwr.run with
  | some r =>
    if r.kind == 2 && r.state != 0 && r.todo.contains b && !s.pwr.closed.contains b then
      { s with pwr := { s.pwr with closed := s.pwr.closed ++ [b], closedAt := smSet (fun _ => 0) s.pwr.closedAt b s.nextId } }
    else s
  | none => s

/-- BANK_STATE_CHANGE (R268): the accesses that the bank had accepted have drained. -/
def bankChanges (s : State) (b : Nat) : State :=
  match s.pwr.run with
  | some r =>
    if r.kind == 2 && r.state != 0 && r.todo.contains b && s.pwr.closed.contains b then (s.setBankPower b r.state).targetDone b else s
  | none => s

/-- LATE_BANK_ACCESS (R268): an access of a command in flight reaches a closed bank, and the command faults. -/
def lateAccess (s : State) (id a : Nat) : State :=
  match s.cmd? id with
  | none => s
  | some c =>
    if s.shut a && inRuns (c.reads ++ c.writes) a then s.bankFault c a else s

/-! ### Power cap (R443) -/

/-- Whether a shed boundary's work that was last done in shed `last` is now due: in the boundary's pick, once a shed (R59, R443). -/
def State.boundaryDue (s : State) (last : Option Nat) : Bool := s.atShed && last != some (shedOf s.pick)

/-- CAP_CONTROL, at a shed boundary: one shed's average power against the cap. The 1 µs peak, the rail voltages and the currents of the shed
are free values (log entry 1). Before CONFIG has ended there is no cap to compare with (log entry 45). -/
def capControls (s : State) (watts : Nat) : State :=
  if !s.boot.configEnded ∨ s.mgmt.heldReset ∨ !s.boundaryDue s.pwr.capAt then s
  else
    let d := s.free
    let s : State := { d.2 with pwr := { s.pwr with capAt := some (shedOf s.pick) } }
    let s := (s.setFld Reg.PWR_POWER_NOW_W (min watts 4095)).setFld Reg.PWR_POWER_PEAK_W
      (max (s.fld Reg.PWR_POWER_PEAK_W) (max (min watts 4095) (d.1 % 4096)))
    let s := (List.range 4).foldl (fun s v => let d := s.free; d.2.setReg (Reg.PWR_VREG v) (BitVec.ofNat 64 (d.1 % 2 ^ 32))) s
    let f := s.clockLimit
    let cap := s.fld Reg.PWR_CAP_CAP_W
    let cur := min f s.pwr.capMhz
    let above := decide (cap < watts)
    let below := if watts * 100 < 97 * cap then s.pwr.below + 1 else 0
    let next := if above then max 800 (cur - 50) else if 8 ≤ below then min f (cur + 50) else cur
    let stuck := if above && cur == 800 then s.pwr.stuck + 1 else 0
    let s1 := { s with pwr := { s.pwr with capMhz := if next = f then 1600 else next, below := below, stuck := stuck
                                           said := decide (next < f), saidStuck := decide (64 ≤ stuck) } }
    let s2 := if next < f ∧ !s.pwr.said then (s1.setFld Reg.PWR_EVENTS_CAPPED 1).advise 0x0703 1 else s1
    let s3 := if 64 ≤ stuck ∧ !s.pwr.saidStuck then s2.advise 0x0703 2 else s2
    s3.showCeilings

/-- A write of CAP (R443). -/
def writeCap (s : State) (w : Nat) : State :=
  if 1800 ≤ w ∧ w ≤ 3200 then s.setFld Reg.PWR_CAP_CAP_W w else s.denied (ctlBase + Reg.PWR_CAP)

/-! ### Droop (R444, R445) -/

/-- DROOP_DETECT: a detector of a loom fires. -/
def droops (s : State) (l : Nat) : State := if l < s.nLooms then s.addSat (Reg.PWR_DROOP_EVENTS l) 1 else s

/-- DROOP_EXCESS: the share of its reference that a loom delivered in the present shed; below 75% it is raised, once a
shed. -/
def droopShare (s : State) (l share : Nat) : State :=
  if s.nLooms ≤ l then s
  else
    let s := s.setFld (Reg.PWR_DROOP_MIN_SHARE l) (min (s.fld (Reg.PWR_DROOP_MIN_SHARE l)) share)
    if share < 768 ∧ smGet (fun _ => 0) s.pwr.excessShed l ≠ shedOf s.pick + 1 then
      let s := { s with pwr := { s.pwr with excessShed := smSet (fun _ => 0) s.pwr.excessShed l (shedOf s.pick + 1) } }
      ((s.addSat (Reg.PWR_DROOP_EXCESS l) 1).setFld Reg.PWR_EVENTS_DROOP_EXCESS 1).advise 0x0701 l share (loom := some l)
    else s

/-! ### Sensors and trips (R446, R447) -/

/-- The limits of a sensor in °C: WARN, THROTTLE, TRIP (R446). -/
def sensorLimits (n : Nat) : Int × Int × Int :=
  if 40 ≤ n ∧ n ≤ 63 then (90, 95, 105)
  else if 80 ≤ n ∧ n ≤ 91 then (85, 95, 105)
  else if 92 ≤ n then (85, 90, 100)
  else (95, 100, 110)

/-- Whether a sensor is associated with a compute die (R446). -/
def sensorOf (n d : Nat) : Bool :=
  if n < 40 then n / 10 == d
  else if n < 64 then (n - 40) / 6 == d
  else if n < 70 then true
  else if n < 72 then false
  else if n < 80 then (n - 72) / 2 == d
  else if n < 92 then (n - 80) / 3 == d
  else true

/-- A sensor's temperature as TEMP holds it, in 1/16 °C. -/
def State.temp (s : State) (n : Nat) : Int := toSigned 16 (s.fld (Reg.PWR_TEMP_TEMP n))

/-- LEVEL of a reading (R449). -/
def levelOf (n : Nat) (t : Int) : Nat :=
  if 16 * (sensorLimits n).2.1 ≤ t then 2 else if 16 * (sensorLimits n).1 ≤ t then 1 else 0

/-- The thresholds that a reading has reached: WARN, THROTTLE, TRIP (R446, R457). -/
def reached (n : Nat) (t : Int) : Nat :=
  let l := sensorLimits n
  bit (decide (16 * l.1 ≤ t)) + bit (decide (16 * l.2.1 ≤ t)) + bit (decide (16 * l.2.2 ≤ t))

/-- The levels that a sensor passes through from one number of thresholds reached to another, one for each threshold crossed. -/
def crossings (was now : Nat) : List Nat :=
  if was ≤ now then (List.range (now - was)).map (was + 1 + ·) else (List.range (was - now)).map (was - 1 - ·)

/-- One sensor read: TEMP, MAX and LEVEL, and a stack's own temperature (R263); each threshold crossed is sent as an event (R447,
R458). -/
def State.readSensor (s : State) (n : Nat) (t : Int) : State :=
  let lvl := levelOf n t
  let was := reached n (s.temp n)
  let deg := (Int.fdiv t 16).toNat
  let s := ((s.setFld (Reg.PWR_TEMP_TEMP n) (ofSigned 16 t)).setFld (Reg.PWR_TEMP_MAX n) (max (s.fld (Reg.PWR_TEMP_MAX n)) (min 255 deg))).setFld
    (Reg.PWR_TEMP_LEVEL n) lvl
  let s := if 80 ≤ n ∧ n ≤ 91 then s.hbmTemp (n - 80) t else s
  let s := if was = 0 ∧ 1 ≤ lvl then s.setFld Reg.PWR_EVENTS_THERM_WARN 1 else s
  (crossings was (reached n t)).foldl (fun s l => s.platformEvent 0 (leBytes 2 (n + 1) ++ leBytes 1 l ++ leBytes 2 (ofSigned 16 t))) s

/-- THERMTRIP_N asserted (R499). -/
def State.assertThermTrip (s : State) : State := { s with boot := { s.boot with thermTripN := true } }

/-- A trip of a host die (R447, R499): SHUTDOWN_OK sets and THERMTRIP_N asserts. -/
def State.hostDieTrip (s : State) : State := s.assertThermTrip.setFld Reg.PWR_PWR_STAT_SHUTDOWN_OK 1

/-- A trip (R447): the device goes to MGMT whatever JOB_ACTIVE holds, a running drain fails with reason 5, as does a capture (log entry
60), and the job's keys and registers are cleared. -/
def State.trip (s : State) (n : Nat) : State :=
  let s := s.raiseDevice 0x0702 n (ofSigned 64 (s.temp n))
  let s := if s.fld Reg.RES_CK_STAT_PHASE ≠ 0 then s.drainFails 5 else s
  (clearJob s).toMgmt.pwrDone

/-- SENSOR_READ (R446, R447): ninety-six readings in 1/16 °C. A sensor at TRIP trips the device once, and again when the device has left
MGMT with it still there (log entry 37). -/
def readSensors (s : State) (temps : List Int) : State :=
  if !s.boot.on ∨ s.mgmt.heldReset then s
  else
    let s := (temps.zipIdx.take 96).foldl (fun s (t, n) => s.readSensor n t) s
    let hot := (List.range 96).filter fun n => decide (16 * (sensorLimits n).2.2 ≤ s.temp n)
    let new := hot.filter fun n => !s.boot.thermTrip.contains n || decide (2 ≤ s.fld Reg.GCTL_DEV_STATE_STATE)
    let s := new.foldl State.trip s
    let s := { s with boot := { s.boot with thermTrip := hot } }
    if hot.contains 70 || hot.contains 71 then s.hostDieTrip else s

/-- One die's thermal ceiling at a shed boundary (R447). -/
def thermalDie (s : State) (d : Nat) : State :=
  let mine := (List.range 96).filter fun n => sensorOf n d
  let f := s.clockLimit
  let cur := min f (s.thermalMhz d)
  match mine.find? (fun n => s.fld (Reg.PWR_TEMP_LEVEL n) == 2) with
  | some n =>
    let next := max 800 (cur - 100)
    let s := { s with pwr := { s.pwr with thermMhz := smSet (fun _ => 1600) s.pwr.thermMhz d next, cool := smSet (fun _ => 0) s.pwr.cool d 0 } }
    let s := if next < cur then s.setFld Reg.PWR_EVENTS_THERM_THROTTLE 1 else s
    if cur = f then s.advise 0x0703 3 n else s
  | none =>
    if mine.all (fun n => decide (s.temp n ≤ 16 * (sensorLimits n).2.1 - 48)) && decide (cur < f) then
      let c := smGet (fun _ => 0) s.pwr.cool d + 1
      let up := min f (cur + 100)
      if 16 ≤ c then
        { s with pwr := { s.pwr with thermMhz := smSet (fun _ => 1600) s.pwr.thermMhz d (if up = f then 1600 else up)
                                     cool := smSet (fun _ => 0) s.pwr.cool d 0 } }
      else { s with pwr := { s.pwr with cool := smSet (fun _ => 0) s.pwr.cool d c } }
    else { s with pwr := { s.pwr with cool := smSet (fun _ => 0) s.pwr.cool d 0 } }

/-- THERMAL_CEILING_UPDATE, at a shed boundary (R447). -/
def thermalUpdate (s : State) : State :=
  if s.mgmt.heldReset ∨ !s.boundaryDue s.pwr.thermAt then s
  else ((List.range 4).foldl thermalDie { s with pwr := { s.pwr with thermAt := some (shedOf s.pick) } }).showCeilings

/-- Every core rail is cut (R447, R451): looms go DARK and beam loses its contents; no command goes on, and no power command. -/
def State.cutRails (s : State) : State :=
  let s := (List.range s.nLooms).foldl (fun s l => s.setLoomPower l 2) { s with cmds := [], pwr := { s.pwr with run := none } }
  (List.range 384).foldl (fun s b => s.setBankPower b 2) s

/-- THERMAL_BACKSTOP (R447, R499): a sensor other than those of the host dies at TRIP + 5 °C; THERMTRIP_N asserts. A power command that
runs is done (log entry 45). -/
def thermalBackstop (s : State) (n : Nat) : State :=
  if n < 96 ∧ n ≠ 70 ∧ n ≠ 71 ∧ s.boot.on then s.pwrDone.cutRails.assertThermTrip else s

end Sys2Proof.Machine
end

