-- ==== Sys2Proof/Machine/Counters.lean ====
section
/-! DEFINITION. Counters: counter configuration, snapshots, access to the CNT block, and the trace ring (R476 to R486). -/
namespace Sys2Proof.Machine

/-! ### Configuration (R478, R479) -/

/-- The highest event code of a slot's block (R478). -/
def maxEvent (k : Nat) : Nat :=
  if k < 5 then 4 else if k < 9 then 4 else if k < 21 then 5 else if k < 45 then 6 else if k < 67 then 7 else 15

/-- A CFG write (R478, R479): it takes effect after the next boundary's latch. -/
def counterCfg (s : State) (k i v : Nat) : State :=
  if maxEvent k < bitsOf v 7 0 then s.denied (ctlBase + Reg.CNT_CFG (k - 1) i)
  else
    { s with cnt := { s.cnt with pend := smSet (fun _ => none) s.cnt.pend (8 * k + i) (some (BitVec.ofNat 64 (v % 2 ^ 12)))
                                 zero := if bitAt v 63 && !s.cnt.zero.contains (8 * k + i) then s.cnt.zero ++ [8 * k + i] else s.cnt.zero } }

/-- CLEAR_ALL (R479). -/
def clearCounters (s : State) : State := { s with cnt := { s.cnt with zeroAll := true } }

/-- Configuration and zeroing take effect, immediately after a boundary's latch (R479). -/
def State.applyCounterCfg (s : State) : State :=
  let s' := s.cnt.pend.foldl (fun (s : State) (p : Nat × Option W64) => match p.2 with
    | some v => s.setReg (Reg.CNT_CFG (p.1 / 8 - 1) (p.1 % 8)) v
    | none => s) s
  let vals := if s.cnt.zeroAll then [] else s.cnt.vals.filter fun p => !s.cnt.zero.contains p.1
  { s' with cnt := { s'.cnt with vals := vals, pend := [], zero := [], zeroAll := false } }

/-- The live value of a counter (R479). -/
def State.counter (s : State) (k i : Nat) : Nat := smGet (fun _ => 0) s.cnt.vals (8 * k + i)

/-! ### Snapshots (R480, R481) -/

/-- A counter's word in a snapshot entry (R481). -/
def snapWord (s : State) (k i : Nat) : Nat :=
  let changed := s.cnt.zeroAll || s.cnt.zero.contains (8 * k + i) || (smGet (fun _ => none) s.cnt.pend (8 * k + i)).isSome
  s.counter k i + 2 ^ 48 * s.fld (Reg.CNT_CFG_EVSEL (k - 1) i) + 2 ^ 56 * s.fld (Reg.CNT_CFG_CTXMASK (k - 1) i) + 2 ^ 60 * bit changed

/-- The words of the entry latched at the present boundary (R481). -/
def snapWords (s : State) : List Nat :=
  [s.pick, s.cnt.seq,
   bit (s.flag Reg.GCTL_DEV_STATE_CAL_LIGHT) + 2 * bit s.jobActive +
     4 * bit (s.flag Reg.RES_RES_STAT_VOTE_HOLD || s.flag Reg.RES_RES_STAT_EXPELLED) + 256 * min s.cnt.skipped 255, 0, 0, 0, 0, 0] ++
  (List.range 255).flatMap fun k => (List.range 8).map fun i => if s.slotPresent (k + 1) then snapWord s (k + 1) i else 0

/-- Events that only the clocked hardware counts, added to the counters that select them (R478). -/
def State.addEvents (s : State) (es : List CntEvent) : State := es.foldl (fun s e => s.countEvent e.slot e.code e.ctx e.n) s

/-- The latched entry given up (R480). -/
def abandonSnapshot (s : State) : State :=
  match s.cnt.latched with
  | some (seq, sh, _) =>
    if sh < shedOf s.pick then
      ({ s with cnt := { s.cnt with latched := none, skipped := s.cnt.skipped + 1 } }.addSat Reg.CNT_SNAP_STAT_LOST 1).setFld
        Reg.CNT_SNAP_CTL_WPTR (seq + 1)
    else s
  | none => s

/-- Whether the collector takes snapshots (R480). -/
def State.snapshotsOn (s : State) : Bool := s.flag Reg.CNT_CNT_CTL_RUN && s.boot.trainDone && decide (2 ≤ s.fld Reg.GCTL_DEV_STATE_STATE)

/-- A shed boundary taken: every counter latched, then configuration takes effect (R479, R480). -/
def takeBoundary (s : State) (es : List CntEvent) : State :=
  let s := (abandonSnapshot s).addEvents es
  let run := s.flag Reg.CNT_CNT_CTL_RUN
  let latched := if s.snapshotsOn then some (s.cnt.seq, shedOf s.pick, snapWords s) else none
  ({ s with cnt := { s.cnt with latched := latched, seq := if run then s.cnt.seq + 1 else s.cnt.seq
                                lastShed := some (shedOf s.pick) } }).applyCounterCfg

/-- The latched entry written whole (R480). -/
def writeSnapshot (s : State) : State :=
  match s.cnt.latched with
  | some (seq, _, ws) =>
    let n := 0x4000 * 2 ^ s.fld Reg.CNT_SNAP_CTL_LOG2N
    let base := (s.reg Reg.CNT_SNAP_BASE).toNat
    let s := { s with cnt := { s.cnt with latched := none, skipped := 0 } }
    let s := if inHbm base n then s.storeBytes (base + 0x4000 * (seq % 2 ^ s.fld Reg.CNT_SNAP_CTL_LOG2N)) (ws.flatMap (leBytes 8)) else s
    s.setFld Reg.CNT_SNAP_CTL_WPTR (seq + 1)
  | none => s

/-- COUNTER_SNAPSHOT (R59, R480): at a boundary that has not been taken, the latch; after it, the write of the entry. -/
def snapshot (s : State) (es : List CntEvent) : State :=
  if s.atShed ∧ s.cnt.lastShed ≠ some (shedOf s.pick) then takeBoundary s es
  else match s.cnt.latched with
    | some (_, sh, _) => if sh = shedOf s.pick then writeSnapshot s else s
    | none => s

/-! ### Access and the ring registers (R482, R486) -/

/-- Whether a valid table entry or a memory region overlaps a counter ring (R482). -/
def ringsMapped (s : State) : Bool :=
  s.cntRings.any fun r => s.anyEntry false (fun w0 w1 => entryTouches w0 w1 r) ||
    s.host.regions.any fun x => match x.2 with
      | some g => decide (g.base < r.1 + r.2) && decide (r.1 < g.base + g.len)
      | none => false

/-- CNT_ACCESS_WRITE (R482). -/
def writeAccess (s : State) (priv user : Bool) : State :=
  if !priv || (!user && s.flag Reg.CNT_CNT_ACCESS_USER && ringsMapped s) then s.denied (ctlBase + Reg.CNT_CNT_ACCESS)
  else s.setFld Reg.CNT_CNT_ACCESS_USER (bit user)

/-- A CNT_CTL write (R479, R480). -/
def writeCntCtl (s : State) (run clear : Bool) : State :=
  let s := if clear then clearCounters s else s
  if run then
    if s.flag Reg.CNT_CNT_CTL_RUN then s
    else ({ s with cnt := { s.cnt with seq := 0, skipped := 0, latched := none } }.setFld Reg.CNT_SNAP_CTL_WPTR 0).setFld Reg.CNT_CNT_CTL_RUN 1
  else { s with cnt := { s.cnt with latched := none } }.setFld Reg.CNT_CNT_CTL_RUN 0

/-- A TR_CTL write (R486). -/
def writeTrCtl (s : State) (v : Nat) : State :=
  let n := bitsOf v 4 0
  if n < 4 ∨ 20 < n then s.denied (ctlBase + Reg.CNT_TR_CTL)
  else
    let s := if bitAt v 5 && !s.flag Reg.CNT_TR_CTL_EN then
        { s with cnt := { s.cnt with traceSeq := 0 } }.setFld Reg.CNT_TR_RING_WPTR 0
      else s
    ((s.setFld Reg.CNT_TR_CTL_N n).setFld Reg.CNT_TR_CTL_EN (bit (bitAt v 5))).setFld Reg.CNT_TR_CTL_TSID (bitsOf v 15 8)

/-- A write of a ring's base or size, which may change only while the ring is not in use (R482). -/
def writeRingReg (s : State) (off v : Nat) (inUse : Bool) (f : Fld) : State :=
  if inUse then s.denied (ctlBase + off)
  else
    { s.setFld f v with cnt := { s.cnt with snapSet := s.cnt.snapSet || off == Reg.CNT_SNAP_BASE
                                            traceSet := s.cnt.traceSet || off == Reg.CNT_TR_BASE } }

/-- Word `w` of the window (R486). -/
def windowWord (s : State) (w : Nat) : Nat :=
  let i := s.fld Reg.CNT_WIN_SEL_INDEX
  if s.flag Reg.CNT_WIN_SEL_KIND then
    if w < 8 then s.load ((s.reg Reg.CNT_TR_BASE).toNat + 64 * (i % 2 ^ s.fld Reg.CNT_TR_RING_LOG2N) + 8 * w) 8 else 0
  else s.load ((s.reg Reg.CNT_SNAP_BASE).toNat + 0x4000 * (i % 2 ^ s.fld Reg.CNT_SNAP_CTL_LOG2N) + 8 * w) 8

/-! ### The trace ring (R484, R485) -/

/-- A time of a trace record, saturated (R484). -/
def satTime (n : Nat) : Nat := min n 0xFFFFFFFF

/-- The 64 bytes of a trace record (R484). -/
def traceBytes (r : TraceRec) (seq : Nat) : List Byte :=
  let sat := decide (0xFFFFFFFF < r.issue) || decide (0xFFFFFFFF < r.first) || decide (0xFFFFFFFF < r.last) || decide (0xFFFFFFFF < r.retire)
  leBytes 8 r.pick ++ leBytes 2 r.frac ++ leBytes 2 0 ++ leBytes 4 (satTime r.issue) ++ leBytes 4 (satTime r.first) ++
  leBytes 4 (satTime r.last) ++ leBytes 4 (satTime r.retire) ++ leBytes 3 r.tag ++ leBytes 1 (r.stream % 16 + 16 * (r.stream % 4)) ++
  leBytes 1 r.loom ++ leBytes 1 r.mask ++
  leBytes 2 (bit r.forced + 2 * bit r.faulted + 4 * bit r.nodata + 8 * bit sat + 16 * bit r.held + 32 * bit r.gap) ++
  ((List.range 4).flatMap fun k => leBytes 4 (r.iters.getD k 0)) ++ leBytes 4 (if r.faulted then r.code else 0) ++ leBytes 8 seq

/-- TRACE_RECORD_WRITE (R485): the oldest record of a die's buffer into the ring. -/
def writeTrace (s : State) (die : Nat) : State :=
  match smGet (fun _ => []) s.cnt.traces die with
  | [] => s
  | r :: rest =>
    if s.flag Reg.CNT_TR_CTL_EN then
      let n := 2 ^ s.fld Reg.CNT_TR_RING_LOG2N
      let base := (s.reg Reg.CNT_TR_BASE).toNat
      let seq := s.cnt.traceSeq
      let s := { s with cnt := { s.cnt with traces := smSet (fun _ => []) s.cnt.traces die rest, traceSeq := seq + 1 } }
      (if inHbm base (64 * n) then s.storeBytes (base + 64 * (seq % n)) (traceBytes r seq) else s).addWrap Reg.CNT_TR_RING_WPTR 1
    else s

end Sys2Proof.Machine
end

