-- ==== Sys2Proof/Machine/RegWrite.lean ====
section
/-! DEFINITION. RegWrite: what a read or a write of one control-window register does (R12 to R15, R31, R355, and the register
rules of every chapter). -/
namespace Sys2Proof.Machine

/-! ### Plain registers (R12, R13) -/

/-- The block, its index, the local offset and the table row of a control-window offset. -/
def rowOf (off : Nat) : Option (Blk × Nat × Nat × RegRow) :=
  match blockAt off with
  | some (b, i, l) => (b.rowAt l).map fun r => (b, i, l, r)
  | none => none

/-- A field after a write of register value `v`, by its access code (R12). -/
def writeField (v : Nat) (old : Nat) (f : RegField) : Nat :=
  match f.acc with
  | .rw => setBits old f.hi f.lo (bitsOf v f.hi f.lo)
  | .w1c => setBits old f.hi f.lo (bitsOf old f.hi f.lo - (bitsOf old f.hi f.lo &&& bitsOf v f.hi f.lo))
  | .w1s => setBits old f.hi f.lo (bitsOf old f.hi f.lo ||| bitsOf v f.hi f.lo)
  | _ => old

/-- A register written by its access codes alone; a reserved field ignores its value (R13). -/
def plainWrite (s : State) (off v : Nat) : State :=
  match rowOf off with
  | some (_, _, _, r) => s.setReg off (BitVec.ofNat 64 (r.fields.foldl (writeField v) (s.reg off).toNat))
  | none => s

/-- A register that only Grembedun may write. -/
def privWrite (s : State) (priv : Bool) (off : Nat) (op : State → State) : State :=
  if priv then op s else s.denied (ctlBase + off)

/-- A register whose writes are discarded, with a record, while a condition holds. -/
def lockedWrite (s : State) (locked : Bool) (off : Nat) (op : State → State) : State :=
  if locked then s.denied (ctlBase + off) else op s

/-! ### Block by block -/

/-- A GCTL write (R35, R36, R38). -/
def writeGctl (s : State) (l off v : Nat) : State :=
  if l = 0x38 then jobCtl s (bitAt v 0) (bitAt v 1)
  else if l = 0x40 ∨ l = 0x48 then writeUnlessJob s off v
  else plainWrite s off v

/-- A FAULT write (R505, R509). -/
def writeFault (s : State) (l off v : Nat) : State :=
  if l = 0 then frBase s v
  else if l = 8 then frCtl s (bitsOf v 4 0) (bitAt v 5)
  else plainWrite s off v

/-- A PWR write (R436, R443). -/
def writePwr (s : State) (l off v : Nat) : State :=
  if l = 0 then pwrCmd s (bitsOf v 1 0) (bitsOf v 4 2) (bitsOf v 13 5) (bitsOf v 22 14)
  else if l = 0x10 then writeCap s (bitsOf v 11 0)
  else plainWrite s off v

/-- TOD_CTL with ARM (R62): TOD_SEC applies at the next PPS_IN edge. -/
def armTod (s : State) : State := { s with time := { s.time with armed := true } }

/-- A TIME write (R62). -/
def writeTime (s : State) (priv : Bool) (l off v : Nat) : State :=
  if l = 0x28 then privWrite s priv off fun s => (plainWrite s off v).elect
  else if l = 0x60 then privWrite s priv off fun s => if bitAt v 0 then armTod s else s
  else if l = 0x58 ∨ 0x100 ≤ l then privWrite s priv off fun s => plainWrite s off v
  else plainWrite s off v

/-- A CNT write (R478, R479, R480, R482, R486). -/
def writeCnt (s : State) (priv : Bool) (l off v : Nat) : State :=
  if !priv && !s.flag Reg.CNT_CNT_ACCESS_USER then s.denied (ctlBase + off)
  else if l = 0 then writeAccess s priv (bitAt v 0)
  else if l = 8 then writeCntCtl s (bitAt v 0) (bitAt v 1)
  else if l = 0x10 then writeRingReg s off v (s.flag Reg.CNT_CNT_CTL_RUN) Reg.CNT_SNAP_BASE_BASE
  else if l = 0x18 then writeRingReg s off (bitsOf v 4 0) (s.flag Reg.CNT_CNT_CTL_RUN) Reg.CNT_SNAP_CTL_LOG2N
  else if l = 0x40 then writeTrCtl s v
  else if l = 0x48 then writeRingReg s off v (s.flag Reg.CNT_TR_CTL_EN) Reg.CNT_TR_BASE_BASE
  else if l = 0x50 then writeRingReg s off (bitsOf v 4 0) (s.flag Reg.CNT_TR_CTL_EN) Reg.CNT_TR_RING_LOG2N
  else if 0x4000 ≤ l ∧ l < 0x8000 then counterCfg s ((l - 0x4000) / 0x40) ((l - 0x4000) % 0x40 / 8) v
  else plainWrite s off v

/-- A CCTL write (R511, R232, R230). -/
def writeCctl (s : State) (slot v : Nat) : State :=
  if bitAt v 0 && bitAt v 1 then s.ignored (some (slot / 4))
  else
    let s := s.setFld (Reg.CTX_CCTL_FORCE_PACED slot) (bit (bitAt v 2))
    if bitAt v 0 then stopCtx s slot else if bitAt v 1 then resumeCtx s slot else s

/-- A DESC_COMMIT write (R219). -/
def writeCommit (s : State) (slot v : Nat) : State :=
  let index := bitsOf v 11 0
  if bitAt v 12 && bitAt v 13 then s.denied (ctlBase + Reg.CTX_DESC_COMMIT slot)
  else if bitAt v 13 then readDesc s slot index
  else if bitAt v 12 then unpoison s slot index
  else commitDesc s slot index

/-- A write of a register of one stream of a CTX slot: entry `e`, offset `r` in the entry (R228, R229, R235). -/
def writeEntry (s : State) (slot e r off v : Nat) : State :=
  let loom := slot / 4
  let stream := 4 * e + slot % 4
  if r = 0 then lockedWrite s (s.stream loom stream).enabled off fun s => plainWrite s off v
  else if r = 8 then ringCtl s loom stream (bitsOf v 4 0) (bitAt v 8)
  else if r = 0x10 then ringBell s loom stream (bitsOf v 31 0) (bitsOf v 47 32)
  else if r = 0x40 then addSignal s loom stream (bitsOf v 5 0) (bitsOf v 63 32)
  else plainWrite s off v

/-- A CTX write (R219, R228 to R235, R511). -/
def writeCtx (s : State) (slot l off v : Nat) : State :=
  if l = 8 then writeCctl s slot v
  else if l = 0x40 then writeCommit s slot v
  else if 0x80 ≤ l ∧ l < 0x100 then lockedWrite s (descBusy s slot) off fun s => plainWrite s off v
  else if 0x400 ≤ l then writeEntry s slot ((l - 0x400) / 0x300) ((l - 0x400) % 0x300) off v
  else plainWrite s off v

/-- An HTAB write (R256, R271). -/
def writeHtab (s : State) (die l off v : Nat) : State :=
  if l = 0x4000 ∨ l = 0x4008 then lockedWrite s (!s.flag (Reg.HTAB_HT_STAT_DONE die)) off fun s => plainWrite s off v
  else if l = 0x4010 then
    if bitAt v 10 then invalidateEntry s die (bitsOf v 9 0) else commitEntry s die (bitsOf v 9 0)
  else if l = 0x4100 then switchBeam s die (bitsOf v 5 0)
  else plainWrite s off v

/-- An IMLD_CTL write (R226): without GO it starts nothing, and PAGE and COUNT take their values (R12). -/
def writeLoad (s : State) (priv : Bool) (loom off v : Nat) : State :=
  let force := bitAt v 17
  if force && !priv then s.denied (ctlBase + off)
  else if bitAt v 16 then
    if s.loadOpen loom then s.denied (ctlBase + off) else startLoad (plainWrite s off v) loom force
  else plainWrite s off v

/-- A DIG_CTL write (R366). -/
def writeDigCtl (s : State) (loom c off v : Nat) : State :=
  let n := bitsOf v 5 1
  let base := (s.reg (Reg.LOOM_DIG_BASE loom c)).toNat
  if s.flag (Reg.LOOM_DIG_CTL_EN loom c) then lockedWrite s (n != s.fld (Reg.LOOM_DIG_CTL_LOG2N loom c)) off fun s => plainWrite s off v
  else lockedWrite s (bitAt v 0 && (base % 64 != 0 || !inHbm base (32 * 2 ^ n))) off fun s => plainWrite s off v

/-- A LOOM write (R183, R226, R366). -/
def writeLoom (s : State) (priv : Bool) (loom l off v : Nat) : State :=
  if 0xA00 ≤ l ∧ l < 0xB00 then privWrite s priv off fun s => plainWrite s off v
  else if l = 0x448 then writeLoad s priv loom off v
  else if 0x1400 ≤ l ∧ l < 0x1480 ∧ l % 0x20 = 0 then
    lockedWrite s (s.flag (Reg.LOOM_DIG_CTL_EN loom ((l - 0x1400) / 0x20))) off fun s => plainWrite s off v
  else if 0x1400 ≤ l ∧ l < 0x1480 then writeDigCtl s loom ((l - 0x1400) / 0x20) off v
  else plainWrite s off v

/-- A PCTL write (R338, R340, R342). -/
def writePctl (s : State) (p off v : Nat) : State :=
  let s := plainWrite s off v
  if bitAt v 0 then portRestores s p else s

/-- A WVN write (R323, R338, R342). -/
def writeWvn (s : State) (l off v : Nat) : State :=
  let p := (l - 0x10000) / 0x1000
  if l = 8 then selectSchedule s (bitsOf v 1 0) (bitsOf v 55 8)
  else if 0x10000 ≤ l ∧ l % 0x1000 = 8 then writePctl s p off v
  else if 0x10000 ≤ l ∧ l % 0x1000 = 0x58 then
    lockedWrite s (!(s.wvn.injAllow && s.flag (Reg.WVN_PCTL_INJECT_EN p))) off fun s => plainWrite s off v
  else plainWrite s off v

/-- A MIR_SRC write: a new source is mirrored from its next record on (R360). -/
def writeMirror (s : State) (m off v : Nat) : State :=
  let old := (s.reg off).toNat
  let s := plainWrite s off v
  if bitsOf old 10 0 = bitsOf v 10 0 then s
  else
    let next := match bitsOf v 1 0 with
      | 1 => s.fld (Reg.CTX_CQ_CTL_WPTR (bitsOf v 10 2))
      | 2 => s.fld Reg.FAULT_FR_CTL_WPTR
      | _ => 0
    { s with host := { s.host with mirNext := smSet (fun _ => 0) s.host.mirNext m next } }

/-- A HOST write (R348, R353, R356, R360, R365). -/
def writeHost (s : State) (priv : Bool) (l off v : Nat) : State :=
  if l = 0x140 then qpCmd s (bitsOf v 13 0) (bitsOf v 15 14)
  else if l = 0x220 then mrCmd s (bitsOf v 7 0) (bitAt v 8)
  else if 0x400 ≤ l ∧ l < 0x500 then privWrite s priv off fun s => plainWrite s off v
  else if 0x600 ≤ l ∧ l < 0xE00 ∧ l % 0x20 = 0 then writeMirror s ((l - 0x600) / 0x20) off v
  else if 0x10000 ≤ l ∧ l % 0x1000 = 8 then (plainWrite s off v).flushPaused
  else plainWrite s off v

/-- A FUL write (R308). -/
def writeFul (s : State) (l off v : Nat) : State :=
  if l < 0x80 then lockedWrite s (!s.flag Reg.FUL_FP_STAT_DONE) off fun s => plainWrite s off v
  else if l = 0x88 then fpCommitOp s (bitsOf v 5 0) (bitAt v 6) (bitAt v 7)
  else if l = 0x100 ∨ l = 0x108 then lockedWrite s s.jobActive off fun s => plainWrite s off v
  else if 0x200 ≤ l ∧ l % 0x100 = 0x20 then if bitAt v 0 then tallyClearOp s ((l - 0x200) / 0x100) else s
  else plainWrite s off v

/-- A BUDDY_BASE or BUDDY_LEN write (R385): credits may follow. -/
def writeBuddy (s : State) (off v : Nat) : State :=
  let s := plainWrite s off v
  if off = Reg.RES_BUDDY_LEN then buddyCredit s else s

/-- A CAP_START write (R392). -/
def writeCapStart (s : State) (off v : Nat) : State :=
  let s := plainWrite s off v
  if bitAt v 63 then armCapture s else s

/-- An SWS_CTL write (R397): QUARANTINE by anyone, STATE and UNIT by Grembedun alone. -/
def writeStoreCtl (s : State) (priv : Bool) (i off v : Nat) : State :=
  let deny := !priv && (!bitAt v 2 || bitsOf v 1 0 != 0 || bitsOf v 15 8 != 0)
  let s := if deny then s.denied (ctlBase + off) else if priv then plainWrite s off v else s
  if bitAt v 2 then quarantineEntry s i else s

/-- A RES write (R373 to R408). -/
def writeRes (s : State) (priv : Bool) (l off v : Nat) : State :=
  let plain (s : State) : State := plainWrite s off v
  let phase := s.fld Reg.RES_CK_STAT_PHASE
  if l = 8 ∨ (0x40 ≤ l ∧ l < 0x80) then lockedWrite s (!s.res.votes.isEmpty) off plain
  else if l = 0x10 then if bitAt v 0 then rejoinOp s else s
  else if l = 0x80 ∨ l = 0x88 then lockedWrite s s.jobActive off plain
  else if l = 0x200 then lockedWrite s (phase != 0 || v % 0x200000 != 0) off plain
  else if l = 0x208 then lockedWrite s (phase != 0 || decide (122880 < bitsOf v 16 0)) off plain
  else if l = 0x240 ∨ l = 0x248 then writeBuddy s off v
  else if l = 0x258 then if bitAt v 0 then buddySends s (bitsOf v 20 1) else s
  else if l = 0x308 then if bitAt v 0 then restoreGoes s else s
  else if l = 0x400 then if bitAt v 7 then spareRequest s (bitsOf v 6 0) else s
  else if l = 0x480 then if bitAt v 0 then suspect s else s
  else if l = 0x600 then writeCapStart s off v
  else if 0x10000 ≤ l ∧ l % 0x20 = 0x18 then writeStoreCtl s priv ((l - 0x10000) / 0x20) off v
  else if 0x10000 ≤ l then privWrite s priv off plain
  else plain s

/-- A write that reaches its register. -/
def writeReg (s : State) (priv : Bool) (off v : Nat) : State :=
  match blockAt off with
  | none => s
  | some (b, i, l) =>
    match b with
    | .gctl => writeGctl s l off v
    | .fault => writeFault s l off v
    | .pwr => writePwr s l off v
    | .time => writeTime s priv l off v
    | .cnt => writeCnt s priv l off v
    | .ctx => writeCtx s i l off v
    | .htab => writeHtab s i l off v
    | .loom => writeLoom s priv i l off v
    | .wvn => writeWvn s l off v
    | .host => writeHost s priv l off v
    | .ful => writeFul s l off v
    | .res => writeRes s priv l off v

/-- A write of `len` bytes at a control-window offset (R12 to R14, R31, R355). -/
def writeWindow (s : State) (priv : Bool) (off len v : Nat) : State := gate s priv off len v fun s => writeReg s priv off v

/-! ### Live registers -/

/-- The state that SSTATE shows: FAULTED once the record is in the ring (R506), RUNNING until then. -/
def StreamSt.shown (t : StreamSt) : Nat := if t.state = .faulted ∧ !t.faultShown then 1 else t.state.code

/-- CSTATE (R246). -/
def cstate (s : State) (slot : Nat) : Nat :=
  let bolt := match s.wvn.active with | some sc => decide (4096 < sc.boltSize) | none => false
  let paced := bit (s.paced bolt slot)
  match s.residentOf slot with
  | none => 8 * paced
  | some k =>
    let t := s.stream (slot / 4) k
    t.shown + 8 * paced + 16 * bit t.inside + 32 * t.loops.length + 256 * (k / 4) + 1024

/-- Live registers of a CTX slot (R246). -/
def liveCtx (s : State) (slot l old : Nat) : Nat :=
  let res := (s.residentOf slot).map fun k => s.stream (slot / 4) k
  if l = 0 then cstate s slot
  else if 0x100 ≤ l ∧ l < 0x180 then (match res with | some t => (t.ctr ((l - 0x100) / 8)).toNat | none => 0)
  else if l = 0x180 then (match res with | some t => t.cmps.toNat | none => 0)
  else if l < 0x400 then old
  else
    let stream := 4 * ((l - 0x400) / 0x300) + slot % 4
    let r := (l - 0x400) % 0x300
    let t := s.stream (slot / 4) stream
    if r = 0x18 then t.head
    else if r = 0x20 then t.tail
    else if r = 0x28 then t.retired
    else if r = 0x30 then t.pending + 65536 * qdepth s (slot / 4) stream
    else if r = 0x38 then t.shown + 8 * bit (s.residentOf slot == some stream)
    else if 0x100 ≤ r then (t.sem ((r - 0x100) / 8)).toNat
    else old

/-- OWN (R135). -/
def ownWord (t : LoomSt) : Nat :=
  let half (c : Claim) : Nat := match c with | some k => k + 4 | none => 0
  half t.own0 + 16 * half (if t.full then t.own0 else t.own1) + 128 * bit t.full

/-- The MODE of a plane or an accumulation. -/
def modeOf (f : EFmt) : Nat :=
  match f with
  | .int8 => 0
  | .int4 => 1
  | _ => 2

/-- The byte of PLANES for a half (R135); a FULL claim loads the planes of both (R105). -/
def planesByte (t : LoomSt) (half : Nat) : Nat :=
  let h := if t.full then 0 else half
  let p := (t.recent h).getD 0
  bit (t.plane h 0).loaded + 2 * bit (t.plane h 1).loaded + 4 * p +
    8 * (if (t.recent h).isSome && (t.plane h p).loaded then modeOf (t.plane h p).fmt else 3)

/-- ACCh without DISCARDED (R135). -/
def accWord (t : LoomSt) (h : Nat) : Nat :=
  match t.acc h with
  | none => 0
  | some a => 1 + 4 * bit a.bc + 8 * a.cm1 + 512 * (a.rows % 1024) + 2 ^ 19 * modeOf a.fmt + 2 ^ 32 * (a.nt % 2 ^ 32)

/-- Vector commands of a context in flight (R206). -/
def vecInFlight (s : State) (loom c : Nat) : List Cmd := (s.cmdsOfCtx loom c).filter (slotVector ·.c)

/-- Skeins that a vector command cuts its destination into (R185). -/
def Cmd.skeins (c : Cmd) : Nat := ceilDiv c.plan.elems 64

/-- Residency slots that each context holds (R186): 32 guaranteed to each context with vector commands in flight, the rest in
issue order. -/
def skeinsHeld (s : State) (loom : Nat) : List Nat :=
  let cs := (List.range 4).map fun c => vecInFlight s loom c
  let own := cs.map fun l => min 32 (l.foldl (fun n c => n + c.skeins) 0)
  let rest := 256 - 32 * (cs.filter fun l => !l.isEmpty).length
  let order := s.cmds.filter fun c => c.loom == loom && slotVector c.c
  let step (x : List Nat × List Nat × Nat) (c : Cmd) : List Nat × List Nat × Nat :=
    let k := c.stream % 4
    let mine := min c.skeins (x.2.1.getD k 0)
    let extra := min (c.skeins - mine) x.2.2
    (x.1.set k (x.1.getD k 0 + mine + extra), x.2.1.set k (x.2.1.getD k 0 - mine), x.2.2 - extra)
  (order.foldl step ([0, 0, 0, 0], own, rest)).1

/-- Whether some stream of a context holds a vector command under R196. -/
def vecHeldIn (s : State) (loom c : Nat) : Bool :=
  (List.range 4).any fun e =>
    let t := s.stream loom (4 * e + c)
    match t.queue with
    | .slot i x :: _ => slotVector x && t.state == .held && handleHeld (s.cmdsOf loom (4 * e + c)) (slotNames s i x)
    | _ => false

/-- VSTAT HELD (R206): a vector command of the context is held under R196, one of a running swatch's program among them. -/
def vecHeld (s : State) (loom c : Nat) : Bool :=
  vecHeldIn s loom c || ((s.swRun loom).isSome && vecHeldIn (swapSwatch s loom) loom c)

/-- Live registers of a loom (R135, R206, R284). -/
def liveLoom (s : State) (loom l old : Nat) : Nat :=
  let t := s.loom loom
  if l = 8 then ownWord t
  else if l = 0x10 then planesByte t 0 + 256 * planesByte t 1
  else if l = 0x18 ∨ l = 0x28 then accWord t ((l - 0x18) / 0x10) + 2 * bit (bitAt old 1)
  else if l = 0x20 ∨ l = 0x30 then (match t.acc ((l - 0x20) / 0x10) with | some a => a.nextKt | none => 0)
  else if 0xC00 ≤ l ∧ l < 0xC80 ∧ l % 0x20 = 0x10 then
    let c := (l - 0xC00) / 0x20
    (skeinsHeld s loom).getD c 0 + 2 ^ 16 * min 15 (vecInFlight s loom c).length + 2 ^ 20 * bit (vecHeld s loom c)
  else if l = 0xC80 then 256 - (skeinsHeld s loom).foldl (· + ·) 0 + 2 ^ 16 * 32
  else if l = 0x1080 then
    (List.range 4).foldl (fun n c => n + 16 ^ c * min 15 ((s.cmdsOfCtx loom c).filter (slotMover ·.c)).length) 0
  else old

/-- BANKS: RESIDENT beside the stored states (R283). -/
def residentMask (s : State) (die b : Nat) : Nat :=
  (List.range 16).foldl (fun n k =>
    n + 2 ^ k * bit (s.anyEntry true fun w0 w1 => (entryBanks w0 w1).contains (96 * die + 16 * b + k))) 0

/-- Live registers of an HTAB block: PSTATE of an entry (R254), RESIDENT of a bank. -/
def liveHtab (s : State) (die l old : Nat) : Nat :=
  if l < 0x4000 ∧ l % 0x10 = 0 then
    setBits old 57 56 (entryPstate s (BitVec.ofNat 64 old) (s.reg (Reg.HTAB_ENTRY_W1 die (l / 0x10))))
  else if 0x4200 ≤ l ∧ l < 0x4230 then setBits old 47 32 (residentMask s die ((l - 0x4200) / 8))
  else old

/-- FSTAT and FTAG of a die (R308). -/
def liveFul (s : State) (l old : Nat) : Nat :=
  let d := (l - 0x200) / 0x100
  let run := (s.full d).running.bind s.cmd?
  if l < 0x200 then old
  else if l % 0x100 = 0 then
    2 ^ 16 * min 255 (waitingFor s d).length + (match run with
      | some c => 1 + 2 * (match c.phase with | .full _ (some p) => if p ≤ s.pick then 2 else 1 | _ => 1) + 8 * c.loom + 2 ^ 10 * (c.stream % 4) +
          2 ^ 12 * c.stream
      | none => 0)
  else if l % 0x100 = 8 then (match run with | some c => c.tag.toNat | none => old)
  else old

/-- COLL_STAT of a die (R344). -/
def collStat (s : State) (d : Nat) : Nat :=
  match s.cmds.find? (fun c => s.dieOf c.loom == d && (match c.phase with
      | .collective _ _ => true
      | .own => s.res.votes.any (·.cmd == c.id)
      | _ => false)) with
  | some c => 1 + 2 * c.loom + 2 ^ 8 * (c.stream % 4) + 2 ^ 16 * c.tag.toNat
  | none => 0

/-- NEXT_S of a port (R337): whole seconds to its next attempt. -/
def nextSeconds (s : State) (p : Nat) : Nat := min (2 ^ 24 - 1) (ceilDiv ((s.port p).retryAt - s.pick) secondPicks)

/-- Live registers of the fabric (R344). -/
def liveWvn (s : State) (l old : Nat) : Nat :=
  if 0x100 ≤ l ∧ l < 0x200 then collStat s ((l - 0x100) / 0x40)
  else if 0x10000 ≤ l ∧ l % 0x1000 = 0x50 then setBits old 63 40 (nextSeconds s ((l - 0x10000) / 0x1000))
  else old

/-- Live registers of the CNT block (R486): CFG reads what was last written, VAL the live count, WIN the window. -/
def liveCnt (s : State) (l old : Nat) : Nat :=
  if 0x4000 ≤ l ∧ l < 0x8000 then
    (match smGet (fun _ => none) s.cnt.pend (8 * ((l - 0x4000) / 0x40) + (l - 0x4000) % 0x40 / 8) with | some w => w.toNat | none => old)
  else if 0x8000 ≤ l ∧ l < 0xC000 then s.counter ((l - 0x8000) / 0x40) ((l - 0x8000) % 0x40 / 8)
  else if 0xC000 ≤ l then windowWord s ((l - 0xC000) / 8)
  else old

/-- What a register reads as, where the value is more than what the register itself holds. -/
def liveReg (s : State) (off : Nat) : Nat :=
  let old := (s.reg off).toNat
  match blockAt off with
  | none => old
  | some (b, i, l) =>
    match b with
    | .gctl => if l = 0x30 then s.pick else old
    | .fault => if 0x100 ≤ l then ctxf s ((l - 0x100) / 8) else old
    | .time => if l = 0 then s.pick else if l = 8 then s.time.frac + 65536 * (s.pick % 2 ^ 48) else old
    | .cnt => liveCnt s l old
    | .ctx => liveCtx s i l old
    | .htab => liveHtab s i l old
    | .loom => liveLoom s i l old
    | .wvn => liveWvn s l old
    | .host => if l = 8 then s.qpUsed else old
    | .ful => liveFul s l old
    | .res => if l = 0x510 then bit (decide (0 < windowLeft s 1)) else old
    | .pwr => old

/-- The RC fields of a register cleared by a read (R12). -/
def clearRead (s : State) (off : Nat) : State :=
  match rowOf off with
  | some (_, _, _, r) =>
    if r.fields.any (fun f => f.acc == .rc) then
      s.setReg off (BitVec.ofNat 64 (r.fields.foldl (fun v f => if f.acc = .rc then setBits v f.hi f.lo 0 else v) (s.reg off).toNat))
    else s
  | none => s

/-- What a read that is not performed returns (R14, R31). -/
def allOnes : Nat := 2 ^ 64 - 1

/-- A read of `len` bytes at a control-window offset (R12, R14, R31, R482). -/
def readWindow (s : State) (priv : Bool) (off len : Nat) : Nat × State :=
  if off % 8 ≠ 0 ∨ len ≠ 8 ∨ holeReg s off then (allOnes, s.denied (ctlBase + off))
  else if !priv && !s.flag Reg.CNT_CNT_ACCESS_USER && (match blockAt off with | some (.cnt, _, _) => true | _ => false) then
    (allOnes, s.denied (ctlBase + off))
  else (liveReg s off % 2 ^ 64, clearRead s off)

end Sys2Proof.Machine
end

