-- ==== Sys2Proof/Machine/Roce.lean ====
section
/-! DEFINITION. Roce: what the host ports receive and send: RDMA requests, acknowledgements, retransmission, congestion
notification, and the mirrors (R345 to R361). -/
namespace Sys2Proof.Machine

/-! ### Answers -/

/-- A NAK (R352, R354). -/
def sendNak (s : State) (q psn code : Nat) : State :=
  s.outQp q 1 (.nak q psn code)

/-- An ACK. -/
def sendAck (s : State) (q psn : Nat) : State := s.outQp q 1 (.ack q psn)

/-- A request that R347 does not support, or that breaks the order of opcodes (R352): NAK Invalid Request, and ERROR. -/
def invalidRequest (s : State) (q psn : Nat) : State := (sendNak s q psn 1).qpFails q 1

/-- A request that fails a check of R354: NAK Remote Access Error, ERROR, and the advisory. -/
def accessError (s : State) (q psn va : Nat) : State :=
  (((sendNak s q psn 2).addSat (Reg.HOST_HPCNT2_DENIED (s.qp q).port) 1).qpToError q).advise 0x0502 q va (q := some (portQueue (s.qp q).port))

/-! ### The checks of R354 -/

/-- Whether byte `o` of the control window lies in a VALID ALLOW entry that grants the access. -/
def allowed (s : State) (write : Bool) (o : Nat) : Bool :=
  (List.range 32).any fun i =>
    let st := s.fld (Reg.HOST_ALLOW_START i)
    s.flag (Reg.HOST_ALLOW_VALID i) && s.flag (if write then Reg.HOST_ALLOW_W i else Reg.HOST_ALLOW_R i) && decide (st ≤ o) &&
      decide (o < st + s.fld (Reg.HOST_ALLOW_LEN i))

/-- The words of a range of the control window that hold the range's bytes: ALLOW entries are made of whole words when their
START is aligned, so a range is checked byte by byte. -/
def allAllowed (s : State) (write : Bool) (va len : Nat) : Bool := (List.range len).all fun k => allowed s write (va - ctlBase + k)

/-- Whether two ranges have a byte in common. -/
def meets (a n b m : Nat) : Bool := decide (a < b + m) && decide (b < a + n)

/-- The checks of R354, with the rules of R357, R482 and R510 that refuse under checks 2 and 3. -/
def accessOk (s : State) (write : Bool) (va : Nat) (rkey len : Nat) : Bool :=
  match s.region (rkey % 256) with
  | none => false
  | some g =>
    let ctl := inCtl g.base g.len
    decide (g.key = rkey / 256) && (if write then g.write else g.read) &&
      (ctl || s.flag Reg.CNT_CNT_ACCESS_USER || !(s.cntRings.any fun r => meets va len r.1 r.2)) &&
      decide (g.base ≤ va) && decide (va + len ≤ g.base + g.len) &&
      (ctl || (s.boot.trainDone && !(write && s.releasing))) &&
      (!ctl || allAllowed s write va len)

/-! ### Register words of a request (R355) -/

/-- A run of bytes cut at word boundaries, from address `a` on. -/
def cutWords : Nat → Nat → List Byte → List (Nat × List Byte)
  | 0, _, _ => []
  | _, _, [] => []
  | fuel + 1, a, bs =>
    let n := 8 - a % 8
    (a, bs.take n) :: cutWords fuel (a + n) (bs.drop n)

/-- One piece of a write: a whole word is a register access, part of a word is refused (R14, R355). -/
def writePiece (s : State) (p : Nat × List Byte) : State := writeWindow s false (p.1 - ctlBase) p.2.length (leValue p.2)

/-- The bytes of a write to the control window, the packet's last word kept back when the request goes on. -/
def writeCtlBytes (s : State) (q va : Nat) (bs : List Byte) (final : Bool) : State :=
  let x := s.qp q
  let a := va - x.carry.length
  let all := x.carry ++ bs
  let keep := if final then 0 else (a + all.length) % 8
  let s := s.setQp q { x with carry := all.drop (all.length - keep) }
  let now := all.take (all.length - keep)
  (cutWords (now.length + 1) a now).foldl writePiece s

/-- The data of one packet of a WRITE. -/
def writePacket (s : State) (q va : Nat) (bs : List Byte) (final : Bool) : State :=
  if ctlBase ≤ va then writeCtlBytes s q va bs final else s.storeBytes va bs

/-- A read of the control window, piece by piece. -/
def readPieces (s : State) (ps : List (Nat × Nat)) : List Byte × State :=
  ps.foldl (fun (x : List Byte × State) (p : Nat × Nat) =>
    let r := readWindow x.2 false (p.1 - ctlBase) p.2
    (x.1 ++ leBytes p.2 r.1, r.2)) ([], s)

/-- The rows of memory that a read takes while a release zero-fills: each, whole, as it was or zero (R510). -/
def readReleasing (s : State) (va len : Nat) : List Byte × State :=
  let row (a : Nat) : Nat := (rowStart a - rowStart va) / 64
  let bytes := (List.range len).map fun i =>
    let a := va + i
    if Config.freeValue (s.freeCtr + row a) % 2 == 1 && !keptByte s a then 0 else s.served a
  (bytes, { s with freeCtr := s.freeCtr + (if len = 0 then 0 else row (va + len - 1) + 1) })

/-- The data of a READ (R358). -/
def readData (s : State) (va len : Nat) : List Byte × State :=
  if ctlBase ≤ va then
    readPieces s ((cutWords (len + 1) va (List.replicate len 0)).map fun (p : Nat × List Byte) => (p.1, p.2.length))
  else if s.releasing then readReleasing s va len
  else (s.readOut va len, s)

/-- The packets of a READ response. -/
def readPackets (x : QpSt) (len : Nat) : Nat := max 1 (ceilDiv len x.pmtu)

/-- A READ answered (R358). -/
def answerRead (s : State) (q psn va len : Nat) : State :=
  let r := readData s va len
  r.2.outQp q (readPackets (s.qp q) len) (.readResponse q psn r.1)

/-- Whether an access touches a position that waits for its remap (R23). -/
def accessStalls (s : State) (va len : Nat) : Bool :=
  decide (ctlBase ≤ va) && decide (0 < len) &&
    (List.range ((va + len - 1) / 8 + 1 - va / 8)).any fun k => (loomOfReg ((va / 8 + k) * 8 - ctlBase)).any s.remapPending

/-! ### Requests (R350 to R358) -/

/-- Whether a packet's opcode follows the opcodes before it, and its length its path MTU. -/
def orderOk (x : QpSt) (p : RocePkt) : Bool :=
  let n := p.payload.length
  match p.op with
  | .writeFirst => x.cur.isNone && n == x.pmtu && decide (n < p.len) && decide (p.len ≤ 2 ^ 31)
  | .writeMiddle => (match x.cur with | some (_, _, left) => n == x.pmtu && decide (n < left) | none => false)
  | .writeLast => (match x.cur with | some (_, _, left) => n == left && decide (1 ≤ n) && decide (n ≤ x.pmtu) | none => false)
  | .writeOnly => x.cur.isNone && n == p.len && decide (n ≤ x.pmtu)
  | .readRequest => x.cur.isNone && decide (p.len ≤ 2 ^ 31)
  | .other => false

/-- The next expected PSN. -/
def State.advancePsn (s : State) (q n : Nat) (cur : Option (Nat × Nat × Nat)) : State :=
  let x := s.qp q
  s.setQp q { x with epsn := (x.epsn + n) % 2 ^ 24, cur := cur }

/-- The first packet of a WRITE: its checks, then its data. -/
def writeStarts (s : State) (q : Nat) (p : RocePkt) (granted : Bool) : State :=
  if granted || accessOk s true p.va.toNat p.rkey.toNat p.len then
    let n := p.payload.length
    let final := p.op == .writeOnly
    let x := s.qp q
    let s := writePacket (s.setQp q { x with carry := [] }) q p.va.toNat p.payload final
    let s := s.advancePsn q 1 (if final then none else some (p.va.toNat + n, p.rkey.toNat, p.len - n))
    if final then sendAck s q p.psn.toNat else s
  else accessError s q p.psn.toNat p.va.toNat

/-- A later packet of a WRITE. -/
def writeGoesOn (s : State) (q : Nat) (p : RocePkt) : State :=
  match (s.qp q).cur with
  | none => s
  | some (va, key, left) =>
    let n := p.payload.length
    let final := p.op == .writeLast
    let s := writePacket s q va p.payload final
    let s := s.advancePsn q 1 (if final then none else some (va + n, key, left - n))
    if final then (sendAck s q p.psn.toNat).settleRegion else s

/-- READs that wait unanswered: those of the queue pairs that a test picks. -/
def readsOpen (s : State) (p : Nat → Bool) : Nat :=
  (s.res.stalled.filter fun x => match x with | .packet q m _ => p q && m.op == .readRequest | _ => false).length

/-- Whether a queue pair can take one more READ (R347, R349): MAXRD + 1 at once, and 8,192 on the device. -/
def readRoom (s : State) (q : Nat) : Bool :=
  decide (readsOpen s (· == q) < bitsOf ((s.qp q).ctx.getD 0 0).toNat 28 25 + 1) && decide (readsOpen s (fun _ => true) < 8192)

/-- A READ request. -/
def readStarts (s : State) (q : Nat) (p : RocePkt) (granted : Bool) : State :=
  if granted || accessOk s false p.va.toNat p.rkey.toNat p.len then
    answerRead (s.advancePsn q (readPackets (s.qp q) p.len) none) q p.psn.toNat p.va.toNat p.len
  else accessError s q p.psn.toNat p.va.toNat

/-- A packet whose PSN is the expected one. -/
def inSequence (s : State) (q : Nat) (p : RocePkt) (granted : Bool) : State :=
  let s := s.setQp q { s.qp q with gapNaked := false }
  if !orderOk (s.qp q) p then invalidRequest s q p.psn.toNat
  else match p.op with
    | .writeFirst | .writeOnly => writeStarts s q p granted
    | .writeMiddle | .writeLast => writeGoesOn s q p
    | .readRequest => readStarts s q p granted
    | .other => s

/-- A packet whose PSN lies behind the expected one: a duplicate is acknowledged again and writes nothing; a READ is checked and
answered again. -/
def duplicate (s : State) (q : Nat) (p : RocePkt) (granted : Bool) : State :=
  match p.op with
  | .writeLast | .writeOnly => sendAck s q p.psn.toNat
  | .readRequest =>
    if granted || accessOk s false p.va.toNat p.rkey.toNat p.len then answerRead s q p.psn.toNat p.va.toNat p.len
    else accessError s q p.psn.toNat p.va.toNat
  | _ => s

/-- A packet whose PSN lies ahead of the expected one: a PSN sequence error NAK, once per gap (R352). -/
def outOfSequence (s : State) (q : Nat) : State :=
  let x := s.qp q
  if x.gapNaked then s else sendNak (s.setQp q { x with gapNaked := true }) q x.epsn 0

/-- Picks in which a queue pair gets at most one CNP: 50 µs (R351). -/
def cnpPicks : Nat := 391

/-- A CNP for a packet marked ECN-CE (R351). -/
def answerEcn (s : State) (port q : Nat) (ecn : Bool) : State :=
  let x := s.qp q
  if ecn && s.flag (Reg.HOST_HPCFG_ECN_EN port) && (match x.cnpAt with | some a => decide (a + cnpPicks ≤ s.pick) | none => true) then
    (s.setQp q { x with cnpAt := some s.pick }).outQp q 1 (.cnp q)
  else s

/-- The queue pair of a QPN, when it is bound to the port and can receive (R347, R348). -/
def qpOf (s : State) (port : Nat) (qpn : Nat) : Option Nat :=
  let q := qpn - 0x100
  if 0x100 ≤ qpn ∧ q < 16384 ∧ (s.qp q).port = port ∧ ((s.qp q).state = 2 ∨ (s.qp q).state = 3) then some q else none

/-- What a packet of a queue pair does (R352 to R358). -/
def packetArrives (s : State) (q : Nat) (p : RocePkt) (granted : Bool) : State :=
  let d := (p.psn.toNat + 2 ^ 24 - (s.qp q).epsn) % 2 ^ 24
  if d = 0 then inSequence s q p granted
  else if d < 2 ^ 23 then outOfSequence s q
  else duplicate s q p granted

/-- Whether packets of a queue pair wait for a remap (R23, R358). -/
def packetsWait (s : State) (q : Nat) : Bool := s.res.stalled.any fun x => match x with | .packet r _ _ => r == q | _ => false

/-- Whether a request passes the checks of R354, or is one that takes none of its own. -/
def packetOk (s : State) (p : RocePkt) : Bool :=
  match p.op with
  | .writeFirst | .writeOnly => accessOk s true p.va.toNat p.rkey.toNat p.len
  | .readRequest => accessOk s false p.va.toNat p.rkey.toNat p.len
  | _ => true

/-- Whether the registers that a packet accesses lie in a position that waits for its remap (R23). -/
def packetStalls (s : State) (q : Nat) (p : RocePkt) : Bool :=
  let n := p.payload.length
  match p.op, (s.qp q).cur with
  | .writeFirst, _ | .writeOnly, _ => accessStalls s p.va.toNat n
  | .readRequest, _ => accessStalls s p.va.toNat p.len
  | .writeMiddle, some (va, _, _) | .writeLast, some (va, _, _) =>
    accessStalls s (va - (s.qp q).carry.length) (n + (s.qp q).carry.length)
  | _, _ => false

/-- A packet that waits for a remap, and with it all that its queue pair receives after it (R23, R358); one that waits already is
dropped, and a READ above the limits of R347 is outside the subset (R352; log entry 58). -/
def parkPacket (s : State) (q : Nat) (p : RocePkt) : State :=
  if s.res.stalled.any (fun x => match x with | .packet r m _ => r == q && m.psn == p.psn | _ => false) then s
  else if p.op == .readRequest && !readRoom s q then invalidRequest s q p.psn.toNat
  else { s with res := { s.res with stalled := s.res.stalled ++ [.packet q p (!packetsWait s q && packetOk s p)] } }

/-- A frame that the port drops (R346). -/
def frameDropped (s : State) (port : Nat) : State :=
  if 4 ≤ port then s else s.addSat (Reg.HOST_HPCNT2_DROPPED port) 1

/-- A RoCE packet that arrives (R346 to R358). -/
def roceArrives (s : State) (port : Nat) (p : RocePkt) : State :=
  if 4 ≤ port then s
  else if !s.host.live ∨ 4352 < p.frameLen ∨ 1 < p.tags then frameDropped s port
  else
    let s := s.countRx port
    if !p.icrcOk then s.addSat (Reg.HOST_HPCNT1_ICRC_ERR port) 1
    else match qpOf s port p.qpn.toNat with
      | none => s
      | some q =>
        let s := answerEcn s port q p.ecn
        if packetsWait s q || (packetOk s p && packetStalls s q p) then parkPacket s q p else packetArrives s q p false

/-! ### The requester (R350, R351) -/

/-- Whether an acknowledgement of a PSN covers a message. -/
def OutReq.covered (r : OutReq) (psn : Nat) : Bool := decide ((psn + 2 ^ 24 - r.last) % 2 ^ 24 < 2 ^ 23)

/-- What an acknowledged message brings about. -/
def messageAcked (s : State) (r : OutReq) : State :=
  match r.kind with
  | .mirror _ => s
  | .granule g => { s with host := { s.host with acked := smSet (fun _ => false) s.host.acked g true } }
  | .closing => closingAcked s
  | .past => s

/-- A message of which an acknowledgement may cover the first packets (R350). -/
def OutReq.ackedTo (r : OutReq) (psn : Nat) : OutReq :=
  if (psn + 2 ^ 24 - r.first) % 2 ^ 24 < (r.last + 2 ^ 24 - r.first) % 2 ^ 24 then { r with first := (psn + 1) % 2 ^ 24 } else r

/-- Every packet up to a PSN acknowledged. -/
def ackUpTo (s : State) (q psn : Nat) : State :=
  let x := s.qp q
  let done := x.out.filter (·.covered psn)
  done.foldl messageAcked (s.setQp q { x with out := (x.out.filter fun r => !r.covered psn).map (·.ackedTo psn) })

/-- Every packet from the oldest unacknowledged PSN on sent again (R350). -/
def resendAll (s : State) (q : Nat) (tried : Nat) : State :=
  let x := s.qp q
  let out := x.out.zipIdx.map fun (r, k) => { r with sentAt := s.pick, tries := if k = 0 then r.tries + tried else r.tries }
  x.out.foldl (fun (s : State) (r : OutReq) => s.outQp q ((r.last + 2 ^ 24 - r.first) % 2 ^ 24 + 1) (.resend q r.first))
    (s.setQp q { x with out := out })

/-- ROCE_ACK_RECEIVE (R350): an ACK, or a NAK with its code; code 0 is a PSN sequence error, which acknowledges what comes
before it. It may be marked by congestion (R351). DESIGN CHOICE (log entry 58): the repeat after that NAK counts no try against RETRY,
since R350 counts the repeats after the local ACK timeout. -/
def roceAcked (s : State) (q psn : Nat) (a : RoceAck) : State :=
  if !s.host.live then s
  else
    let s := s.countRx (s.qp q).port
    let s := if (s.qp q).state = 2 ∨ (s.qp q).state = 3 then answerEcn s (s.qp q).port q a.ecn else s
    if (s.qp q).state ≠ 3 then s
    else match a.nak with
    | none => ackUpTo s q psn
    | some 0 => resendAll (ackUpTo s q ((psn + 2 ^ 24 - 1) % 2 ^ 24)) q 0
    | some _ => s.qpFails q 3

/-- Picks of a queue pair's local ACK timeout: 4.096 µs × 2^TIMEOUT (R349). -/
def QpSt.timeout (x : QpSt) : Nat := 32 * 2 ^ bitsOf (x.ctx.getD 0 0).toNat 15 11

/-- RETRY of a queue pair (R349). -/
def QpSt.retry (x : QpSt) : Nat := bitsOf (x.ctx.getD 0 0).toNat 10 8

/-- ROCE_ACK_TIMEOUT (R350). -/
def roceTimeout (s : State) (q : Nat) : State :=
  let x := s.qp q
  match x.out with
  | [] => s
  | r :: _ =>
    if x.state ≠ 3 ∨ s.pick < r.sentAt + x.timeout then s
    else if x.retry ≤ r.tries then s.qpFails q 2
    else resendAll s q 1

/-- CNP_RECEIVE (R351). -/
def cnpArrives (s : State) (q : Nat) : State :=
  let x := s.qp q
  if !s.host.live then s
  else
    let s := (s.setQp q { x with rate := Config.cnpRate x.rate s.host.rateParam }).countRx x.port
    (s.addSat (Reg.HOST_HPCNT1_CNP_RCVD x.port) 1).countEvent (63 + x.port) 6 0 1

/-! ### Ports (R345, R346) -/

/-- The GID of a port. -/
def portGid (s : State) (p : Nat) : Nat := (s.reg (Reg.HOST_HPGID_LO p)).toNat + 2 ^ 64 * (s.reg (Reg.HOST_HPGID_HI p)).toNat

/-- NEIGHBOUR_SOLICITATION (R346): answered for the port's own address; for another address it is a frame to drop. -/
def neighbourAsked (s : State) (port : Nat) (target : Nat) : State :=
  if 4 ≤ port then s
  else if target = portGid s port then s.out (.neighbour port)
  else frameDropped s port

/-- FRAME_DROP (R346): priority flow control acts on its own priority when it is on, for the time of 512 bits of the port's rate a
quantum (PRESUMED from IEEE 802.1Q, log entry 58); every other frame is dropped. -/
def otherFrame (s : State) (port : Nat) (pause : Option (BitVec 3 × BitVec 16)) : State :=
  match pause with
  | some (prio, quanta) =>
    let s := if port < 4 then s.countEvent (63 + port) 7 0 1 else s
    if port < 4 ∧ s.flag (Reg.HOST_HPCFG_PFC_EN port) ∧ s.fld (Reg.HOST_HPCFG_PFC_PRIO port) = prio.toNat then
      { s with host := { s.host with pausedTo := smSet (fun _ => 0) s.host.pausedTo (8 * port + prio.toNat) (s.pick + ceilDiv quanta.toNat 200) } }.flushPaused
    else frameDropped s port
  | none => frameDropped s port

/-- HOST_PORT_LINK_UP (R345). -/
def linkChanges (s : State) (port : Nat) (up : Bool) : State :=
  if 4 ≤ port then s else s.setFld (Reg.HOST_HPSTAT_LINK_UP port) (bit up)

/-! ### Mirrors (R360) -/

/-- The write pointer, the ring's base, its size exponent and the record size of a MIRROR entry's source. -/
def mirrorSource (s : State) (m : Nat) : Option (Nat × Nat × Nat × Nat) :=
  let slot := s.fld (Reg.HOST_MIR_SRC_SLOT m)
  match s.fld (Reg.HOST_MIR_SRC_KIND m) with
  | 1 => some (s.fld (Reg.CTX_CQ_CTL_WPTR slot), (s.reg (Reg.CTX_CQ_BASE slot)).toNat, s.fld (Reg.CTX_CQ_CTL_LOG2N slot), 16)
  | 2 => some (s.fld Reg.FAULT_FR_CTL_WPTR, (s.reg Reg.FAULT_FR_BASE).toNat, s.fld Reg.FAULT_FR_CTL_LOG2N, 64)
  | _ => none

/-- Unacknowledged mirror messages of a queue pair. -/
def mirrorsOut (x : QpSt) : Nat := (x.out.filter fun r => match r.kind with | .mirror _ => true | _ => false).length

/-- RECORD_MIRROR (R360): the next record of an entry's source; one that its ring no longer holds counts as dropped. -/
def mirrorNext (s : State) (m : Nat) : State :=
  match mirrorSource s m with
  | none => s
  | some (wptr, base, log2n, size) =>
    let n := smGet (fun _ => 0) s.host.mirNext m
    if n = wptr then s
    else
      let q := s.fld (Reg.HOST_MIR_SRC_QP m)
      let s := { s with host := { s.host with mirNext := smSet (fun _ => 0) s.host.mirNext m ((n + 1) % 2 ^ 32) } }
      if (s.qp q).state ≠ 3 ∨ 256 ≤ mirrorsOut (s.qp q) ∨ 2 ^ log2n < (wptr + 2 ^ 32 - n) % 2 ^ 32 then s.addSat (Reg.HOST_MIR_DROPS_DROPS m) 1
      else
        rdmaSend s q ((s.reg (Reg.HOST_MIR_ADDR m)).toNat + size * (n % 2 ^ s.fld (Reg.HOST_MIR_SRC_LOG2N m)))
          (s.fld (Reg.HOST_MIR_KEY_RKEY m)) (s.readOut (base + size * (n % 2 ^ log2n)) size) (.mirror m)

end Sys2Proof.Machine
end

