-- ==== Sys2Proof/Machine/Log.lean ====
section
/-! DEFINITION. Log: the flash part (R414) and the event log in it (R465 to R468, R471). -/
namespace Sys2Proof.Machine

/-! ### Flash (R414) -/

/-- A byte of the flash; an erased byte reads 0xFF (log entry 6). -/
def State.flashByte (s : State) (a : Nat) : Byte := smGet (fun _ => 0xFF) s.flash a
/-- `n` bytes of the flash. -/
def State.flashBytes (s : State) (a n : Nat) : List Byte := (List.range n).map fun k => s.flashByte (a + k)
/-- A little-endian value in the flash. -/
def State.flashVal (s : State) (a n : Nat) : Nat := leValue (s.flashBytes a n)
/-- Bytes programmed into the flash. -/
def State.program (s : State) (a : Nat) (bs : List Byte) : State :=
  { s with flash := bs.zipIdx.foldl (fun (m : SMap Byte) (p : Byte × Nat) => smSet (fun _ => 0xFF) m (a + p.2) p.1) s.flash }
/-- A range of the flash erased. -/
def State.eraseFlash (s : State) (lo hi : Nat) : State :=
  { s with flash := s.flash.filter fun p => !(decide (lo ≤ p.1) && decide (p.1 < hi)) }

/-- The firmware region, the log ring and the configuration region (R414): start and size. -/
def fwRegion : Nat × Nat := (0, 0x1800000)
/-- The event log ring. -/
def logBase : Nat := 0x1800000
/-- The configuration region. -/
def cfgRegion : Nat × Nat := (0x1C00000, 0x2400000)

/-! ### The event log (R465 to R467) -/

/-- Entries of the ring. -/
def logSlots : Nat := 16384

/-- The flash offset of an entry. -/
def logAt (seq : Nat) : Nat := logBase + 256 * (seq % logSlots)

/-- The chain value before the first entry (R466): the hash of "BRODYAR-LOG" and the UID. -/
def logGenesis (s : State) : List Byte :=
  shake256 32 ([0x42, 0x52, 0x4F, 0x44, 0x59, 0x41, 0x52, 0x2D, 0x4C, 0x4F, 0x47] ++ leBytes 16 s.fuseUid)

/-- Bytes 0 to 223 of an entry (R465). -/
def logHeadBytes (e : LogEntry) (seq : Nat) : List Byte :=
  let d := e.data.take 192
  leBytes 8 seq ++ leBytes 8 e.pick ++ leBytes 2 e.code ++ leBytes 1 e.sev ++ [0] ++ leBytes 4 d.length ++ d ++
    List.replicate (192 - d.length) 0 ++ List.replicate 8 0

/-- The chain value that the next entry continues (R466). -/
def State.chainBefore (s : State) : List Byte := match s.mgmt.logSeq with | some _ => s.mgmt.logChain | none => logGenesis s

/-- The SEQ of the next entry. -/
def State.nextSeq (s : State) : Nat := match s.mgmt.logSeq with | some n => n + 1 | none => 0

/-- An entry written into the ring (R465 to R467): its sector is erased before its first entry. -/
def State.writeEntry (s : State) (e : LogEntry) : State :=
  let seq := s.nextSeq
  let head := logHeadBytes e seq
  let chain := shake256 32 (s.chainBefore ++ head)
  let a := logAt seq
  let s := if seq % 256 = 0 then s.eraseFlash a (a + 65536) else s.eraseFlash a (a + 256)
  let s := s.program a (head ++ chain)
  { s with mgmt := { s.mgmt with logSeq := some seq, logChain := chain } }

/-- A certificate chain cut into the parts of its CERT events (R471). -/
def certParts : Nat → List Byte → List (List Byte)
  | 0, _ => []
  | _, [] => []
  | n + 1, bs => bs.take 192 :: certParts n (bs.drop 192)

/-- A copy of a certificate chain to be written into the log (R471). -/
def State.queueChain (s : State) (c : List Byte) : State :=
  { s with mgmt := { s.mgmt with certNew := c, certQ := certParts (c.length / 192 + 1) c, certSeq := none } }

/-- The next part of a certificate chain written as a CERT event. -/
def State.writeCert (s : State) (part : List Byte) (rest : List (List Byte)) : State :=
  let seq := s.nextSeq
  let start := s.mgmt.certSeq.getD seq
  let s := s.writeEntry { pick := s.pick, code := 0x0007, sev := 0xFF, data := part }
  let m := { s.mgmt with certQ := rest, certSeq := some start }
  { s with mgmt := if rest = [] then { m with chain := m.certNew, chainSeq := some start } else m }

/-- The newest complete copy of the chain begins more than 8,192 entries before the head: it is written again (R471). -/
def State.renewChain (s : State) : State :=
  match s.mgmt.chainSeq with
  | some c => if s.mgmt.certQ = [] ∧ c + 8192 < s.nextSeq - 1 then s.queueChain s.mgmt.chain else s
  | none => s

/-- LOG_ENTRY_WRITE (R467): the oldest buffered entry, else the next part of a chain; entries formed before the end of CONFIG
wait for it. A loss is then recorded. -/
def writeLog (s : State) : State :=
  if !s.boot.configEnded ∨ s.mgmt.heldReset then s
  else
    match s.mgmt.logBuf, s.mgmt.certQ with
    | e :: rest, _ =>
      let s := ({ s with mgmt := { s.mgmt with logBuf := rest } }).writeEntry e
      let s := if s.mgmt.logLost = 0 then s
        else ({ s with mgmt := { s.mgmt with logLost := 0 } }).logEvent 0x0008 0xFF (leBytes 4 s.mgmt.logLost)
      s.renewChain
    | [], part :: rest => (s.writeCert part rest).renewChain
    | [], [] => s

/-- The entry of a ring slot, when it is not erased: its SEQ, its 224 bytes and its CHAIN. -/
def State.logSlot (s : State) (k : Nat) : Option (Nat × List Byte × List Byte) :=
  let bs := s.flashBytes (logBase + 256 * k) 256
  if bs.all (· == 0xFF) then none else some (leValue (bs.take 8), bs.take 224, bs.drop 224)

/-- Whether the entry of a ring slot verifies against its predecessor (R467). -/
def State.logVerifies (s : State) (k : Nat) : Bool :=
  match s.logSlot k with
  | none => false
  | some (seq, head, chain) =>
    let prev := if seq = 0 then logGenesis s else s.flashBytes (logBase + 256 * ((k + logSlots - 1) % logSlots) + 224) 32
    decide (seq % logSlots = k) && chain == shake256 32 (prev ++ head)

/-- The newest entry that verifies. -/
def State.logNewest (s : State) : Option Nat :=
  (List.range logSlots).foldl (fun (best : Option Nat) k =>
    if s.logVerifies k then
      let seq := s.flashVal (logBase + 256 * k) 8
      (match best with | some b => some (max b seq) | none => some seq)
    else best) none

/-- The scan of the ring at power-good (R467): the log goes on from the newest entry that verifies; a torn entry after it, any but the one
that the ring held a whole round before, is logged. -/
def State.scanLog (s : State) : State :=
  if s.flash.all fun p => decide (p.1 < logBase) || decide (cfgRegion.1 ≤ p.1) then s
  else
    let newest := s.logNewest
    let s := match newest with
      | some n => { s with mgmt := { s.mgmt with logSeq := some n, logChain := s.flashBytes (logAt n + 224) 32 } }
      | none => s
    match s.logSlot (s.nextSeq % logSlots) with
    | some (seq, _, _) => if seq + logSlots ≠ s.nextSeq then s.logEvent 0x0009 0xFF (leBytes 8 s.nextSeq) else s
    | none => s

end Sys2Proof.Machine
end

