-- ==== Sys2Proof/Machine/Boot.lean ====
section
/-! DEFINITION. Boot: power-good and the bring-up phases (R410 to R433, R491, R492). -/
namespace Sys2Proof.Machine

/-! ### Power-good (R412, R491, R492) -/

/-- FUSE starts (R491); the log is scanned (R467). -/
def State.startFuse (s : State) : State :=
  ({ s with boot := { s.boot with on := true, running := true } }).scanLog

/-- POWER_GOOD_RISE (R491). -/
def goodRises (s : State) : State :=
  let s := { s with boot := { s.boot with pwrGood := true } }
  if !s.boot.on ∧ s.boot.railsOk then s.startFuse else s

/-- RAILS_IN_RANGE (R491). -/
def railsReady (s : State) : State :=
  let s := { s with boot := { s.boot with railsOk := true } }
  if !s.boot.on ∧ s.boot.pwrGood then s.startFuse else s

/-- POWER_GOOD_FALL (R412, R492): every state is lost but the fuses and the flash. -/
def goodFalls (s : State) : State :=
  { State.reset with
    fuses := s.fuses, flash := s.flash, outbox := s.outbox, pending := s.pending, freeCtr := s.freeCtr
    boot := { pwrGood := false, railsOk := false, on := false, running := false }
    mgmt := { badRegion := s.mgmt.badRegion, chain := s.mgmt.chain, chainSeq := s.mgmt.chainSeq } }

/-- Whether a phase runs; cores held in reset run none (R451). -/
def State.inPhase (s : State) (p : Nat) : Bool :=
  s.boot.on && s.boot.running && !s.mgmt.heldReset && s.fld Reg.GCTL_DEV_STATE_PHASE == p

/-- Bring-up stops in its phase. -/
def State.stopBoot (s : State) : State := { s with boot := { s.boot with running := false } }

/-! ### FUSE (R416, R417) -/

/-- The active looms of a grade (R20, R21). -/
def gradeLooms (g : Nat) : Nat := if g = 0 then 80 else 64
/-- The ports of a grade. -/
def gradePorts (g : Nat) : Nat := if g = 0 then 18 else 12

/-- Whether the role counts of every die match the grade (R20). -/
def rolesMatch (g roles : Nat) : Bool :=
  (List.range 4).all fun d => (physWith roles d 0).length == gradeLooms g / 4 && (physWith roles d 1).length == 2 &&
    (physWith roles d 2).length == 20 - gradeLooms g / 4

/-- The FUSE_SUM that the fuses give (R39, R416); the number of repairs burned is open (log entry 1). -/
def State.fuseSum (s : State) (rolesOk : Bool) : State :=
  let f := s.fuses
  let n := s.free
  let s := n.2
  ((((s.setFld Reg.GCTL_FUSE_SUM_TRIM_OK (bit f.trim.value?.isSome)).setFld Reg.GCTL_FUSE_SUM_IDENT_OK (bit (f.seed.value?.isSome && f.uid.value?.isSome))).setFld
    Reg.GCTL_FUSE_SUM_ROLES_OK (bit rolesOk)).setFld Reg.GCTL_FUSE_SUM_FUSE_REV ((f.rev.value?).getD 0)).setFld
    Reg.GCTL_FUSE_SUM_HBM_REPAIRS (if f.repair.value?.isSome then n.1 else 0)

/-- One logical loom's place (R21, R39, R135). -/
def State.placeLoom (s : State) (roles l : Nat) : State :=
  let die := s.dieOf l
  let phys := (physWith roles die 0).getD (l % (s.nLooms / 4)) 0
  let s := s.setReg (Reg.GCTL_LMAP (l / 8)) (BitVec.ofNat 64
    (setBits (s.reg (Reg.GCTL_LMAP (l / 8))).toNat (8 * (l % 8) + 7) (8 * (l % 8)) (phys + 0x80)))
  ((s.setFld (Reg.LOOM_LOOM_ID_LOGICAL l) l).setFld (Reg.LOOM_LOOM_ID_PHYS l) phys).setFld (Reg.LOOM_LOOM_ID_DIE l) die

/-- The GCTL, LOOM and WVN values of a good set of fuses (R3, R21, R39, R344). -/
def State.loadFuses (s : State) (g roles uid : Nat) : State :=
  let s := (s.setFld Reg.GCTL_ID_PART (if g = 0 then 0x9640 else 0x9632)).setFld Reg.GCTL_ID_STEPPING 0xA0
  let s := (s.setReg Reg.GCTL_UID0 (BitVec.ofNat 64 uid)).setReg Reg.GCTL_UID1 (BitVec.ofNat 64 (uid / 2 ^ 64))
  let s := (((s.setFld Reg.GCTL_GRADE_ACTIVE_LOOMS (gradeLooms g)).setFld Reg.GCTL_GRADE_PORTS (gradePorts g)).setFld
    Reg.GCTL_GRADE_SPARES 8).setFld Reg.GCTL_GRADE_GRADE g
  let s := s.setFld Reg.WVN_WVN_STAT_NPORTS (gradePorts g)
  (List.range (gradeLooms g)).foldl (fun s l => s.placeLoom roles l) s

/-- Whether GRADE and ROLES are valid and the role counts match the grade (R417). -/
def Fuses.rolesOk (f : Fuses) : Bool :=
  match f.grade.value?, f.roles.value? with
  | some g, some roles => decide (g ≤ 1) && rolesMatch g roles
  | _, _ => false

/-- The fused trims in force, or the ROM's where TRIM is invalid (R417), with the guard of R427 in mV. -/
def State.fusedTrims (s : State) (guard : Nat) : State :=
  let v := s.fuses.trim.value?
  { s with boot := { s.boot with droop := (v.map Config.trimDroop).getD Config.romDroop, laneEq := (v.map Config.trimEq).getD Config.romEq
                                 droopGuard := guard } }

/-- FUSE (R417). -/
def fuses (s : State) : State :=
  if s.inPhase 0 then
    let f := s.fuses
    let fail (s : State) (d : Nat) : State := (s.raiseDevice 0x0802 d).stopBoot
    let s := (s.fuseSum f.rolesOk).fusedTrims 0
    match f.grade.value?, f.roles.value?, f.uid.value? with
    | some g, some roles, some uid =>
      if !f.rolesOk then fail s 16
      else if f.seed.value?.isNone then fail s 17
      else (s.loadFuses g roles uid).setPhase 1
    | _, _, _ => fail s 16
  else s

/-! ### VERIFY (R418 to R420) -/

/-- Bits set in FW_SVN_MIN (R416). -/
def Fuses.svnCount (f : Fuses) : Nat := ((List.range 64).filter (bitAt (f.svnMin ||| f.svnMinB))).length
/-- The revoked keys. -/
def Fuses.revoked (f : Fuses) : Nat := (f.revoke ||| f.revokeB) % 16
/-- OWNER_HASH, zero when it is invalid (R417). -/
def Fuses.ownerHash (f : Fuses) : Nat := (f.owner.value?).getD 0

/-- The bytes of a signature (R418, R421). -/
def sigBytes : Nat := 29792

/-- The first check of R419 that firmware header bytes fail, as R420 numbers them: 1 header, 2 key, 3 SVN. -/
def fwHeaderFault (f : Fuses) (h : List Byte) : Option Nat :=
  let v (o n : Nat) : Nat := leValue ((h.drop o).take n)
  if v 0 8 ≠ 0x3157465944425346 ∨ fwRegion.2 < v 8 4 ∨ v 8 4 < 64 + sigBytes ∨ 4 ≤ v 16 1 then some 1
  else if bitAt f.revoked (v 16 1) then some 2
  else if v 12 4 < f.svnCount then some 3
  else none

/-- The identity key pair that the SHAKE accelerator derives from IDENT_SEED (R469): SLH-DSA's own key generation stands outside the
spec, but that a private key ends with its public key (PRESUMED, log entry 15). -/
def identityPair (seed : Nat) : List Byte × List Byte :=
  let pk := openBytes 64 14 seed
  (pk, openBytes 64 19 seed ++ pk)

/-- Grembedun's part of the firmware in flash, as the SRAM of HD0 holds it (R450). -/
def State.grembedunImage (s : State) : List Byte := (Config.grembedunPart (s.flashBytes 0 (s.flashVal 8 4))).take 0x200000

/-- What VERIFY records of the image it accepts (R419, R450, R469). -/
def State.recordFirmware (s : State) : State :=
  { s with boot := { s.boot with svn := s.flashVal 12 4, keyIdx := s.flashVal 16 1
                                 fwDigest := leValue (shake256 32 (s.flashBytes 0 (s.flashVal 8 4)))
                                 sramDigest := leValue (shake256 32 s.grembedunImage)
                                 identity := some (identityPair ((s.fuses.seed.value?).getD 0)) }
           mgmt := { s.mgmt with sram := s.grembedunImage, fwWritten := false } }

/-- VERIFY (R419, R420). -/
def verifies (s : State) (sigOk : Bool) : State :=
  if s.inPhase 1 then
    let fault := match fwHeaderFault s.fuses (s.flashBytes 0 64) with
      | some d => some d
      | none => if sigOk && !s.mgmt.badRegion.contains 1 then none else some 4
    match fault with
    | some d => ({ s with boot := { s.boot with recovery := true } }.raiseDevice 0x0801 d).stopBoot
    | none => s.recordFirmware.setPhase 2
  else s

/-! ### CONFIG (R421 to R424) -/

/-- A field of the configuration image. -/
def State.cfgVal (s : State) (o n : Nat) : Nat := s.flashVal (cfgRegion.1 + o) n

/-- The header of the configuration image is valid (R423, check 2). -/
def cfgHeaderOk (s : State) : Bool :=
  let len := s.cfgVal 12 4
  s.cfgVal 0 8 == 0x3130474643594442 && s.cfgVal 8 2 == 1 && decide (len ≤ cfgRegion.2) && decide (128 + sigBytes ≤ len) &&
    (s.flashBytes (cfgRegion.1 + 16) 48).all (· == 0)

/-- A directory entry: TYPE, OFFSET, LENGTH. -/
def cfgEntry (s : State) (n : Nat) : Nat × Nat × Nat :=
  (s.cfgVal (128 + 16 * n) 4, s.cfgVal (132 + 16 * n) 4, s.cfgVal (136 + 16 * n) 4)

/-- The directory's entries. -/
def cfgEntries (s : State) : List (Nat × Nat × Nat) := (List.range (s.cfgVal 10 2)).map (cfgEntry s)

/-- The first entry of the directory that is unsound: its TYPE unknown or met before, its section outside the image or over an earlier
one (R423, check 5). -/
def badEntry (s : State) : Option Nat :=
  let len := s.cfgVal 12 4
  let es := cfgEntries s
  let known (t : Nat) : Bool := (decide (1 ≤ t) && decide (t ≤ 8) && t != 4) || (t % 2 ^ 24 == 4 && decide (t / 2 ^ 24 < 4))
  (List.range es.length).find? fun i =>
    let a := es.getD i (0, 0, 0)
    !known a.1 || decide (len - sigBytes < a.2.1 + a.2.2) || (es.take i).any fun b =>
      a.1 == b.1 || !(decide (a.2.1 + a.2.2 ≤ b.2.1) || decide (b.2.1 + b.2.2 ≤ a.2.1))

/-- The directory is sound (R423, check 5). -/
def directoryOk (s : State) : Bool :=
  let es := cfgEntries s
  decide (1 ≤ es.length) && decide (es.length ≤ 64) && (badEntry s).isNone && [1, 2, 3, 5, 6].all (fun t => es.any (·.1 == t)) &&
    es.any (·.1 % 2 ^ 24 == 4)

/-- The first directory entry whose reserved bits are not 0 (R421; R423, check 6). -/
def reservedEntry (s : State) : Option Nat := (List.range (s.cfgVal 10 2)).find? fun n => s.cfgVal (140 + 16 * n) 4 != 0

/-- The decoded sections as the directory places them (R422): TYPE gives each schedule its index, and a section that is absent sets
nothing. -/
def seated (s : State) (c : ConfigData) : ConfigData :=
  let types := (cfgEntries s).map (·.1)
  { c with schedules := ((types.filter (· % 2 ^ 24 == 4)).zip c.schedules).map fun x => { x.2 with index := x.1 / 2 ^ 24 }
           spareThreshold := if types.contains 7 then c.spareThreshold else none, watch := if types.contains 8 then c.watch else [] }

/-- Dies of a compute die that a BEAM_MODE value puts in cache mode. -/
def cacheDies (m : Nat) : Nat := ((List.range 6).filter (bitAt m)).length

/-- The fields of a section, by its TYPE, are in range (R423, check 6). -/
def sectionOk (c : ConfigData) (type : Nat) : Bool :=
  match type with
  | 1 => decide (1800 ≤ c.capW) && decide (c.capW ≤ 3200) && decide (c.slack < 2 ^ 24) && decide (c.waitLimit < 2 ^ 24) &&
      c.beamMode.all fun m => decide (m < 64) && decide (cacheDies m ≤ 3)
  | 2 => decide (c.ownPriority < 256) && decide (c.holdoverLimit < 2 ^ 48)
  | 3 => decide (1000 ≤ c.trainTimeout) && decide (c.trainTimeout ≤ 1500)
  | 5 => decide (c.anchors.length ≤ 8)
  | 6 => c.hostPorts.all fun p => decide (p.mode ≤ 1) && decide (p.pfcPrio < 8)
  | _ => true

/-- Every field is in range, one schedule for each of its `n` sections (R423, check 6). -/
def cfgRangeOk (c : ConfigData) (n : Nat) : Bool := c.rangeOk && c.schedules.length == n && [1, 2, 3, 5, 6].all (sectionOk c)

/-- A flow names no port at or above the grade's count (R423, check 7); 31 in IN_PORT or ALT_IN names none (R319). -/
def flowPortsOk (ports : Nat) (f : FlowEntry) : Bool :=
  let none_ (p : Nat) : Bool := p == 31 || decide (p < ports)
  (maskPorts f.outMask).all (· < ports) && decide (f.altOut < ports) && decide (f.revPort < ports) && none_ f.inPort && none_ f.altIn

/-- A schedule is sound by itself, and carries the BOLT_SIZE of the first (R423, check 7). -/
def scheduleOk (c : ConfigData) (ports : Nat) (sc : Schedule) : Bool :=
  sc.boltSize == ((c.schedules.head?).map (·.boltSize)).getD 0 && decide (sc.flows.length ≤ 16384) && decide (sc.windows.length ≤ 64) &&
    sc.slots.all (fun e => decide (e.1 / 8192 < ports) && (slotKind e.2 != 1 || sc.flows.any (·.flow == slotFlow e.2))) &&
    sc.neighbours.all (fun n => decide (n.1 < ports)) && sc.flows.all (flowPortsOk ports) &&
    sc.windows.all fun w => decide (1 ≤ w.length) && decide (w.length ≤ 8192)

/-- SEL_BOOT names a schedule of the image (R423, check 7). -/
def selBootOk (c : ConfigData) : Bool := c.schedules.any (·.index == c.selBoot)

/-- Every schedule is sound (R423, check 7). -/
def cfgSchedulesOk (c : ConfigData) (ports : Nat) : Bool := selBootOk c && c.schedules.all (scheduleOk c ports)

/-- The check of R423 that decides. -/
def cfgFault (s : State) (c : ConfigData) (sigOk : Bool) : Option Nat :=
  if s.fuses.ownerHash = 0 then some 1
  else if !cfgHeaderOk s then some 2
  else if leValue (shake256 32 (s.flashBytes (cfgRegion.1 + 64) 64)) ≠ s.fuses.ownerHash then some 3
  else if !sigOk || s.mgmt.badRegion.contains 2 then some 4
  else if !directoryOk s then some 5
  else if !cfgRangeOk c ((cfgEntries s).filter (·.1 % 2 ^ 24 == 4)).length || (reservedEntry s).isSome then some 6
  else if !cfgSchedulesOk c s.nPorts then some 7
  else if c.anchors = [] then some 8
  else none

/-- The byte of the header that check 2 of R423 fails on. -/
def badHeaderByte (s : State) : Nat :=
  if s.cfgVal 0 8 ≠ 0x3130474643594442 then 0
  else if s.cfgVal 8 2 ≠ 1 then 8
  else match (List.range 48).find? (fun k => s.flashByte (cfgRegion.1 + 16 + k) != 0) with
    | some k => if s.cfgVal 12 4 ≤ cfgRegion.2 ∧ 128 + sigBytes ≤ s.cfgVal 12 4 then 16 + k else 12
    | none => 12

/-- The SCHEDULE section at directory entry `n` is unsound (R423, check 7): the schedules stand in the order of their sections. -/
def badScheduleAt (s : State) (c : ConfigData) (n : Nat) : Bool :=
  let k := (((cfgEntries s).take n).filter (·.1 % 2 ^ 24 == 4)).length
  (cfgEntry s n).1 % 2 ^ 24 == 4 && match c.schedules[k]? with
    | some sc => !scheduleOk c s.nPorts sc
    | none => false

/-- The first section of the directory that check 6 or 7 of R423 fails on, as far as the model has its fields. -/
def badSection (s : State) (c : ConfigData) (d : Nat) : Option Nat :=
  (List.range (cfgEntries s).length).find? fun n =>
    let type := (cfgEntry s n).1
    if d = 6 then !sectionOk c type else badScheduleAt s c n || (type == 3 && !selBootOk c)

/-- Detail words 1 and 2 of CONFIG_INVALID (R423): the directory index of the section concerned and the byte offset. The section where
a field outside the model is at fault, and the byte inside a section, are the image's: `sect` and `off` (log entry 61). -/
def cfgDetail (s : State) (c : ConfigData) (d sect off : Nat) : Nat × Nat :=
  match d with
  | 2 => (0xFFFF, badHeaderByte s)
  | 3 => (0xFFFF, 64)
  | 4 => (0xFFFF, s.cfgVal 12 4 - sigBytes)
  | 5 => match badEntry s with
    | some n => (n, 128 + 16 * n)
    | none => (0xFFFF, 10)
  | 6 => match reservedEntry s with
    | some n => (n, 140 + 16 * n)
    | none => ((badSection s c 6).getD sect, off)
  | 7 => ((badSection s c 7).getD sect, off)
  | 8 => match (cfgEntries s).findIdx? (·.1 == 5) with
    | some n => (n, (cfgEntry s n).2.1)
    | none => (0xFFFF, off)
  | _ => (0xFFFF, off)

/-- The values of the sections TIME and DEVICE (R422). -/
def State.loadTimeConfig (s : State) (c : ConfigData) : State :=
  let s := (s.setFld Reg.PWR_CAP_CAP_W c.capW).setFld Reg.TIME_PRIO_OWN_PRIORITY c.ownPriority
  let s := s.setFld Reg.TIME_HOLDOVER_LIMIT_LIMIT c.holdoverLimit
  (List.range s.nPorts).foldl (fun s p => s.setFld (Reg.TIME_PTIME_ASYM p) (c.asym.getD p 0).toNat) s

/-- The values of the sections WEAVEN, SCHEDULE and TRUST (R422, R344). -/
def State.loadFabricConfig (s : State) (c : ConfigData) : State :=
  let s := { s with wvn := { s.wvn with schedules := c.schedules, anchors := c.anchors, trainTimeout := c.trainTimeout, laneBerLimit := c.laneBerLimit, injAllow := c.injAllow }
                    boot := { s.boot with swatchKeys := c.swatchKeys } }
  let s := (s.setFld Reg.WVN_WVN_STAT_PRESENT (c.schedules.foldl (fun n sc => n ||| 2 ^ sc.index) 0)).setFld Reg.WVN_WVN_STAT_SCHED c.selBoot
  let s := s.setFld Reg.WVN_SCHED_SEL_SEL c.selBoot
  match c.schedules.find? (·.index == c.selBoot) with
  | some sc => (List.range 4).foldl (fun s w => s.setReg (Reg.WVN_BOLT_HASH w) (BitVec.ofNat 64 (sc.hash.toNat >>> (64 * w)))) s
  | none => s

/-- One host port's values (R422). -/
def State.loadHostPort (s : State) (p : Nat) (h : HostPortCfg) : State :=
  let s := (s.setFld (Reg.HOST_HPSTAT_MODE p) h.mode).setFld (Reg.HOST_HPMAC_MAC p) h.mac
  let s := (s.setReg (Reg.HOST_HPGID_LO p) (BitVec.ofNat 64 h.gid.toNat)).setReg (Reg.HOST_HPGID_HI p) (BitVec.ofNat 64 (h.gid.toNat / 2 ^ 64))
  ((s.setFld (Reg.HOST_HPCFG_PFC_PRIO p) h.pfcPrio).setFld (Reg.HOST_HPCFG_PFC_EN p) (bit h.pfcEn)).setFld (Reg.HOST_HPCFG_ECN_EN p) (bit h.ecnEn)

/-- The values of the section HOST (R422, R356). -/
def State.loadHostConfig (s : State) (c : ConfigData) : State :=
  let s := (c.hostPorts.zipIdx.take 4).foldl (fun (s : State) (x : HostPortCfg × Nat) => s.loadHostPort x.2 x.1) s
  let s := (List.range 32).foldl (fun s i => s.setReg (Reg.HOST_ALLOW i) (c.allow.getD i 0)) s
  { s with host := { s.host with rateParam := c.rate, live := true } }

/-- CONFIG's end (R410, R412): with BOOT_MODE HOLD the device waits in MGMT. -/
def State.configEnds (s : State) (c : ConfigData) : State :=
  let len := s.cfgVal 12 4
  let s := { s with boot := { s.boot with
    configEnded := true, cfg := some c, hold := c.bootHold, soakSkip := c.soakSkip, spareThreshold := c.spareThreshold.getD 1024
    cfgDigest := leValue (shake256 32 (s.flashBytes cfgRegion.1 len)), ownerPk := s.cfgVal 64 64 } }
  let s := ((s.loadTimeConfig c).loadFabricConfig c).loadHostConfig c
  let s := s.configDies.elect
  if c.bootHold then s.stopBoot else s.startTrain

/-- CONFIG (R423, R424). -/
def configures (s : State) (c : ConfigData) (sigOk : Bool) (sect off : Nat) : State :=
  if s.inPhase 2 && !s.boot.configEnded then
    let c := seated s c
    match cfgFault s c sigOk with
    | some d => (s.raiseDevice 0x0802 d (cfgDetail s c d sect off).1 (cfgDetail s c d sect off).2).stopBoot
    | none => s.configEnds c
  else s

/-! ### TRAIN and SOAK (R425 to R427) -/

/-- Memories zero-filled (R425). -/
def State.zeroAll (s : State) : State :=
  { s with mem := [], badWords := [], imem := [], rowErrs := [], chanErrs := [], sparing := [] }

/-- TEMP_TRAIN of a stack (R263, R425). -/
def State.trainedAt (s : State) (k : Nat) (t : Int) : State :=
  let d := k / 3
  let i := k % 3
  ((s.setFld (Reg.HTAB_HBM_STAT_TEMP_NOW d i) (ofSigned 8 t)).setFld (Reg.HTAB_HBM_STAT_TEMP_TRAIN d i) (ofSigned 8 t)).setFld
    (Reg.HTAB_HBM_STAT_TRAIN_DUE d i) 0

/-- HBM_REPAIR applied to the stacks, and the treadle cores loaded from the firmware (R425); where HBM_REPAIR is invalid, TRAIN repairs
the rows that it finds failing, and they count (R264, R417). -/
def State.repairStacks (s : State) (rows : List Nat) : State :=
  let v := s.fuses.repair.value?
  let s := { s with boot := { s.boot with repair := v, treadle := some s.boot.fwDigest } }
  if v.isSome then s
  else (rows.zipIdx.take 12).foldl (fun (s : State) (x : Nat × Nat) => s.addSat (Reg.HTAB_HBM_STAT_ROW_REPAIRS (x.2 / 3) (x.2 % 3)) x.1) s

/-- TRAIN (R425); records held go into the ring when it is enabled already (R413). -/
def trains (s : State) (failed : List Nat) (r : TrainResult) : State :=
  if s.inPhase 3 then
    let bad := failed.filter (· < 12)
    if bad ≠ [] then (bad.foldl (fun s k => s.raiseDevice 0x0301 k 1 (q := some (k / 3))) s).stopBoot
    else
      let s := (r.temps.zipIdx.take 12).foldl (fun (s : State) (x : Int × Nat) => s.trainedAt x.2 x.1) (s.zeroAll.repairStacks r.rows)
      let s := { s with boot := { s.boot with trainDone := true } }
      (if s.ringOn then s.flushHeld else s).setPhase 4
  else s

/-- CAL_LIGHT sets (R427): the fused trims or the ROM's stand, and the droop detectors fire 20 mV above them. -/
def State.calLight (s : State) (detail : Nat) : State :=
  let s := s.fusedTrims 20
  let s := if s.flag Reg.GCTL_DEV_STATE_CAL_LIGHT then s else (s.setFld Reg.GCTL_DEV_STATE_CAL_LIGHT 1).stateEvent 134 1
  (s.advise 0x0803 detail).showCeilings

/-- Whether any schedule of the image names a neighbour on a port (R428). -/
def hasNeighbour (s : State) (p : Nat) : Bool := s.wvn.schedules.any fun sc => sc.neighbours.any (·.1 == p)

/-- LINK begins (R428, R471): the ports train, and the chain in the log comes into use. -/
def State.startLink (s : State) : State :=
  let s := { s with mgmt := { s.mgmt with linkChain := s.mgmt.chain } }
  (List.range s.nPorts).foldl (fun s p => if hasNeighbour s p then (s.portTo p 1).setPort p { trainAt := s.pick, eq := s.boot.laneEq.getD p [] } else s) s

/-- SOAK's results in force (R426): a CAL_LIGHT of an earlier bring-up clears (R427). -/
def State.soaked (s : State) (r : SoakResult) : State :=
  let s := { s with boot := { s.boot with droop := r.droop, droopGuard := 0, laneEq := r.eq } }
  if s.flag Reg.GCTL_DEV_STATE_CAL_LIGHT then ((s.setFld Reg.GCTL_DEV_STATE_CAL_LIGHT 0).stateEvent 134 0).showCeilings else s

/-- SOAK (R426, R427). -/
def soaks (s : State) (failed : Option Nat) (r : SoakResult) : State :=
  if s.inPhase 4 then
    let s := if s.boot.soakSkip then s.calLight 1
      else match failed with
        | some d => s.calLight d
        | none => s.soaked r
    s.startLink.setPhase 5
  else s

/-! ### LINK to RELEASE (R428 to R431) -/

/-- Whether a port no longer holds LINK: authenticated, ABSENT, QUARANTINED, or not trained. -/
def linkSettled (s : State) (p : Nat) : Bool :=
  let st := s.portState p
  st != 1 && (st != 2 || (s.port p).keyed)

/-- LINK ends (R428). -/
def links (s : State) : State :=
  if s.inPhase 5 && (List.range s.nPorts).all (linkSettled s) then s.setPhase 6 else s

/-- TIME ends (R429). -/
def times (s : State) : State := if s.inPhase 6 && (s.sync == 2 || s.sync == 5) then s.setPhase 7 else s

/-- WEAVE (R430): the schedule is installed, and each authenticated port whose partner's hash has arrived is checked; any other stays
pending. -/
def weaves (s : State) : State :=
  if s.inPhase 7 then
    match s.wvn.schedules.find? (·.index == (s.boot.cfg.map (·.selBoot)).getD 0) with
    | some sc => ((List.range s.nPorts).foldl checkHash (installSchedule s sc)).setPhase 8
    | none => s
  else s

/-- RELEASE (R431). -/
def releases (s : State) (durations : List Nat) : State :=
  if s.inPhase 8 then ((s.setDevState 3).logEvent 0x0001 0xFF (durations.flatMap (leBytes 4))).stopBoot else s

end Sys2Proof.Machine
end

