-- ==== Sys2Proof/Machine/Mgmt.lean ====
section
/-! DEFINITION. Mgmt: Grembedun's management services (R450 to R475). -/
namespace Sys2Proof.Machine

/-! ### What is served (R455, R456) -/

/-- What the management endpoints answer. -/
inductive Service where
  | silent | control | recovery | full
  deriving DecidableEq, Repr

/-- The services of the present state (R451, R455). -/
def State.service (s : State) : Service :=
  if !s.boot.on || s.mgmt.heldReset then .silent
  else if s.boot.recovery then .recovery
  else if s.fld Reg.GCTL_DEV_STATE_PHASE ≤ 1 then .control
  else .full

/-- A reply to a requester. -/
def State.reply (s : State) (ep : Endpoint) (code : Nat) (data : List Byte := []) : State :=
  s.transmitMsg ep code data (.reply ep code data)

/-- Whether a sideband frame is one the port takes (R454): a UDP datagram to the port's own addresses, to or from port 8013,
whose header has VERSION 1 and the LENGTH of the packet that follows. -/
def State.takesFrame (s : State) (f : SidebandFrame) : Bool :=
  f.udp && f.mac == s.sidebandMac && f.ip == s.sidebandIp && (f.toPort == 8013 || f.fromPort == 8013) &&
    f.version == 1 && f.length.toNat == f.packet

/-- Whether a request reaches its service: the sideband port drops every other frame (R454). -/
def State.takes (s : State) (via : Channel) : Bool :=
  match via with
  | .i3c => true
  | .sideband f => s.takesFrame f

/-- A request that arrives over a channel (R453, R454); a dropped one changes nothing. -/
def State.arriving (s : State) (via : Channel) (f : Endpoint → State) : State := if s.takes via then f via.ep else s

/-- A PLDM request (R455): answered by `f` where its type is served, and with ERROR_NOT_READY elsewhere. -/
def pldm (s : State) (ep : Endpoint) (inRecovery : Bool) (f : State → State) : State :=
  match s.service with
  | .silent => s
  | .control => s.reply ep 4
  | .recovery => if inRecovery then f s else s.reply ep 4
  | .full => f s

/-! ### Transports and base commands (R453 to R456) -/

/-- The provisional ID of the I3C port (R453): the manufacturer code, bit 32, and UID[31:0]. -/
def State.provisionalId (s : State) : BitVec 48 := BitVec.ofNat 48 (0x2A3 * 2 ^ 33 + 2 ^ 32 + s.fuseUid % 2 ^ 32)

/-- The dynamic address of the I3C port. -/
def takeAddress (s : State) (a : Nat) : State :=
  if s.service = .silent then s else { s with mgmt := { s.mgmt with i3cAddr := some a } }

/-- ENTDAA (R453): the port shows its provisional ID and takes the address. -/
def assignAddress (s : State) (a : Nat) : State :=
  if s.service = .silent then s else takeAddress (s.out (.provisionalId s.provisionalId)) a

/-- SETDASA (R453): only from the static address 0x3A. -/
def takeStatic (s : State) (st a : Nat) : State := if st = 0x3A then takeAddress s a else s

/-- The key of an endpoint. -/
def epKey : Endpoint → Nat
  | .i3c => 0
  | .sideband => 1

/-- Set Endpoint ID (R455); 0 and 255 are no endpoint's. -/
def setEid (s : State) (ep : Endpoint) (eid : Nat) : State :=
  if s.service = .silent then s
  else if eid = 0 ∨ eid = 255 then s.reply ep 2
  else ({ s with mgmt := { s.mgmt with eids := smSet (fun _ => 0) s.mgmt.eids (epKey ep) eid } }).reply ep 0 (leBytes 1 eid)

/-- The PLDM types served, as a mask (R455, R456). -/
def State.pldmTypes (s : State) : Nat := if s.service = .recovery then 0x21 else 2 ^ 63 + 0x25

/-- The commands of a type as a mask (R456, R457, R458, R459, R462 to R464), by their numbers in DMTF's PLDM specifications (PRESUMED, log
entry 46): of type 0 GetTID 2 to GetPLDMCommands 5; of type 2 SetEventReceiver 0x04, PlatformEventMessage 0x0A, GetSensorReading 0x11,
GetStateSensorReadings 0x21 and the PDR repository's 0x50 and 0x51; of type 5 RequestUpdate 0x10, RequestFirmwareData 0x15,
VerifyComplete 0x17, ActivateFirmware 0x1A and CancelUpdate 0x1D; of type 63 the codes of R459. -/
def commandMask (t : Nat) : Nat :=
  match t with
  | 0 => 0x3C
  | 2 => 2 ^ 0x04 + 2 ^ 0x0A + 2 ^ 0x11 + 2 ^ 0x21 + 2 ^ 0x50 + 2 ^ 0x51
  | 5 => 2 ^ 0x10 + 2 ^ 0x15 + 2 ^ 0x17 + 2 ^ 0x1A + 2 ^ 0x1D
  | _ => 0x3FFE

/-- SetEventReceiver (R458). -/
def setReceiver (s : State) (ep : Endpoint) (eid : Nat) : State :=
  pldm s ep false fun s => ({ s with mgmt := { s.mgmt with receiver := some (ep, eid) } }).reply ep 0

/-- What the PDR repository says of a sensor (R456, R457): its ID, whether it is numeric, and a temperature sensor's upper warning, critical
and fatal thresholds in °C. -/
structure SensorPdr where
  id : Nat
  numeric : Bool
  limits : Option (Int × Int × Int) := none
  deriving DecidableEq, Repr

/-- The PDR repository (R456, R457). -/
def pdrRepository : List SensorPdr :=
  (List.range 96).map (fun n => { id := n + 1, numeric := true, limits := some (sensorLimits n) }) ++
    [101, 102, 103, 104, 111, 112, 113, 114, 121].map (fun i => { id := i, numeric := true }) ++
    [131, 132, 133, 134].map fun i => { id := i, numeric := false }

/-- The size of the PDR repository (R456). PRESUMED from DMTF DSP0248 (log entry 15): the number of records. -/
def pdrInfo (s : State) (ep : Endpoint) : State :=
  if bitAt s.pldmTypes 2 then s.reply ep 0 (leBytes 4 pdrRepository.length) else s.reply ep 4

/-- A record of the PDR repository (R456). PRESUMED from DMTF DSP0248 (log entry 15): records are numbered from 1, 0 names the first,
the answer begins with the number of the next, 0 after the last, and a number without a record answers 0x82. -/
def pdrRead (s : State) (ep : Endpoint) (record : Nat) : State :=
  let k := record - 1
  if !bitAt s.pldmTypes 2 then s.reply ep 4
  else match pdrRepository[k]? with
    | some p =>
      s.reply ep 0 (leBytes 4 (if k + 1 < pdrRepository.length then k + 2 else 0) ++ Config.pdrBytes p.id p.numeric p.limits)
    | none => s.reply ep 0x82

/-- The base commands (R456): the TID and the versions are open (log entry 15). -/
def baseCommand (s : State) (ep : Endpoint) (c : PldmBase) : State :=
  pldm s ep true fun s =>
    match c with
    | .getTid => s.reply ep 0 (openBytes 1 10 0)
    | .getTypes => s.reply ep 0 (leBytes 8 s.pldmTypes)
    | .getCommands t =>
      if !bitAt s.pldmTypes t.toNat then s.reply ep 0x83
      else s.reply ep 0 (leBytes 32 (commandMask t.toNat))
    | .getPdrInfo => pdrInfo s ep
    | .getPdr r => pdrRead s ep r.toNat
    | .getVersion t => if !bitAt s.pldmTypes t.toNat then s.reply ep 0x83 else s.reply ep 0 (openBytes 4 12 t.toNat)

/-- The value of a sensor (R457): raw, in the unit and resolution of its row. -/
def sensorValue (s : State) (id : Nat) : Option (List Byte) :=
  if 1 ≤ id ∧ id ≤ 96 then some (leBytes 4 (ofSigned 32 (s.temp (id - 1))))
  else if 101 ≤ id ∧ id ≤ 104 then some (leBytes 4 (s.fld (Reg.PWR_VREG_VOUT_MV (id - 101))))
  else if 111 ≤ id ∧ id ≤ 114 then some (leBytes 4 (s.fld (Reg.PWR_VREG_IIN (id - 111))))
  else if id = 121 then some (leBytes 4 (s.fld Reg.PWR_POWER_NOW_W))
  else if id = 131 then some (leBytes 1 (s.fld Reg.GCTL_DEV_STATE_STATE))
  else if id = 132 then some (leBytes 1 (s.fld Reg.GCTL_DEV_STATE_PHASE))
  else if id = 133 then some (leBytes 1 s.sync)
  else if id = 134 then some (leBytes 1 (s.fld Reg.GCTL_DEV_STATE_CAL_LIGHT))
  else none

/-- A sensor reading (R457). -/
def readSensorFor (s : State) (ep : Endpoint) (id : Nat) : State :=
  pldm s ep false fun s =>
    match sensorValue s id with
    | some bs => s.reply ep 0 bs
    | none => s.reply ep 0x80

/-! ### Registers and the log (R459) -/

/-- Whether a register lies on a die that has no power in MGMT: the blocks of the compute dies, and the ports of the link dies (R16, R434,
R459). -/
def unpoweredReg (s : State) (off : Nat) : Bool :=
  decide (s.fld Reg.GCTL_DEV_STATE_STATE < 2) && (match blockAt off with
    | some (.ctx, _, _) | some (.htab, _, _) | some (.loom, _, _) | some (.ful, _, _) => true
    | some (.wvn, _, l) => decide (0x10000 ≤ l)
    | _ => false)

/-- Whether an offset is one of SWS_ADDR, SWS_LEN, SWS_ID and SWS_CTL. -/
def storeReg (off : Nat) : Bool := decide (Reg.RES_SWS_ADDR 0 ≤ off) && decide (off < Reg.RES_SWS_ADDR 256)

/-- The read of REG_READ where nothing holds it back. -/
def readReply (s : State) (ep : Endpoint) (off : Nat) : State :=
  let r := readWindow s true off 8
  r.2.reply ep 0 (leBytes 8 r.1)

/-- REG_READ (R459). -/
def regReadCmd (s : State) (ep : Endpoint) (off : Nat) : State :=
  pldm s ep false fun s =>
    if unpoweredReg s off then s.reply ep 0x83
    else if (loomOfReg off).any s.remapPending then { s with res := { s.res with stalled := s.res.stalled ++ [.read ep off] } }
    else readReply s ep off

/-- REG_WRITE (R459), with Grembedun's rights. -/
def regWriteCmd (s : State) (ep : Endpoint) (off val : Nat) : State :=
  pldm s ep false fun s =>
    if unpoweredReg s off then s.reply ep 0x83
    else if storeReg off then s.reply ep 0x81
    else (writeWindow s true off 8 val).reply ep 0

/-- TOD_ARM (R459): TOD_SEC, then ARM. -/
def todArmCmd (s : State) (ep : Endpoint) (sec : Nat) : State :=
  pldm s ep false fun s => (armTod (s.setFld Reg.TIME_TOD_SEC_SEC sec)).reply ep 0

/-- The entry of a SEQ, while the ring holds it. -/
def State.logHeld (s : State) (seq : Nat) : Option (List Byte) :=
  match s.logSlot (seq % logSlots) with
  | some (n, head, chain) => if n = seq then some (head ++ chain) else none
  | none => none

/-- LOG_READ (R459). -/
def logReadCmd (s : State) (ep : Endpoint) (seq count : Nat) : State :=
  pldm s ep false fun s =>
    if count < 1 ∨ 4 < count ∨ (s.logHeld seq).isNone then s.reply ep 0x83
    else s.reply ep 0 ((List.range count).flatMap fun k => (s.logHeld (seq + k)).getD [])

/-- The newest SEQ and CHAIN (R466); of an empty log both are open (log entry 15). -/
def State.logHeadBytes (s : State) : List Byte :=
  match s.mgmt.logSeq with
  | some n => leBytes 8 n ++ s.mgmt.logChain
  | none => openBytes 40 13 0

/-- LOG_HEAD (R459). -/
def logHeadCmd (s : State) (ep : Endpoint) : State := pldm s ep false fun s => s.reply ep 0 s.logHeadBytes

/-! ### Staged transfers (R460, R461, R471, R474) -/

/-- XFER_OPEN (R460). -/
def openXfer (s : State) (ep : Endpoint) (kind : XferKind) (len : Nat) : State :=
  pldm s ep false fun s =>
    if s.mgmt.xfer.isSome then s.reply ep 0x80
    else if 0x800000 < len then s.reply ep 0x83
    else
      let h := s.mgmt.nextHandle
      let x : Xfer := { kind := kind, len := len, handle := h, at_ := s.pick }
      ({ s with mgmt := { s.mgmt with xfer := some x, nextHandle := h + 1 } }).reply ep 0 (leBytes 4 h)

/-- The open transfer of a handle. -/
def State.xferOf (s : State) (h : Nat) : Option Xfer := s.mgmt.xfer.filter fun x => x.handle == h

/-- Staged bytes; one that no data has reached reads as 0. -/
def Xfer.byte (x : Xfer) (o : Nat) : Byte := smGet (fun _ => 0) x.bytes o
/-- `n` staged bytes. -/
def Xfer.slice (x : Xfer) (o n : Nat) : List Byte := (List.range n).map fun k => x.byte (o + k)
/-- A staged little-endian value. -/
def Xfer.val (x : Xfer) (o n : Nat) : Nat := leValue (x.slice o n)

/-- XFER_DATA (R459, R460). -/
def dataXfer (s : State) (ep : Endpoint) (h off : Nat) (bs : List Byte) : State :=
  pldm s ep false fun s =>
    match s.xferOf h with
    | none => s.reply ep 0x83
    | some x =>
      if 1024 < bs.length ∨ x.len < off + bs.length then s.reply ep 0x83
      else
        let bytes := bs.zipIdx.foldl (fun (m : SMap Byte) (p : Byte × Nat) => smSet (fun _ => 0) m (off + p.2) p.1) x.bytes
        ({ s with mgmt := { s.mgmt with xfer := some { x with bytes := bytes, at_ := s.pick } } }).reply ep 0

/-- XFER_IDLE_TIMEOUT (R460): ten seconds without data. -/
def idleXfer (s : State) : State :=
  match s.mgmt.xfer with
  | some x => if x.at_ + 78125000 ≤ s.pick then { s with mgmt := { s.mgmt with xfer := none } } else s
  | none => s

/-- XFER_CLOSE (R459, R460): the transfer ends and its action runs on the staged bytes. -/
def closeXfer (s : State) (ep : Endpoint) (h : Nat) (isKind : XferKind → Bool) (act : State → Xfer → State) : State :=
  pldm s ep false fun s =>
    match s.xferOf h with
    | some x => if isKind x.kind then act { s with mgmt := { s.mgmt with xfer := none } } x else s.reply ep 0x83
    | none => s.reply ep 0x83

/-- The identity public key (R469). -/
def identityKey (s : State) : List Byte := (s.boot.identity.map (·.1)).getD (List.replicate 64 0)

/-- The checks of a certificate chain (R471); `chainOk` says that the signatures verify. -/
def chainGood (s : State) (x : Xfer) (chainOk : Bool) : Bool :=
  chainOk && x.slice 24 64 == identityKey s && chainForm s.wvn.anchors (x.slice 0 x.len) s.fuseUid

/-- XFER_CLOSE with CERT (R471). -/
def closeCert (s : State) (ep : Endpoint) (h : Nat) (chainOk : Bool) : State :=
  closeXfer s ep h (fun k => k == .cert) fun s x =>
    if x.len ≠ 30048 ∧ x.len ≠ 60096 then s.reply ep 0x83
    else if chainGood s x chainOk then (s.queueChain (x.slice 0 x.len)).reply ep 0
    else s.reply ep 0x82

/-- Whether an entry of the swatch store is in use (R397). -/
def State.storeUsed (s : State) (e : Nat) : Bool := s.fld (Reg.RES_SWS_CTL_STATE e) != 0

/-- The lowest empty entry of the store. -/
def State.storeFree (s : State) : Option Nat := (List.range 256).find? fun e => !s.storeUsed e

/-- Whether an image at an address may be installed (R474, check 3), beside the need of an empty entry. -/
def storeFits (s : State) (a len swid : Nat) : Bool :=
  s.readyOrRun && a % 64 == 0 && inHbm a len && (List.range 256).all fun e =>
    let b := (s.reg (Reg.RES_SWS_ADDR e)).toNat
    !s.storeUsed e || ((decide (a + len ≤ b) || decide (b + s.fld (Reg.RES_SWS_LEN_LEN e) ≤ a)) && (s.reg (Reg.RES_SWS_ID e)).toNat != swid)

/-- A write of store registers by management, discarded while a release runs (R510). DEDUCED (log entry 46): the command then answers
REFUSED_STATE. -/
def State.storeWrite (s : State) (ep : Endpoint) (off : Nat) (f : State → State) : State :=
  if s.releasing then (s.denied (ctlBase + off)).reply ep 0x81 else f s

/-- A store entry installed and logged (R474, R475). -/
def State.installSwatch (s : State) (e a len swid unit st : Nat) (image : List Byte) : State :=
  let s := ((s.setReg (Reg.RES_SWS_ADDR e) (BitVec.ofNat 64 a)).setFld (Reg.RES_SWS_LEN_LEN e) len).setReg (Reg.RES_SWS_ID e) (BitVec.ofNat 64 swid)
  let s := { s with res := { s.res with passed := s.res.passed.filter (·.1 != e)
                                        swatches := s.res.swatches.map fun (r : SwatchRun) => if r.entry = e then { r with entered := 0 } else r } }
  ((s.setFld (Reg.RES_SWS_CTL_UNIT e) unit).setFld (Reg.RES_SWS_CTL_STATE e) st).logSwatch e image

/-- The form of a staged swatch image (R474, check 1). -/
def swatchForm (x : Xfer) : Bool :=
  let nd := x.val 12 1
  let plen := x.val 16 4
  x.len == 512 + 128 * nd + plen + x.val 32 8 + sigBytes && x.val 8 2 == 1 && decide (1 ≤ nd) && decide (nd ≤ 64) && plen % 8 == 0 &&
    decide (1 ≤ x.val 10 1) && decide (x.val 10 1 ≤ 6) && !bitAt (x.val 11 1) 0

/-- Whether a signature verifies over a message under a public key (R396). PRESUMED from FIPS 205 (log entry 11): a key is a seed and then
a root, which the signature must give again. -/
def slhVerifies (key : BitVec 512) (msg sig : List Byte) : Bool :=
  Config.slhRoot (key.extractLsb' 0 256) msg sig == key.extractLsb' 256 256

/-- Whether a staged image's signature verifies over every byte before it, under a key of the swatch trust list (R396, R474). -/
def swatchSigned (s : State) (x : Xfer) (key : BitVec 512) : Bool :=
  s.boot.swatchKeys.contains key && slhVerifies key (x.slice 0 (x.len - sigBytes)) (x.slice (x.len - sigBytes) sigBytes)

/-- XFER_CLOSE with SWATCH (R474); `key` is the key that Grembedun tries, of those in the trust list. -/
def closeSwatch (s : State) (ep : Endpoint) (h : Nat) (key : Option (BitVec 512)) : State :=
  closeXfer s ep h (fun k => match k with | .swatch _ => true | _ => false) fun s x =>
    let a := match x.kind with | .swatch a => a.toNat | _ => 0
    if !swatchForm x then s.reply ep 0x83
    else if !key.any (swatchSigned s x) then s.reply ep 0x82
    else
      match s.storeFree with
      | some e => if storeFits s a x.len (x.val 0 8) then
          s.storeWrite ep (Reg.RES_SWS_ADDR e) fun s =>
            (s.installSwatch e a x.len (x.val 0 8) (x.val 10 1) 1 (x.slice 0 x.len)).reply ep 0 (leBytes 1 e)
        else s.reply ep 0x81
      | none => s.reply ep 0x81

/-- Bits burned in a thermometer code until so many are set (R461). -/
def burnCount (v n : Nat) : Nat :=
  (List.range 64).foldl (fun v k => if ((List.range 64).filter (bitAt v)).length < n then v ||| 2 ^ k else v) v

/-- A fuse field burned and logged (R461, R468): the field by its row of R416, and its new value. -/
def State.logBurn (s : State) (field bytes v : Nat) : State := s.logEvent 0x0004 0xFF (leBytes 1 field ++ leBytes bytes v)

/-- A signed fuse command that verifies (R461). -/
def fuseCommand (s : State) (ep : Endpoint) (op arg : Nat) : State :=
  let f := s.fuses
  match op with
  | 1 =>
    if arg < f.svnCount ∨ s.boot.svn < arg ∨ 64 < arg then s.reply ep 0x83
    else
      let v := burnCount (f.svnMin ||| f.svnMinB) arg
      (({ s with fuses := { f with svnMin := v, svnMinB := v } }).logBurn 7 8 v).reply ep 0
  | 2 =>
    let v := f.revoked ||| 2 ^ arg
    if 4 ≤ arg then s.reply ep 0x83
    else if arg = s.boot.keyIdx ∨ v = 15 then s.reply ep 0x81
    else (({ s with fuses := { f with revoke := v, revokeB := v } }).logBurn 8 1 v).reply ep 0
  | _ => s.reply ep 0x83

/-- XFER_CLOSE with AUTH (R461); `sigOk` says that the signature verifies under OWNER_PK of the loaded image. -/
def closeAuth (s : State) (ep : Endpoint) (h : Nat) (sigOk : Bool) : State :=
  closeXfer s ep h (fun k => k == .auth) fun s x =>
    if x.len ≠ 64 + sigBytes then s.reply ep 0x83
    else if !(sigOk && s.boot.configEnded) then s.reply ep 0x82
    else if x.val 0 16 ≠ s.fuseUid ∨ x.val 32 32 ≠ 0 then s.reply ep 0x83
    else fuseCommand s ep (x.val 16 8) (x.val 24 8)

/-- OWNER_BURN (R459). -/
def burnOwner (s : State) (ep : Endpoint) (h : Nat) : State :=
  pldm s ep false fun s =>
    if s.fld Reg.GCTL_DEV_STATE_STATE ≠ 1 then s.reply ep 0x81
    else if s.fuses.ownerHash ≠ 0 then s.reply ep 0x84
    else (({ s with fuses := { s.fuses with owner := .whole h } }).logBurn 9 32 h).reply ep 0

/-! ### Attestation (R472, R473) -/

/-- ATTEST (R459, R473): up to four requests wait. -/
def attestCmd (s : State) (ep : Endpoint) (nonce : Nat) : State :=
  pldm s ep false fun s =>
    if !(s.readyOrRun || (s.fld Reg.GCTL_DEV_STATE_STATE == 1 && s.boot.configEnded)) then s.reply ep 0x81
    else if 4 ≤ (s.mgmt.attests.filter (·.report.isNone)).length then s.reply ep 0x80
    else
      let h := s.mgmt.nextHandle
      let a : Attest := { handle := h, nonce := nonce }
      ({ s with mgmt := { s.mgmt with attests := s.mgmt.attests ++ [a], nextHandle := h + 1 } }).reply ep 0 (leBytes 4 h)

/-- The state bits of a report (R472, byte 72). -/
def reportFlags (s : State) : Nat :=
  s.fld Reg.GCTL_DEV_STATE_CAL_LIGHT + 2 * bit s.jobActive + 4 * s.fld Reg.RES_HEALTH_SUSPECT + 8 * s.fld Reg.RES_RES_STAT_EXPELLED +
    16 * s.fld Reg.RES_RES_STAT_VOTE_HOLD + 32 * s.fld Reg.GCTL_FUSE_SUM_TRIM_OK

/-- The key digest of a report (R472). -/
def keyDigest (s : State) : List Byte :=
  shake256 32 ([Reg.GCTL_JOB_SEED, Reg.FUL_TKEY0, Reg.FUL_TKEY1, Reg.RES_DKEY].flatMap fun r => leBytes 8 (s.reg r).toNat)

/-- The store digest of a report (R472). -/
def storeDigest (s : State) : List Byte :=
  shake256 32 ((List.range 256).flatMap fun e => leBytes 8 (s.reg (Reg.RES_SWS_ID e)).toNat ++ leBytes 1 (s.fld (Reg.RES_SWS_CTL_STATE e)))

/-- Bytes of an attestation report (R472). -/
def reportBytes : Nat := 50368

/-- The body of a report, formed when its signing starts (R472, R473). -/
def reportBody (s : State) (nonce : Nat) : List Byte :=
  leBytes 4 1 ++ leBytes 4 reportBytes ++ leBytes 32 nonce ++ leBytes 16 s.fuseUid ++ leBytes 8 s.pick ++
  leBytes 2 (s.fld Reg.GCTL_ID_PART) ++ leBytes 1 (s.fld Reg.GCTL_ID_STEPPING) ++ leBytes 1 (s.fld Reg.GCTL_GRADE_GRADE) ++
  leBytes 1 (s.fld Reg.GCTL_FUSE_SUM_FUSE_REV) ++ leBytes 1 s.fuses.svnCount ++ leBytes 1 (s.fld Reg.GCTL_DEV_STATE_STATE) ++
  leBytes 1 (s.fld Reg.GCTL_DEV_STATE_PHASE) ++ leBytes 4 (reportFlags s) ++ leBytes 4 s.boot.svn ++ leBytes 32 s.boot.fwDigest ++
  leBytes 32 s.boot.cfgDigest ++ leBytes 32 s.fuses.ownerHash ++
  (List.range 4).flatMap (fun w => leBytes 8 (s.reg (Reg.WVN_BOLT_HASH w)).toNat) ++ leBytes 8 (s.reg Reg.GCTL_JOB_ID).toNat ++
  keyDigest s ++ s.logHeadBytes ++ leBytes 2 (s.fld Reg.GCTL_SPARE_STAT_STATE) ++ leBytes 6 0 ++ leBytes 8 (s.reg Reg.RES_CK_SEQ).toNat ++
  storeDigest s ++ identityKey s ++ List.replicate 112 0

/-- ATTEST_SIGNED (R473): the oldest request without a report gets its body and the signature, whose bytes are open. -/
def signReport (s : State) : State :=
  if s.service ≠ .full then s
  else
    match s.mgmt.attests.find? (·.report.isNone) with
    | none => s
    | some a =>
      let r := reportBody s a.nonce ++ openBytes 49856 15 s.freeCtr
      let attests := s.mgmt.attests.map fun x => if x.handle = a.handle then { x with report := some r } else x
      { s with freeCtr := s.freeCtr + 1, mgmt := { s.mgmt with attests := attests } }

/-- ATTEST_GET (R459). -/
def attestGetCmd (s : State) (ep : Endpoint) (h off : Nat) : State :=
  pldm s ep false fun s =>
    match s.mgmt.attests.find? (·.handle == h) with
    | none => s.reply ep 0x83
    | some a =>
      match a.report with
      | none => s.reply ep 0x80
      | some r => if reportBytes ≤ off then s.reply ep 0x83 else s.reply ep 0 ((r.drop off).take 1024)

/-! ### The swatch store (R475) -/

/-- SWATCH_CANDIDATE (R475). -/
def installCandidate (s : State) (ep : Endpoint) (swid : Nat) : State :=
  pldm s ep false fun s =>
    match s.storeFree with
    | some e =>
      if s.readyOrRun && s.flag Reg.RES_CAP_STAT_DONE then
        let a := (s.reg Reg.RES_CAP_ADDR).toNat
        let len := s.fld Reg.RES_CAP_STAT_BYTES
        s.storeWrite ep (Reg.RES_SWS_ADDR e) fun s =>
          (s.installSwatch e a len swid 0 2 (s.bytes a len)).reply ep 0 (leBytes 1 e)
      else s.reply ep 0x81
    | none => s.reply ep 0x81

/-- SWATCH_STATE (R475): 0 removes, 1 restores a signed entry from STATE 3, 3 quarantines. -/
def setStore (s : State) (ep : Endpoint) (e st : Nat) : State :=
  pldm s ep false fun s =>
    if !s.readyOrRun then s.reply ep 0x81
    else
      match st with
      | 0 => s.storeWrite ep (Reg.RES_SWS_CTL e) fun s =>
          ((settleSuspect (s.setFld (Reg.RES_SWS_CTL_STATE e) 0)).logSwatch e (s.storeImage e)).reply ep 0
      | 1 =>
        if s.fld (Reg.RES_SWS_CTL_STATE e) == 3 && s.fld (Reg.RES_SWS_CTL_UNIT e) != 0 then
          s.storeWrite ep (Reg.RES_SWS_CTL e) fun s =>
            ((s.setFld (Reg.RES_SWS_CTL_STATE e) 1).logSwatch e (s.storeImage e)).reply ep 0
        else s.reply ep 0x81
      | 3 => s.storeWrite ep (Reg.RES_SWS_CTL e) fun s => (quarantineEntry s e).reply ep 0
      | _ => s.reply ep 0x83

/-! ### Firmware update (R462 to R464) -/

/-- Whether bring-up is between the start of VERIFY and the end of CONFIG (R415, R462). -/
def State.verifying (s : State) : Bool := s.boot.running && !s.boot.configEnded && s.fld Reg.GCTL_DEV_STATE_PHASE != 0

/-- RequestUpdate (R462). -/
def requestUpdateCmd (s : State) (ep : Endpoint) : State :=
  if s.service ≠ .silent && s.verifying then s.reply ep 0x8E
  else pldm s ep true fun s =>
    if s.mgmt.update.isSome then s.reply ep 0x81
    else ({ s with mgmt := { s.mgmt with update := some { ep := ep } } }).reply ep 0

/-- A request of an update session, by its endpoint; NOT_IN_UPDATE_MODE without one. -/
def inSession (s : State) (ep : Endpoint) (f : State → Update → State) : State :=
  pldm s ep true fun s =>
    match s.mgmt.update with
    | some u => if u.ep = ep then f s u else s.reply ep 0x80
    | none => s.reply ep 0x80

/-- The session with another state. -/
def State.setUpdate (s : State) (u : Update) : State := { s with mgmt := { s.mgmt with update := some u } }

/-- The region of a component: start and size (R414). -/
def regionOf (c : Nat) : Nat × Nat := if c = 1 then fwRegion else cfgRegion

/-- The header bytes that a component is checked by: 64 of the firmware; 128 of the configuration, whose OWNER_PK they hold. -/
def headSize (c : Nat) : Nat := if c = 1 then 64 else 128

/-- The header check of R462, step 1. -/
def headOk (f : Fuses) (c : Nat) (h : List Byte) : Bool :=
  let v (o n : Nat) : Nat := leValue ((h.drop o).take n)
  if c = 1 then (fwHeaderFault f h).isNone
  else v 0 8 == 0x3130474643594442 && v 8 2 == 1 && decide (128 + sigBytes ≤ v 12 4) && decide (v 12 4 ≤ cfgRegion.2) &&
    leValue (shake256 32 ((h.drop 64).take 64)) == f.ownerHash

/-- Component bytes programmed from the present place on, within the region (R462, step 3). -/
def programPart (s : State) (u : Update) (c : Nat) (bs : List Byte) : State :=
  let r := regionOf c
  let bs := bs.take (r.2 - u.got)
  (s.program (r.1 + u.got) bs).setUpdate { u with got := u.got + bs.length }

/-- The region of a component erased; until it verifies it is invalid (R462, step 2, R463). -/
def eraseComponent (s : State) (c : Nat) : State :=
  let r := regionOf c
  let s := s.eraseFlash r.1 (r.1 + r.2)
  { s with mgmt := { s.mgmt with badRegion := c :: s.mgmt.badRegion.filter (· != c), fwWritten := s.mgmt.fwWritten || c == 1 } }

/-- The end of a component, logged as an UPDATE event (R462, R468). -/
def endComponent (s : State) (u : Update) (c : Nat) (ok : Bool) : State :=
  let r := regionOf c
  let svn := if c = 1 then s.flashVal 12 4 else 0
  let bad := s.mgmt.badRegion.filter fun x => !(ok && x == c)
  let s := s.logEvent 0x0003 0xFF (leBytes 2 c ++ leBytes 1 (bit !ok) ++ leBytes 4 svn ++ shake256 32 (s.flashBytes r.1 u.got))
  { s with mgmt := { s.mgmt with badRegion := bad, update := some { ep := u.ep, verified := u.verified || ok } } }

/-- Component data (R462): the header is gathered and checked, then the region is erased and programmed. -/
def componentData (s : State) (u : Update) (c : Nat) (bs : List Byte) : State :=
  let u := if u.component = some c then u else { ep := u.ep, component := some c, verified := u.verified }
  if u.failed then s.reply u.ep 0x88
  else if u.erased then (programPart s u c bs).reply u.ep 0
  else
    let h := u.head ++ bs
    if h.length < headSize c then (s.setUpdate { u with head := h }).reply u.ep 0
    else if headOk s.fuses c (h.take (headSize c)) then
      (programPart (eraseComponent s c) { u with head := h.take (headSize c), erased := true } c h).reply u.ep 0
    else (s.setUpdate { u with head := h.take (headSize c), failed := true }).reply u.ep 1

/-- REQUEST_FIRMWARE_DATA (R462); in ROM recovery only the firmware component is taken (R455). -/
def firmwareData (s : State) (ep : Endpoint) (c : Nat) (bs : List Byte) : State :=
  inSession s ep fun s u =>
    if (c = 1 ∨ c = 2) ∧ ¬ (c = 2 ∧ s.boot.recovery) then componentData s u c bs else s.reply ep 0x88

/-- VerifyComplete (R462); `sigOk` says that the signature over the bytes in flash verifies. -/
def verifyUpdate (s : State) (ep : Endpoint) (sigOk : Bool) : State :=
  inSession s ep fun s u =>
    match u.component with
    | none => s.reply ep 0x84
    | some c =>
      let len := leValue (((u.head.drop (if c = 1 then 8 else 12))).take 4)
      let ok := sigOk && u.erased && !u.failed && decide (len ≤ u.got)
      (endComponent s u c ok).reply ep (bit !ok)

/-- Whether the image that ActivateFirmware would go on with has not verified (R463, R464): none has in the session, a component's
transfer is unfinished, or the region that bring-up would go on from is invalid. -/
def notVerified (s : State) (u : Update) : Bool :=
  !u.verified || u.component.isSome || (s.boot.recovery && s.mgmt.badRegion.contains 1) ||
    (s.fld Reg.GCTL_DEV_STATE_PHASE == 2 && !s.boot.configEnded && s.mgmt.badRegion.contains 2)

/-- ActivateFirmware (R464): the session ends. -/
def activateCmd (s : State) (ep : Endpoint) : State :=
  inSession s ep fun s u =>
    if notVerified s u then s.reply ep 0x85
    else
      let s := { s with mgmt := { s.mgmt with update := none } }
      if s.boot.recovery then
        let s := s.recordFirmware
        (({ s with boot := { s.boot with recovery := false, running := true } }).setPhase 2).reply ep 0
      else if s.fld Reg.GCTL_DEV_STATE_PHASE = 2 ∧ !s.boot.configEnded then
        ({ s with boot := { s.boot with running := true } }).reply ep 0
      else s.reply ep 0 (leBytes 2 0x20)

/-- CancelUpdate (R463): a region that has been erased stays invalid. -/
def cancelUpdateCmd (s : State) (ep : Endpoint) : State :=
  inSession s ep fun s _ => ({ s with mgmt := { s.mgmt with update := none } }).reply ep 0

/-! ### Lockstep (R451, R452) -/

/-- The cores are held in reset until the next power-good, and the core rails are cut (R451). -/
def State.holdCores (s : State) : State :=
  { s with mgmt := { s.mgmt with heldReset := true, xfer := none, attests := [], update := none } }.cutRails

/-- Whether the firmware region still holds the image that VERIFY accepted (R451): not written since, its header and its signature,
`sigOk`, good under R419, and its digest the one recorded. -/
def flashSame (s : State) (sigOk : Bool) : Bool :=
  !s.mgmt.fwWritten && (fwHeaderFault s.fuses (s.flashBytes 0 64)).isNone && sigOk &&
    leValue (shake256 32 (s.flashBytes 0 (s.flashVal 8 4))) == s.boot.fwDigest

/-- LOCKSTEP_MISMATCH (R451, R452): `sram` holds the bytes of the SRAM copy that read otherwise than they were written, by their place. A
copy whose digest differs is loaded again from flash. Before VERIFY has accepted an image no core runs it. -/
def lockstep (s : State) (pc : Nat) (sram : List (Nat × Byte)) (sigOk : Bool) : State :=
  if s.service = .silent ∨ s.boot.identity = none then s
  else
    let recent := s.mgmt.mismatches.filter (fun p => decide (s.pick < p + 468750000)) ++ [s.pick]
    let s := { s with mgmt := { s.mgmt with mismatches := recent } }
    let copy := sram.foldl (fun (bs : List Byte) p => bs.set p.1 p.2) s.mgmt.sram
    let sramOk := leValue (shake256 32 copy) == s.boot.sramDigest
    if 3 ≤ recent.length ∨ !(sramOk || flashSame s sigOk) then s.holdCores
    else
      let s := { s with mgmt := { s.mgmt with sram := if sramOk then copy else s.grembedunImage, xfer := none, attests := [], update := none } }
      s.logEvent 0x0005 0xFF (leBytes 4 recent.length ++ leBytes 8 pc)

end Sys2Proof.Machine
end

