-- ==== Sys2Proof/Machine/Act.lean ====
section
/-! DEFINITION. Act: how a command of the table acts, and the operations that only one row uses. -/
namespace Sys2Proof.Machine

/-- A command's outcome; the queue of waiting commands is no command's to change. -/
def outcome (s t : State) : Host.Outcome State Fault Refusal := .next { t with pending := s.pending }

/-- A command that acts while the device has power; in OFF nothing acts (R491). -/
def act (s t : State) : Host.Outcome State Fault Refusal := outcome s (if s.boot.on then t else s)

/-- A row of the table that is a register write of eight bytes: it acts where the write reaches its register (R12, R14, R23,
R31, R510). -/
def regRow (s : State) (priv : Bool) (off v : Nat) (op : State → State) : Host.Outcome State Fault Refusal :=
  act s (gate s priv off 8 v op)

/-- IMLD_CTL as GO, or GO and FORCE, writes it over its present pages (R226). -/
def loadWord (s : State) (loom : Nat) (force : Bool) : Nat :=
  setBits (s.reg (Reg.LOOM_IMLD_CTL loom)).toNat 17 16 (if force then 3 else 1)

/-- One access that stalled for a substitution, performed (R23). -/
def resumeAccess (s : State) : Stalled → State
  | .write priv off len val => writeWindow s priv off len val
  | .read ep off => readReply s ep off
  | .packet q p granted => if (s.qp q).state = 2 ∨ (s.qp q).state = 3 then (packetArrives s q p granted).settleRegion else s

/-- SPARE_REMAP (R23, R403, R404): at a shed boundary the pending position moves to its die's lowest available spare, and the
accesses that stalled for it are performed in their order. -/
def spareRemaps (s : State) : State :=
  match s.res.remap with
  | none => s
  | some loom =>
    if !s.atShed then s
    else
      match freeSpare s (s.dieOf loom) with
      | none => s
      | some j =>
        let waiting := s.res.stalled
        let s := remapLoom s loom j
        waiting.foldl resumeAccess { s with res := { s.res with stalled := [] } }

end Sys2Proof.Machine
end

