-- ==== Sys2Proof/Machine/CmdBoot.lean ====
section
/-! DEFINITION. CmdBoot: the meanings of power-good and bring-up (R410 to R433, R491, R492). -/
namespace Sys2Proof.Machine

/-- POWER_GOOD_RISE. R491: When PWR_GOOD rises and the rails are in range, the device starts FUSE. -/
def execPowerGoodRise (s : State) : Host.Outcome State Fault Refusal :=
  outcome s (goodRises s)

/-- POWER_GOOD_FALL. R492: PWR_GOOD falling, or VIN sagging below 10 V, cuts every core rail and the device goes to OFF. -/
def execPowerGoodFall (s : State) : Host.Outcome State Fault Refusal :=
  outcome s (goodFalls s)

/-- RAILS_IN_RANGE. R491: When the rails come within range after PWR_GOOD has already risen, the device leaves OFF and starts
FUSE at that instant. -/
def execRailsInRange (s : State) : Host.Outcome State Fault Refusal :=
  outcome s (railsReady s)

/-- FUSE. R417: The fuse controller loads the fuses and sets grade, roles and identity, or stops with CONFIG_INVALID. -/
def execFusePhase (s : State) : Host.Outcome State Fault Refusal :=
  act s (fuses s)

/-- VERIFY. R419: The ROM verifies the firmware image and derives the identity key, or stays in recovery. -/
def execVerifyPhase (sigOk : Bool) (s : State) : Host.Outcome State Fault Refusal :=
  act s (verifies s sigOk)

/-- CONFIG. R423: Grembedun checks the configuration image and loads the configured values. -/
def execConfigPhase (cfg : ConfigData) (sigOk : Bool) (sect off : Nat) (s : State) : Host.Outcome State Fault Refusal :=
  act s (configures s cfg sigOk sect off)

/-- TRAIN. R425: The dies are powered, HBM is repaired and trained, and memories are zero-filled. -/
def execTrainPhase (failed : List Nat) (r : TrainResult) (s : State) : Host.Outcome State Fault Refusal :=
  act s (trains s failed r)

/-- SOAK. R426: A full-load pattern sets droop thresholds and lane equalisation, or falls back to CAL_LIGHT. -/
def execSoakPhase (failed : Option Nat) (r : SoakResult) (s : State) : Host.Outcome State Fault Refusal :=
  act s (soaks s failed r)

/-- LINK. R428: The Weaven ports train, discover their neighbours and authenticate. -/
def execLinkPhase (s : State) : Host.Outcome State Fault Refusal :=
  act s (links s)

/-- TIME. R429: The device elects a grandmaster and disciplines its counter until LOCKED or GRANDMASTER. -/
def execTimePhase (s : State) : Host.Outcome State Fault Refusal :=
  act s (times s)

/-- WEAVE. R430: The device installs the boot schedule and checks each authenticated port. -/
def execWeavePhase (s : State) : Host.Outcome State Fault Refusal :=
  act s (weaves s)

/-- RELEASE. R431: The device reports READY and logs its phase durations. -/
def execReleasePhase (durations : List Nat) (s : State) : Host.Outcome State Fault Refusal :=
  act s (releases s durations)

end Sys2Proof.Machine
end

