-- ==== Sys2Proof/Machine/CmdFulling.lean ====
section
/-! DEFINITION. CmdFulling: the meanings of the fulling engines (R285 to R308). -/
namespace Sys2Proof.Machine

/-- FULL. R285. -/
def execFull (src : Src) (f : FullF) (s : State) : Host.Outcome State Fault Refusal :=
  act s (directSlot src (.full f) s)

/-- FULL_START. R286: the oldest held FULL of a die starts. -/
def execFullStart (die : Nat) (s : State) : Host.Outcome State Fault Refusal :=
  act s (fullStarts s die)

/-- FP_COMMIT. R308. -/
def execFpCommit (prog : BitVec 6) (s : State) : Host.Outcome State Fault Refusal :=
  regRow s false Reg.FUL_FP_COMMIT prog.toNat fun s => fpCommitOp s prog.toNat false false

/-- FP_READ. R308. -/
def execFpRead (prog : BitVec 6) (s : State) : Host.Outcome State Fault Refusal :=
  regRow s false Reg.FUL_FP_COMMIT (prog.toNat + 0x40) fun s => fpCommitOp s prog.toNat true false

/-- FP_INVALIDATE. R308. -/
def execFpInvalidate (prog : BitVec 6) (s : State) : Host.Outcome State Fault Refusal :=
  regRow s false Reg.FUL_FP_COMMIT (prog.toNat + 0x80) fun s => fpCommitOp s prog.toNat false true

/-- TALLY_CLEAR. R308. -/
def execTallyClear (die : Nat) (s : State) : Host.Outcome State Fault Refusal :=
  regRow s false (Reg.FUL_TALLY_CTL die) 1 fun s => tallyClearOp s die

end Sys2Proof.Machine
end

