-- ==== Sys2Proof/Machine/CmdHost.lean ====
section
/-! DEFINITION. CmdHost: the meanings of the host ports (R345 to R365). -/
namespace Sys2Proof.Machine

/-- ROCE_WRITE_RECEIVE. R354: An RDMA WRITE packet is checked against the region and the allow list and executed in PSN order.
-/
def execRoceWriteReceive (port : Nat) (p : RocePkt) (s : State) : Host.Outcome State Fault Refusal :=
  act s (roceArrives s port p)

/-- ROCE_READ_REQUEST. R358: An RDMA READ request is checked and answered with data that includes earlier writes. -/
def execRoceReadRequest (port : Nat) (p : RocePkt) (s : State) : Host.Outcome State Fault Refusal :=
  act s (roceArrives s port p)

/-- ROCE_ACK_RECEIVE. R350: An ACK or NAK arrives for requester traffic, acknowledging data or moving the queue pair to ERROR.
-/
def execRoceAckReceive (qp : BitVec 14) (psn : BitVec 24) (a : RoceAck) (s : State) : Host.Outcome State Fault Refusal :=
  act s (roceAcked s qp.toNat psn.toNat a)

/-- ROCE_ACK_TIMEOUT. R350: A request unacknowledged within its timeout is resent, or the queue pair enters ERROR after its
retries. -/
def execRoceAckTimeout (qp : BitVec 14) (s : State) : Host.Outcome State Fault Refusal :=
  act s (roceTimeout s qp.toNat)

/-- CNP_RECEIVE. R351: A received CNP lowers the queue pair's send rate. -/
def execCnpReceive (qp : BitVec 14) (s : State) : Host.Outcome State Fault Refusal :=
  act s (cnpArrives s qp.toNat)

/-- NEIGHBOUR_SOLICITATION. R346: The port answers ARP and IPv6 neighbour solicitations for its own address. -/
def execNeighbourSolicitation (port : Nat) (target : BitVec 128) (s : State) : Host.Outcome State Fault Refusal :=
  act s (neighbourAsked s port target.toNat)

/-- FRAME_DROP. R346: Any other frame is dropped and counted in DROPPED; a priority flow control frame may pause the port. -/
def execFrameDrop (f : OtherFrame) (s : State) : Host.Outcome State Fault Refusal :=
  act s (otherFrame s f.port f.pause)

/-- QP_MODIFY. R348: A QP_CMD MODIFY moves a queue pair through its state machine. -/
def execQpModify (qp : BitVec 14) (s : State) : Host.Outcome State Fault Refusal :=
  regRow s false Reg.HOST_QP_CMD qp.toNat fun s => modifyQp s qp.toNat

/-- QP_QUERY. R365: A QP_CMD QUERY copies a queue pair context into QP_STAGE. -/
def execQpQuery (qp : BitVec 14) (s : State) : Host.Outcome State Fault Refusal :=
  regRow s false Reg.HOST_QP_CMD (qp.toNat + 0x4000) fun s => queryQp s qp.toNat

/-- QP_RESET. R348: A QP_CMD RESET returns a queue pair to RESET and discards its requests. -/
def execQpReset (qp : BitVec 14) (s : State) : Host.Outcome State Fault Refusal :=
  regRow s false Reg.HOST_QP_CMD (qp.toNat + 0x8000) fun s => resetQp s qp.toNat

/-- MR_COMMIT. R353: MR_CMD commits a memory region. -/
def execMrCommit (index : BitVec 8) (s : State) : Host.Outcome State Fault Refusal :=
  regRow s false Reg.HOST_MR_CMD index.toNat fun s => mrCmd s index.toNat false

/-- MR_INVALIDATE. R353: MR_CMD with INVALIDATE removes a region once its requests complete. -/
def execMrInvalidate (index : BitVec 8) (s : State) : Host.Outcome State Fault Refusal :=
  regRow s false Reg.HOST_MR_CMD (index.toNat + 0x100) fun s => mrCmd s index.toNat true

/-- RECORD_MIRROR. R360: A completion or fault record is mirrored to host memory by RDMA WRITE, or counted as dropped. -/
def execRecordMirror (entry : BitVec 6) (s : State) : Host.Outcome State Fault Refusal :=
  act s (mirrorNext s entry.toNat)

/-- HOST_PORT_LINK_UP. R345: A host Ethernet port's link comes up after auto-negotiation and training, or goes down, and
HPSTAT LINK_UP follows. -/
def execHostPortLinkUp (port : Nat) (up : Bool) (s : State) : Host.Outcome State Fault Refusal :=
  act s (linkChanges s port up)

end Sys2Proof.Machine
end

