-- ==== Sys2Proof/Machine/CmdJob.lean ====
section
/-! DEFINITION. CmdJob: the meanings of the job commands and register writes (R12, R34 to R38, R510). -/
namespace Sys2Proof.Machine

/-- JOB_START. R35: a JOB_CTL write with JOB_START. -/
def execJobStart (s : State) : Host.Outcome State Fault Refusal :=
  regRow s false Reg.GCTL_JOB_CTL 1 fun s => jobCtl s true false

/-- JOB_RELEASE. R36: a JOB_CTL write with JOB_RELEASE. -/
def execJobRelease (s : State) : Host.Outcome State Fault Refusal :=
  regRow s false Reg.GCTL_JOB_CTL 2 fun s => jobCtl s false true

/-- RELEASE_COMPLETE. R510: the release completes. -/
def execReleaseComplete (s : State) : Host.Outcome State Fault Refusal :=
  act s (releaseEnds s)

/-- REGISTER_WRITE. R12: a write of `len` bytes at a control-window offset, from the host or (`priv`) from management. -/
def execRegisterWrite (priv : Bool) (off : BitVec 28) (len : Nat) (val : W64) (s : State) : Host.Outcome State Fault Refusal :=
  act s (writeWindow s priv off.toNat len val.toNat)

end Sys2Proof.Machine
end

