-- ==== Sys2Proof/Machine/CmdMatrix.lean ====
section
/-! DEFINITION. CmdMatrix: the meanings of matrix commands and the events of their rows (R105 to R183). -/
namespace Sys2Proof.Machine

/-- MLOAD. R122. -/
def execMload (src : Src) (f : MLoad) (s : State) : Host.Outcome State Fault Refusal :=
  act s (directSlot src (.mload f) s)

/-- MLOAD_COMPLETE. R127: the plane is complete. -/
def execMloadComplete (id : Nat) (s : State) : Host.Outcome State Fault Refusal :=
  act s (afterEvent (onCmd s id fun s => planeCompletes s id))

/-- MORDANT_FRAME_ARRIVAL. R91: the next mordant frame of a command arrives. -/
def execMordantFrameArrival (id : Nat) (s : State) : Host.Outcome State Fault Refusal :=
  act s (afterEvent (onCmd s id fun s => frameArrives s id))

/-- MSTREAM. R123. -/
def execMstream (src : Src) (f : MStream) (s : State) : Host.Outcome State Fault Refusal :=
  act s (directSlot src (.mstream f) s)

/-- ROW_GROUP_ENTER. R128: the next row group of an MSTREAM enters. -/
def execRowGroupEnter (id : Nat) (s : State) : Host.Outcome State Fault Refusal :=
  act s (afterEvent (onCmd s id fun s => match s.cmd? id with | some c => rowGroup s c | none => s))

/-- MPAIR. R118. -/
def execMpair (src : Src) (claim : BitVec 2) (s : State) : Host.Outcome State Fault Refusal :=
  act s (directSlot src (.mpair claim) s)

/-- MDRAIN. R124. -/
def execMdrain (src : Src) (f : MDrain) (s : State) : Host.Outcome State Fault Refusal :=
  act s (directSlot src (.mdrain f) s)

/-- MDRAIN_START. R130: every update of the accumulation is complete. -/
def execMdrainStart (id : Nat) (s : State) : Host.Outcome State Fault Refusal :=
  act s (afterEvent (onCmd s id fun s => match s.cmd? id with | some c => mdrainBegin s c | none => s))

/-- EPILOGUE_ROW. R179: a row group runs through the epilogue and is written. -/
def execEpilogueRow (id : Nat) (s : State) : Host.Outcome State Fault Refusal :=
  act s (afterEvent (onCmd s id fun s => match s.cmd? id with | some c => epilogueRows s c | none => s))

/-- WATCH_PARTIAL_MERGE. R174: the oldest partial of a context merges. -/
def execWatchPartialMerge (loom ctx : Nat) (s : State) : Host.Outcome State Fault Refusal :=
  act s (mergePart s loom ctx)

/-- STATCFG. R175. -/
def execStatcfg (src : Src) (sth sgh : Handle) (clear : Bool) (s : State) : Host.Outcome State Fault Refusal :=
  act s (directSlot src (.statcfg sth sgh clear) s)

/-- STATREAD. R176. -/
def execStatread (src : Src) (f : StatRead) (s : State) : Host.Outcome State Fault Refusal :=
  act s (directSlot src (.statread f) s)

/-- QGRAD. R178. -/
def execQgrad (src : Src) (f : QGradF) (s : State) : Host.Outcome State Fault Refusal :=
  act s (directSlot src (.qgrad f) s)

end Sys2Proof.Machine
end

