-- ==== Sys2Proof/Machine/CmdMemory.lean ====
section
/-! DEFINITION. CmdMemory: the meanings of descriptors, the handle tables and the memory tiers (R215 to R220, R247 to R272). -/
namespace Sys2Proof.Machine

/-- DESC_COMMIT. R219. -/
def execDescCommit (slot : Nat) (index : BitVec 12) (s : State) : Host.Outcome State Fault Refusal :=
  regRow s false (Reg.CTX_DESC_COMMIT slot) index.toNat fun s => commitDesc s slot index.toNat

/-- DESC_INSTALL. R219: a waiting commit installs. -/
def execDescInstall (slot : Nat) (s : State) : Host.Outcome State Fault Refusal :=
  act s (installDesc s slot)

/-- DESC_READ. R219. -/
def execDescRead (slot : Nat) (index : BitVec 12) (s : State) : Host.Outcome State Fault Refusal :=
  regRow s false (Reg.CTX_DESC_COMMIT slot) (index.toNat + 0x2000) fun s => readDesc s slot index.toNat

/-- CLEAR_POISON. R219. -/
def execClearPoison (slot : Nat) (index : BitVec 12) (s : State) : Host.Outcome State Fault Refusal :=
  regRow s false (Reg.CTX_DESC_COMMIT slot) (index.toNat + 0x1000) fun s => unpoison s slot index.toNat

/-- HT_COMMIT. R256. -/
def execHtCommit (die : Nat) (index : BitVec 10) (s : State) : Host.Outcome State Fault Refusal :=
  regRow s false (Reg.HTAB_HT_COMMIT die) index.toNat fun s => commitEntry s die index.toNat

/-- HT_INVALIDATE. R256. -/
def execHtInvalidate (die : Nat) (index : BitVec 10) (s : State) : Host.Outcome State Fault Refusal :=
  regRow s false (Reg.HTAB_HT_COMMIT die) (index.toNat + 0x400) fun s => invalidateEntry s die index.toNat

/-- HT_INSTALL_DONE. R256: the waiting install completes. -/
def execHtInstallDone (die : Nat) (s : State) : Host.Outcome State Fault Refusal :=
  act s (finishEntry s die)

/-- BEAM_MODE_SWITCH. R271: a BEAM_MODE write. -/
def execBeamModeSwitch (die : Nat) (cache : BitVec 6) (s : State) : Host.Outcome State Fault Refusal :=
  regRow s false (Reg.HTAB_BEAM_MODE die) cache.toNat fun s => switchBeam s die cache.toNat

/-- BEAM_SWITCH_COMPLETE. R271: the running switch completes. -/
def execBeamSwitchComplete (die : Nat) (s : State) : Host.Outcome State Fault Refusal :=
  act s (endSwitch s die)

/-- SCRUB_PASS. R262: the scrubber reads a word. -/
def execScrubPass (addr : Nat) (err : MemError) (s : State) : Host.Outcome State Fault Refusal :=
  act s (scrub s addr err.line err.correctable)

/-- MEMORY_READ_ERROR. R261, R225: a read of a command, or a fetch, meets an error. -/
def execMemoryReadError (what : MemReader) (addr : Nat) (err : MemError) (s : State) : Host.Outcome State Fault Refusal :=
  act s (match what with
    | .cmd id => afterEvent (onCmd s id fun s => readError s what addr err.line err.correctable)
    | _ => afterEvent (readError s what addr err.line err.correctable))

/-- HBM_RETRAIN. R263: an HBM retraining window of so many picks opens. -/
def execHbmRetrain (die : Nat) (window temp : Nat) (s : State) : Host.Outcome State Fault Refusal :=
  act s (retrain s die window temp)

/-- CHANNEL_SPARE. R265: a channel reaches its threshold, or its copy completes. -/
def execChannelSpare (stack channel : Nat) (s : State) : Host.Outcome State Fault Refusal :=
  act s (spareChannel s stack channel)

/-- BANK_CLOSE. R268: a command to RETAIN or DARK reaches a bank. -/
def execBankClose (bank : Nat) (s : State) : Host.Outcome State Fault Refusal :=
  act s (bankCloses s bank)

/-- BANK_STATE_CHANGE. R268: a bank reaches its new state. -/
def execBankStateChange (bank : Nat) (s : State) : Host.Outcome State Fault Refusal :=
  act s (bankChanges s bank)

/-- LATE_BANK_ACCESS. R268: an access reaches a closed bank. -/
def execLateBankAccess (id : Nat) (addr : Nat) (s : State) : Host.Outcome State Fault Refusal :=
  act s (afterEvent (onCmd s id fun s => lateAccess s id addr))

end Sys2Proof.Machine
end

