-- ==== Sys2Proof/Machine/CmdMgmt.lean ====
section
/-! DEFINITION. CmdMgmt: the meanings of the management commands (R450 to R475). -/
namespace Sys2Proof.Machine

/-- LOCKSTEP_MISMATCH. R451: A lockstep mismatch resets Grembedun's cores, which restart from SRAM or flash, or stay held. -/
def execLockstepMismatch (pc : W64) (sram : List (Nat × Byte)) (sigOk : Bool) (s : State) : Host.Outcome State Fault Refusal :=
  act s (lockstep s pc.toNat sram sigOk)

/-- ENTDAA. R453: The I3C port takes a dynamic address by ENTDAA. -/
def execEntdaa (addr : BitVec 7) (s : State) : Host.Outcome State Fault Refusal :=
  act s (assignAddress s addr.toNat)

/-- SETDASA. R453: The I3C port takes a dynamic address by SETDASA from its static address. -/
def execSetdasa (static addr : BitVec 7) (s : State) : Host.Outcome State Fault Refusal :=
  act s (takeStatic s static.toNat addr.toNat)

/-- SET_ENDPOINT_ID. R455: Set Endpoint ID assigns an MCTP EID to a transport endpoint. -/
def execSetEndpointId (via : Channel) (eid : BitVec 8) (s : State) : Host.Outcome State Fault Refusal :=
  act s (s.arriving via fun ep => setEid s ep eid.toNat)

/-- PLDM_BASE_COMMAND. R456: GetTID, GetPLDMTypes, GetPLDMCommands and GetPLDMVersion return base information. -/
def execPldmBaseCommand (via : Channel) (cmd : PldmBase) (s : State) : Host.Outcome State Fault Refusal :=
  act s (s.arriving via fun ep => baseCommand s ep cmd)

/-- SET_EVENT_RECEIVER. R458: SetEventReceiver names the receiver of platform events. -/
def execSetEventReceiver (via : Channel) (eid : BitVec 8) (s : State) : Host.Outcome State Fault Refusal :=
  act s (s.arriving via fun ep => setReceiver s ep eid.toNat)

/-- SENSOR_READING_REQUEST. R457: A type 2 request returns a sensor value or state. -/
def execSensorReadingRequest (via : Channel) (sensor : BitVec 16) (s : State) : Host.Outcome State Fault Refusal :=
  act s (s.arriving via fun ep => readSensorFor s ep sensor.toNat)

/-- REG_READ. R459: REG_READ reads one control-window register over management. -/
def execRegRead (via : Channel) (off : BitVec 28) (s : State) : Host.Outcome State Fault Refusal :=
  act s (s.arriving via fun ep => regReadCmd s ep off.toNat)

/-- REG_WRITE. R459: REG_WRITE writes one register with Grembedun-only rights. -/
def execRegWrite (via : Channel) (off : BitVec 28) (val : W64) (s : State) : Host.Outcome State Fault Refusal :=
  act s (s.arriving via fun ep => regWriteCmd s ep off.toNat val.toNat)

/-- TOD_ARM_COMMAND. R459: TOD_ARM writes TOD_SEC and then ARM. -/
def execTodArmCommand (via : Channel) (seconds : BitVec 48) (s : State) : Host.Outcome State Fault Refusal :=
  act s (s.arriving via fun ep => todArmCmd s ep seconds.toNat)

/-- LOG_READ. R459: LOG_READ returns event log entries from SEQ onward. -/
def execLogRead (via : Channel) (seq : W64) (count : Nat) (s : State) : Host.Outcome State Fault Refusal :=
  act s (s.arriving via fun ep => logReadCmd s ep seq.toNat count)

/-- LOG_HEAD. R459: LOG_HEAD returns the newest SEQ and CHAIN. -/
def execLogHead (via : Channel) (s : State) : Host.Outcome State Fault Refusal :=
  act s (s.arriving via fun ep => logHeadCmd s ep)

/-- XFER_OPEN. R460: XFER_OPEN opens a staged transfer and returns a handle. -/
def execXferOpen (via : Channel) (kind : XferKind) (len : Nat) (s : State) : Host.Outcome State Fault Refusal :=
  act s (s.arriving via fun ep => openXfer s ep kind len)

/-- XFER_DATA. R460: XFER_DATA writes staged bytes. -/
def execXferData (via : Channel) (handle off : Nat) (bytes : List Byte) (s : State) : Host.Outcome State Fault Refusal :=
  act s (s.arriving via fun ep => dataXfer s ep handle off bytes)

/-- XFER_IDLE_TIMEOUT. R460: An open transfer that receives nothing for 10 s is discarded. -/
def execXferIdleTimeout (s : State) : Host.Outcome State Fault Refusal :=
  act s (idleXfer s)

/-- XFER_CLOSE_CERT. R471: XFER_CLOSE with CERT checks and logs the identity certificate chain. -/
def execXferCloseCert (via : Channel) (handle : Nat) (chainOk : Bool) (s : State) : Host.Outcome State Fault Refusal :=
  act s (s.arriving via fun ep => closeCert s ep handle chainOk)

/-- XFER_CLOSE_SWATCH. R474: XFER_CLOSE with SWATCH verifies a signed swatch and installs it in the store. -/
def execXferCloseSwatch (via : Channel) (handle : Nat) (key : Option (BitVec 512)) (s : State) : Host.Outcome State Fault Refusal :=
  act s (s.arriving via fun ep => closeSwatch s ep handle key)

/-- XFER_CLOSE_AUTH. R461: XFER_CLOSE with AUTH verifies a signed fuse command and burns FW_SVN_MIN or KEY_REVOKE bits. -/
def execXferCloseAuth (via : Channel) (handle : Nat) (sigOk : Bool) (s : State) : Host.Outcome State Fault Refusal :=
  act s (s.arriving via fun ep => closeAuth s ep handle sigOk)

/-- ATTEST. R472: ATTEST queues an attestation report request. -/
def execAttest (via : Channel) (nonce : BitVec 256) (s : State) : Host.Outcome State Fault Refusal :=
  act s (s.arriving via fun ep => attestCmd s ep nonce.toNat)

/-- ATTEST_SIGNED. R473: Grembedun forms the report body and signs it with the identity key. -/
def execAttestSigned (s : State) : Host.Outcome State Fault Refusal :=
  act s (signReport s)

/-- ATTEST_GET. R459: ATTEST_GET returns part of a signed report, or BUSY while it is being signed. -/
def execAttestGet (via : Channel) (handle off : Nat) (s : State) : Host.Outcome State Fault Refusal :=
  act s (s.arriving via fun ep => attestGetCmd s ep handle off)

/-- OWNER_BURN. R459: OWNER_BURN burns OWNER_HASH when it is still zero. -/
def execOwnerBurn (via : Channel) (hash : BitVec 256) (s : State) : Host.Outcome State Fault Refusal :=
  act s (s.arriving via fun ep => burnOwner s ep hash.toNat)

/-- SWATCH_CANDIDATE. R475: SWATCH_CANDIDATE installs the captured candidate as a store entry in STATE 2. -/
def execSwatchCandidate (via : Channel) (swid : W64) (s : State) : Host.Outcome State Fault Refusal :=
  act s (s.arriving via fun ep => installCandidate s ep swid.toNat)

/-- SWATCH_STATE. R475: SWATCH_STATE removes, restores or quarantines a store entry. -/
def execSwatchState (via : Channel) (entry : BitVec 8) (state : BitVec 2) (s : State) : Host.Outcome State Fault Refusal :=
  act s (s.arriving via fun ep => setStore s ep entry.toNat state.toNat)

/-- REQUEST_UPDATE. R462: RequestUpdate opens the single firmware update session. -/
def execRequestUpdate (via : Channel) (s : State) : Host.Outcome State Fault Refusal :=
  act s (s.arriving via fun ep => requestUpdateCmd s ep)

/-- REQUEST_FIRMWARE_DATA. R462: Grembedun requests component data, checks the header, erases the region and programs it. -/
def execRequestFirmwareData (via : Channel) (component : BitVec 16) (bytes : List Byte) (s : State) : Host.Outcome State Fault Refusal :=
  act s (s.arriving via fun ep => firmwareData s ep component.toNat bytes)

/-- VERIFY_COMPLETE. R462: At VerifyComplete, the signature over the bytes in flash is verified. -/
def execVerifyComplete (via : Channel) (sigOk : Bool) (s : State) : Host.Outcome State Fault Refusal :=
  act s (s.arriving via fun ep => verifyUpdate s ep sigOk)

/-- ACTIVATE_FIRMWARE. R464: ActivateFirmware continues bring-up, reruns CONFIG or defers to the next power cycle. -/
def execActivateFirmware (via : Channel) (s : State) : Host.Outcome State Fault Refusal :=
  act s (s.arriving via fun ep => activateCmd s ep)

/-- CANCEL_UPDATE. R463: CancelUpdate ends the session and leaves an erased region invalid. -/
def execCancelUpdate (via : Channel) (s : State) : Host.Outcome State Fault Refusal :=
  act s (s.arriving via fun ep => cancelUpdateCmd s ep)

end Sys2Proof.Machine
end

