-- ==== Sys2Proof/Machine/CmdMover.lean ====
section
/-! DEFINITION. CmdMover: the meanings of the mover commands (R273 to R284). -/
namespace Sys2Proof.Machine

/-- MOVE. R274. -/
def execMove (src : Src) (dst from_ : Handle) (s : State) : Host.Outcome State Fault Refusal :=
  act s (directSlot src (.move dst from_) s)

/-- FILL. R275. -/
def execFill (src : Src) (dst : Handle) (val : W32) (s : State) : Host.Outcome State Fault Refusal :=
  act s (directSlot src (.fill dst val) s)

/-- COPY. R276. -/
def execCopy (src : Src) (dst from_ : Handle) (s : State) : Host.Outcome State Fault Refusal :=
  act s (directSlot src (.copy dst from_) s)

/-- XPOSE. R277. -/
def execXpose (src : Src) (f : XPose) (s : State) : Host.Outcome State Fault Refusal :=
  act s (directSlot src (.xpose f) s)

/-- MOVER_READ_FAULT. R281: the failing frame that a mover command reads arrives. -/
def execMoverReadFault (id : Nat) (s : State) : Host.Outcome State Fault Refusal :=
  act s (afterEvent (onCmd s id fun s => moverFaults s id))

end Sys2Proof.Machine
end

