-- ==== Sys2Proof/Machine/CmdPower.lean ====
section
/-! DEFINITION. CmdPower: the meanings of power commands, droop, caps and thermal limits (R434 to R449). -/
namespace Sys2Proof.Machine

/-- PWR_DEVICE_PARKED. R437: A device command to PARKED runs TRAIN and the later phases, or makes a service park. -/
def execPwrDeviceParked (count : BitVec 9) (s : State) : Host.Outcome State Fault Refusal :=
  regRow s false Reg.PWR_PWR_CMD (pwrWord 0 1 0 count.toNat) fun s => pwrCmd s 0 1 0 count.toNat

/-- PWR_DEVICE_READY. R437: A device command to READY returns the looms that a service park gated to ON. -/
def execPwrDeviceReady (count : BitVec 9) (s : State) : Host.Outcome State Fault Refusal :=
  regRow s false Reg.PWR_PWR_CMD (pwrWord 0 2 0 count.toNat) fun s => pwrCmd s 0 2 0 count.toNat

/-- PWR_DEVICE_MGMT. R437: A device command to MGMT powers off the compute, beam and link dies and HBM. -/
def execPwrDeviceMgmt (count : BitVec 9) (s : State) : Host.Outcome State Fault Refusal :=
  regRow s false Reg.PWR_PWR_CMD (pwrWord 0 0 0 count.toNat) fun s => pwrCmd s 0 0 0 count.toNat

/-- PWR_DEVICE_SHUTDOWN. R437: A device command to SHUTDOWN closes the event log and sets SHUTDOWN_OK. -/
def execPwrDeviceShutdown (count : BitVec 9) (s : State) : Host.Outcome State Fault Refusal :=
  regRow s false Reg.PWR_PWR_CMD (pwrWord 0 3 0 count.toNat) fun s => pwrCmd s 0 3 0 count.toNat

/-- PWR_LOOM_ON. R438: A loom command to ON returns looms from GATED or DARK. -/
def execPwrLoomOn (index count : BitVec 9) (s : State) : Host.Outcome State Fault Refusal :=
  regRow s false Reg.PWR_PWR_CMD (pwrWord 1 0 index.toNat count.toNat) fun s => pwrCmd s 1 0 index.toNat count.toNat

/-- PWR_LOOM_GATED. R439: A loom command to GATED stops the loom's streams and gates the loom once it is quiet. -/
def execPwrLoomGated (index count : BitVec 9) (s : State) : Host.Outcome State Fault Refusal :=
  regRow s false Reg.PWR_PWR_CMD (pwrWord 1 1 index.toNat count.toNat) fun s => pwrCmd s 1 1 index.toNat count.toNat

/-- PWR_LOOM_DARK. R439: A loom command to DARK stops the loom's streams and cuts its rail once it is quiet. -/
def execPwrLoomDark (index count : BitVec 9) (s : State) : Host.Outcome State Fault Refusal :=
  regRow s false Reg.PWR_PWR_CMD (pwrWord 1 2 index.toNat count.toNat) fun s => pwrCmd s 1 2 index.toNat count.toNat

/-- LOOM_QUIET. R439: Once no command of a commanded loom is in flight, the loom changes power state. -/
def execLoomQuiet (loom : Nat) (s : State) : Host.Outcome State Fault Refusal :=
  act s (loomQuiets s loom)

/-- PWR_BANK_ON. R438: A bank command to ON reopens banks, zero-filling those that were DARK. -/
def execPwrBankOn (index count : BitVec 9) (s : State) : Host.Outcome State Fault Refusal :=
  regRow s false Reg.PWR_PWR_CMD (pwrWord 2 0 index.toNat count.toNat) fun s => pwrCmd s 2 0 index.toNat count.toNat

/-- PWR_BANK_RETAIN. R268: A bank command to RETAIN closes banks and keeps their contents. -/
def execPwrBankRetain (index count : BitVec 9) (s : State) : Host.Outcome State Fault Refusal :=
  regRow s false Reg.PWR_PWR_CMD (pwrWord 2 1 index.toNat count.toNat) fun s => pwrCmd s 2 1 index.toNat count.toNat

/-- PWR_BANK_DARK. R269: A bank command to DARK closes banks and drops their contents, unless a resident entry covers them. -/
def execPwrBankDark (index count : BitVec 9) (s : State) : Host.Outcome State Fault Refusal :=
  regRow s false Reg.PWR_PWR_CMD (pwrWord 2 2 index.toNat count.toNat) fun s => pwrCmd s 2 2 index.toNat count.toNat

/-- CAP_CONTROL. R443: At each shed boundary, Grembedun compares average power with CAP_W and moves the cap ceiling. -/
def execCapControl (watts : Nat) (s : State) : Host.Outcome State Fault Refusal :=
  act s (capControls s watts)

/-- DROOP_DETECT. R444: A droop detector fires and the loom clock is halved, held and ramped back. -/
def execDroopDetect (loom : Nat) (s : State) : Host.Outcome State Fault Refusal :=
  act s (droops s loom)

/-- DROOP_EXCESS. R445: A loom delivering less than 75% of its reference cycles in a shed raises DROOP_EXCESS. -/
def execDroopExcess (loom : Nat) (share : Nat) (s : State) : Host.Outcome State Fault Refusal :=
  act s (droopShare s loom share)

/-- SENSOR_READ. R446: Every 100 µs, Grembedun reads the 96 sensors and acts on their WARN, THROTTLE and TRIP limits. -/
def execSensorRead (temps : List Int) (s : State) : Host.Outcome State Fault Refusal :=
  act s (readSensors s temps)

/-- THERMAL_CEILING_UPDATE. R447: At shed boundaries, the thermal ceiling falls while a sensor is at THROTTLE and rises when
it cools. -/
def execThermalCeilingUpdate (s : State) : Host.Outcome State Fault Refusal :=
  act s (thermalUpdate s)

/-- THERMAL_BACKSTOP. R447: A sensor at TRIP + 5 °C makes the regulator dies cut every core rail without firmware. -/
def execThermalBackstop (sensor : Nat) (s : State) : Host.Outcome State Fault Refusal :=
  act s (Sys2Proof.Machine.thermalBackstop s sensor)

/-- POWER_TRANSITION_COMPLETE. R438: A timed power transition, such as loom DARK to ON with bobbin zero-fill, bank DARK to ON
with zero-fill, or device to MGMT, finishes: the state changes and PWR_STAT DONE sets. -/
def execPowerTransitionComplete (s : State) : Host.Outcome State Fault Refusal :=
  act s (transitionEnds s)

end Sys2Proof.Machine
end

