-- ==== Sys2Proof/Machine/CmdRecord.lean ====
section
/-! DEFINITION. CmdRecord: the meanings of fault records, the event log, counters and traces (R465 to R468, R476 to R486, R502 to R509). -/
namespace Sys2Proof.Machine

/-- FAULT_RECORD_WRITE. R505: The ring writer takes queued fault records and writes them into the fault-record ring. -/
def execFaultRecordWrite (q : Nat) (s : State) : Host.Outcome State Fault Refusal :=
  act s (writeRecord s q)

/-- FR_CTL_WRITE. R509: An FR_CTL write enables the fault ring with its size, or clears EN when no job is active. -/
def execFrCtlWrite (log2n : BitVec 5) (en : Bool) (s : State) : Host.Outcome State Fault Refusal :=
  regRow s false Reg.FAULT_FR_CTL (log2n.toNat + 32 * bit en) fun s => frCtl s log2n.toNat en

/-- LOG_ENTRY_WRITE. R467: Grembedun writes a chained entry into the flash event log. -/
def execLogEntryWrite (s : State) : Host.Outcome State Fault Refusal :=
  act s (writeLog s)

/-- COUNTER_SNAPSHOT. R480: At each shed boundary, the collector latches every counter and writes a snapshot entry. -/
def execCounterSnapshot (events : List CntEvent) (s : State) : Host.Outcome State Fault Refusal :=
  act s (snapshot s events)

/-- COUNTER_CFG_WRITE. R479: A counter CFG write, or ZERO, takes effect after the next shed boundary's latch. -/
def execCounterCfgWrite (slot : BitVec 8) (counter : BitVec 3) (val : W64) (s : State) : Host.Outcome State Fault Refusal :=
  regRow s true (Reg.CNT_CFG 0 0 - 0x40 + 0x40 * slot.toNat + 8 * counter.toNat) val.toNat fun s => counterCfg s slot.toNat counter.toNat val.toNat

/-- CLEAR_ALL. R479: CLEAR_ALL zeroes every counter at the next shed boundary. -/
def execClearAll (s : State) : Host.Outcome State Fault Refusal :=
  regRow s true Reg.CNT_CNT_CTL (2 + s.fld Reg.CNT_CNT_CTL_RUN) fun s => clearCounters s

/-- SNAPSHOT_ABANDONED. R480: An entry not written by the next boundary is abandoned and LOST counts it. -/
def execSnapshotAbandoned (s : State) : Host.Outcome State Fault Refusal :=
  act s (abandonSnapshot s)

/-- TRACE_RECORD_WRITE. R485: The collector writes buffered trace records into the trace ring, or drops them when a buffer is
full. -/
def execTraceRecordWrite (die : Nat) (s : State) : Host.Outcome State Fault Refusal :=
  act s (writeTrace s die)

/-- CNT_ACCESS_WRITE. R482: A privileged write to CNT_ACCESS sets or clears user access to counters and rings. -/
def execCntAccessWrite (priv : Bool) (user : Bool) (s : State) : Host.Outcome State Fault Refusal :=
  regRow s priv Reg.CNT_CNT_ACCESS (bit user) fun s => writeAccess s priv user

end Sys2Proof.Machine
end

