-- ==== Sys2Proof/Machine/CmdResil.lean ====
section
/-! DEFINITION. CmdResil: the meanings of votes, checkpoints, spares and swatches (R366 to R408). -/
namespace Sys2Proof.Machine

/-- CKPT_CUT. R378. -/
def execCkptCut (src : Src) (f : CkptF) (s : State) : Host.Outcome State Fault Refusal :=
  act s (directSlot src (.ckptCut f) s)

/-- CKPT_VOTE. R372. -/
def execCkptVote (src : Src) (f : CkptF) (s : State) : Host.Outcome State Fault Refusal :=
  act s (directSlot src (.ckptVote f) s)

/-- CKPT_LATE_REJECT. R371: a held CKPT meets its pick with earlier commands unretired. -/
def execCkptLateReject (loom stream : Nat) (s : State) : Host.Outcome State Fault Refusal :=
  act s (retryHead s loom stream fun c => match c with | .ckptCut _ | .ckptVote _ => true | _ => false)

/-- VOTE_DECIDE. R374: the gather ends with its records (VSTEP, two lanes, INVALID) or a fault. -/
def execVoteDecide (recs : List (Nat × Nat × Nat × Bool)) (failure : Option (BitVec 16 × Nat)) (s : State) : Host.Outcome State Fault Refusal :=
  act s (afterEvent (voteDecides s recs failure))

/-- CAPTURE_END. R380: the capture ends. -/
def execCaptureEnd (s : State) : Host.Outcome State Fault Refusal :=
  act s (afterEvent (captureEnds s))

/-- COPY_ON_WRITE. R381: a write meets an undrained image granule. -/
def execCopyOnWrite (buf granule : Nat) (s : State) : Host.Outcome State Fault Refusal :=
  act s (copyOnWriteOp s buf granule)

/-- DRAIN_GRANULE_SEND. R384: the next granule is sent; a SEND's too (R385). -/
def execDrainGranuleSend (s : State) : Host.Outcome State Fault Refusal :=
  act s (granulesSend s)

/-- CLOSING_RECORD_ACK. R384: the closing record is acknowledged. -/
def execClosingRecordAck (s : State) : Host.Outcome State Fault Refusal :=
  act s (closingAcked s)

/-- DRAIN_FAIL. R386: the drain fails. -/
def execDrainFail (reason : BitVec 4) (s : State) : Host.Outcome State Fault Refusal :=
  act s (drainFailOp s reason.toNat)

/-- BUDDY_GRANULE_RECEIVE. R385: a granule or the closing record arrives. -/
def execBuddyGranuleReceive (granule : Nat) (closing : Bool) (bytes : List Byte) (s : State) : Host.Outcome State Fault Refusal :=
  act s (buddyReceives s granule closing bytes)

/-- BUDDY_SEND. R385: a BUDDY_CTL write with SEND. -/
def execBuddySend (flow : BitVec 20) (s : State) : Host.Outcome State Fault Refusal :=
  regRow s false Reg.RES_BUDDY_CTL (1 + 2 * flow.toNat) fun s => buddySends s flow.toNat

/-- RESTORE_GO. R387: an RST_CTL write with GO. -/
def execRestoreGo (s : State) : Host.Outcome State Fault Refusal :=
  regRow s false Reg.RES_RST_CTL 1 fun s => restoreGoes s

/-- RESTORE_COMPLETE. R388: the restore completes. -/
def execRestoreComplete (s : State) : Host.Outcome State Fault Refusal :=
  act s (restoreEnds s)

/-- REJOIN. R376: a VOTE_CTL write with REJOIN. -/
def execRejoin (s : State) : Host.Outcome State Fault Refusal :=
  regRow s false Reg.RES_VOTE_CTL 1 fun s => rejoinOp s

/-- SPARE_CMD. R403: a SPARE_CMD write with GO. -/
def execSpareCmd (loom : BitVec 7) (s : State) : Host.Outcome State Fault Refusal :=
  regRow s false Reg.RES_SPARE_CMD (loom.toNat + 0x80) fun s => spareRequest s loom.toNat

/-- SPARE_REMAP. R23: the shed boundary of a pending substitution. -/
def execSpareRemap (s : State) : Host.Outcome State Fault Refusal :=
  act s (spareRemaps s)

/-- HEALTH_SUSPECT. R402: a HEALTH write of SUSPECT. -/
def execHealthSuspect (s : State) : Host.Outcome State Fault Refusal :=
  regRow s false Reg.RES_HEALTH 1 fun s => suspect s

/-- CAP_ARM. R392: a CAP_START write with ARM. -/
def execCapArm (s : State) : Host.Outcome State Fault Refusal :=
  regRow s false Reg.RES_CAP_START ((s.reg Reg.RES_CAP_START).toNat + 2 ^ 63) fun s => armCapture s

/-- SWATCH. R398. -/
def execSwatch (src : Src) (sw : BitVec 16) (out : Handle) (s : State) : Host.Outcome State Fault Refusal :=
  act s (directSlot src (.swatch sw out) s)

/-- SWATCH_START. R399: a held SWATCH starts. -/
def execSwatchStart (loom stream : Nat) (s : State) : Host.Outcome State Fault Refusal :=
  act s (retryHead s loom stream fun c => match c with | .swatch _ _ => true | _ => false)

/-- SWATCH_COMPLETE. R400: the program of a running swatch has ended. -/
def execSwatchComplete (loom stream : Nat) (s : State) : Host.Outcome State Fault Refusal :=
  act s (afterEvent (swatchEnds s loom stream))

/-- QUARANTINE. R397: an SWS_CTL write with QUARANTINE. -/
def execQuarantine (entry : BitVec 8) (s : State) : Host.Outcome State Fault Refusal :=
  regRow s false (Reg.RES_SWS_CTL entry.toNat) 4 fun s => quarantineEntry s entry.toNat

end Sys2Proof.Machine
end

