-- ==== Sys2Proof/Machine/CmdStream.lean ====
section
/-! DEFINITION. CmdStream: the meanings of bundles, scalar commands, rings, contexts and instruction memory (R207 to R246, R511). -/
namespace Sys2Proof.Machine

/-- BUNDLE_ISSUE. R210: the next bundle of a stream issues, or a held one goes on. -/
def execBundleIssue (loom stream : Nat) (s : State) : Host.Outcome State Fault Refusal :=
  act s (issueNext s loom stream)

/-- BUNDLE_SIGNAL_SET. R212: the signal set of the oldest bundle is performed. -/
def execBundleSignalSet (loom stream : Nat) (s : State) : Host.Outcome State Fault Refusal :=
  act s (afterEvent (signalSet s loom stream))

/-- COMMAND_RETIRE. R237: a command retires. -/
def execCommandRetire (id : Nat) (s : State) : Host.Outcome State Fault Refusal :=
  act s (cmdRetires s id)

/-- TIME_BUDGET_EXPIRY. R243: a command passes its budget. -/
def execTimeBudgetExpiry (what : BudgetRef) (s : State) : Host.Outcome State Fault Refusal :=
  act s (match what with
    | .cmd id => afterEvent (onCmd s id fun s => cmdBudget s id)
    | .hold loom stream => afterEvent (holdBudget s loom stream))

/-- CSET. R221. -/
def execCset (src : Src) (cd : BitVec 4) (imm : W32) (s : State) : Host.Outcome State Fault Refusal :=
  act s (directSlot src (.cset cd imm) s)

/-- CADD. R221. -/
def execCadd (src : Src) (f : CAdd) (s : State) : Host.Outcome State Fault Refusal :=
  act s (directSlot src (.cadd f) s)

/-- CMP. R221. -/
def execCmp (src : Src) (f : CmpF) (s : State) : Host.Outcome State Fault Refusal :=
  act s (directSlot src (.cmp f) s)

/-- LOOP. R222. -/
def execLoop (src : Src) (cnt idx : BitVec 4) (idxen : Bool) (s : State) : Host.Outcome State Fault Refusal :=
  act s (directSlot src (.loop cnt idx idxen) s)

/-- ENDLOOP. R222. -/
def execEndloop (src : Src) (s : State) : Host.Outcome State Fault Refusal :=
  act s (directSlot src (.endloop) s)

/-- SKIPIF. R223. -/
def execSkipif (src : Src) (k : BitVec 3) (sense : Bool) (n : BitVec 8) (s : State) : Host.Outcome State Fault Refusal :=
  act s (directSlot src (.skipif k sense n) s)

/-- RUN. R225. -/
def execRun (src : Src) (page : BitVec 6) (word : BitVec 9) (pgen : BitVec 8) (s : State) : Host.Outcome State Fault Refusal :=
  act s (directSlot src (.run page word pgen) s)

/-- WAITSEM. R235. -/
def execWaitsem (src : Src) (sem : BitVec 6) (n : W32) (s : State) : Host.Outcome State Fault Refusal :=
  act s (directSlot src (.waitsem sem n) s)

/-- SIGNAL. R235. -/
def execSignal (src : Src) (sem : BitVec 6) (loom : BitVec 7) (stream : BitVec 4) (add : W32) (s : State) : Host.Outcome State Fault Refusal :=
  act s (directSlot src (.signal sem loom stream add) s)

/-- WAITPICK. R60. -/
def execWaitpick (src : Src) (p : PickSrc) (s : State) : Host.Outcome State Fault Refusal :=
  act s (directSlot src (.waitpick p) s)

/-- WAITPICK_RELEASE. R60: the target pick of a held WAITPICK comes. -/
def execWaitpickRelease (loom stream : Nat) (s : State) : Host.Outcome State Fault Refusal :=
  act s (retryHead s loom stream fun c => match c with | .waitpick _ => true | _ => false)

/-- FENCE. R233. -/
def execFence (src : Src) (crec : Bool) (s : State) : Host.Outcome State Fault Refusal :=
  act s (directSlot src (.fence crec) s)

/-- DOORBELL. R229. -/
def execDoorbell (loom stream : Nat) (tail : W32) (added : BitVec 16) (s : State) : Host.Outcome State Fault Refusal :=
  regRow s false (Reg.CTX_DOORBELL (ctxSlot loom stream) (stream / 4)) (tail.toNat + 2 ^ 32 * added.toNat) fun s => ringBell s loom stream tail.toNat added.toNat

/-- RING_CTL_WRITE. R228. -/
def execRingCtlWrite (loom stream : Nat) (log2size : BitVec 5) (enable : Bool) (s : State) : Host.Outcome State Fault Refusal :=
  regRow s false (Reg.CTX_RING_CTL (ctxSlot loom stream) (stream / 4)) (log2size.toNat + 256 * bit enable) fun s => ringCtl s loom stream log2size.toNat enable

/-- STOP. R511: a CCTL write with STOP. -/
def execStop (slot : Nat) (s : State) : Host.Outcome State Fault Refusal :=
  regRow s false (Reg.CTX_CCTL slot) (1 + 4 * s.fld (Reg.CTX_CCTL_FORCE_PACED slot)) fun s => stopCtx s slot

/-- RESUME. R232: a CCTL write with RESUME. -/
def execResume (slot : Nat) (s : State) : Host.Outcome State Fault Refusal :=
  regRow s false (Reg.CTX_CCTL slot) (2 + 4 * s.fld (Reg.CTX_CCTL_FORCE_PACED slot)) fun s => resumeCtx s slot

/-- RESUME_EFFECT. R232: an accepted RESUME takes effect. -/
def execResumeEffect (loom stream : Nat) (s : State) : Host.Outcome State Fault Refusal :=
  act s (resumeTakes s loom stream)

/-- SEMADD. R235. -/
def execSemadd (loom stream : Nat) (sem : BitVec 6) (add : W32) (s : State) : Host.Outcome State Fault Refusal :=
  regRow s false (Reg.CTX_SEMADD (ctxSlot loom stream) (stream / 4)) (sem.toNat + 2 ^ 32 * add.toNat) fun s => addSignal s loom stream sem.toNat add.toNat

/-- STREAM_SLICE. R234: the firmware slices at a shed boundary. -/
def execStreamSlice (loom ctx : Nat) (s : State) : Host.Outcome State Fault Refusal :=
  act s (slice s loom ctx)

/-- IMEM_LOAD_GO. R226: an IMLD_CTL write with GO. -/
def execImemLoadGo (loom : Nat) (s : State) : Host.Outcome State Fault Refusal :=
  regRow s false (Reg.LOOM_IMLD_CTL loom) (loadWord s loom false) fun s => writeLoad s false loom (Reg.LOOM_IMLD_CTL loom) (loadWord s loom false)

/-- IMEM_FORCED_LOAD. R226: an IMLD_CTL write with GO and FORCE by Grembedun. -/
def execImemForcedLoad (loom : Nat) (s : State) : Host.Outcome State Fault Refusal :=
  regRow s true (Reg.LOOM_IMLD_CTL loom) (loadWord s loom true) fun s => writeLoad s true loom (Reg.LOOM_IMLD_CTL loom) (loadWord s loom true)

/-- IMEM_LOAD_START. R226: no stream of the loom is inside a program. -/
def execImemLoadStart (loom : Nat) (s : State) : Host.Outcome State Fault Refusal :=
  act s (beginLoad s loom)

/-- IMEM_LOAD_COMPLETE. R226: the last word is written. -/
def execImemLoadComplete (loom : Nat) (s : State) : Host.Outcome State Fault Refusal :=
  act s (endLoad s loom)

end Sys2Proof.Machine
end

