-- ==== Sys2Proof/Machine/CmdTime.lean ====
section
/-! DEFINITION. CmdTime: the meanings of fabric time (R41 to R62). -/
namespace Sys2Proof.Machine

/-- PPS_IN_EDGE. R47: a rising edge on PPS_IN. -/
def execPpsInEdge (s : State) : Host.Outcome State Fault Refusal :=
  act s (ppsEdge s)

/-- TOD_ARM. R62: a TOD_CTL write with ARM. -/
def execTodArm (s : State) : Host.Outcome State Fault Refusal :=
  regRow s true Reg.TIME_TOD_CTL 1 fun s => armTod s

/-- ANNOUNCE_CELL_SEND. R46: the device sends its announce cells. -/
def execAnnounceCellSend (s : State) : Host.Outcome State Fault Refusal :=
  act s (announceSend s)

/-- ANNOUNCE_CELL_RECEIVE. R46: an announce cell with a valid tag arrives. -/
def execAnnounceCellReceive (port : Nat) (key : BitVec 136) (hops : BitVec 8) (seq : W32) (s : State) : Host.Outcome State Fault Refusal :=
  act s (announceArrives s port key.toNat hops.toNat seq.toNat)

/-- GRANDMASTER_LOST. R49: eight sheds without a cell from the grandmaster. -/
def execGrandmasterLost (s : State) : Host.Outcome State Fault Refusal :=
  act s (grandmasterGone s)

/-- DELAY_EXCHANGE. R50: an exchange of four timestamps with the parent, in units of 2^-16 picks. -/
def execDelayExchange (t1 t2 t3 t4 : Int) (tagOk : Bool) (s : State) : Host.Outcome State Fault Refusal :=
  act s (exchange s t1 t2 t3 t4 tagOk)

/-- PARENT_LOST. R56: sixteen consecutive exchanges have been missed. -/
def execParentLost (s : State) : Host.Outcome State Fault Refusal :=
  act s (parentGone s)

/-- HOLDOVER_LIMIT_EXPIRY. R57: HOLDOVER_ELAPSED reaches HOLDOVER_LIMIT. -/
def execHoldoverLimitExpiry (s : State) : Host.Outcome State Fault Refusal :=
  act s (holdoverOver s)

/-- UNSYNC_RESYNC. R58: a device in UNSYNC finds a path to a grandmaster. -/
def execUnsyncResync (port : Nat) (time : Nat) (s : State) : Host.Outcome State Fault Refusal :=
  act s (resyncs s port time)

/-- PPS_OUT_PULSE. R61: a second begins. -/
def execPpsOutPulse (s : State) : Host.Outcome State Fault Refusal :=
  act s (ppsPulse s)

/-- PPS_PRESENT_EXPIRY. R45: When 2 s pass with no PPS_IN edge, PPS_PRESENT clears and the device is no longer grandmaster-
capable. -/
def execPpsPresentExpiry (s : State) : Host.Outcome State Fault Refusal :=
  act s (ppsExpires s)

end Sys2Proof.Machine
end

