-- ==== Sys2Proof/Machine/CmdVector.lean ====
section
/-! DEFINITION. CmdVector: the meanings of the vector commands (R184 to R206). -/
namespace Sys2Proof.Machine

/-- VBIN. R188. -/
def execVbin (src : Src) (f : Vec) (s : State) : Host.Outcome State Fault Refusal :=
  act s (directSlot src (.vec .vbin f) s)

/-- VUN. R188. -/
def execVun (src : Src) (f : Vec) (s : State) : Host.Outcome State Fault Refusal :=
  act s (directSlot src (.vec .vun f) s)

/-- VRED. R188. -/
def execVred (src : Src) (f : Vec) (s : State) : Host.Outcome State Fault Refusal :=
  act s (directSlot src (.vec .vred f) s)

/-- SMSTEP. R188. -/
def execSmstep (src : Src) (f : Vec) (s : State) : Host.Outcome State Fault Refusal :=
  act s (directSlot src (.vec .smstep f) s)

/-- SMNORM. R188. -/
def execSmnorm (src : Src) (f : Vec) (s : State) : Host.Outcome State Fault Refusal :=
  act s (directSlot src (.vec .smnorm f) s)

/-- SMRECOMP. R188. -/
def execSmrecomp (src : Src) (f : Vec) (s : State) : Host.Outcome State Fault Refusal :=
  act s (directSlot src (.vec .smrecomp f) s)

/-- VINT. R188. -/
def execVint (src : Src) (f : Vec) (s : State) : Host.Outcome State Fault Refusal :=
  act s (directSlot src (.vec .vint f) s)

/-- DROPOUT. R188. -/
def execDropout (src : Src) (f : Vec) (s : State) : Host.Outcome State Fault Refusal :=
  act s (directSlot src (.vec .dropout f) s)

/-- CAUSAL. R188. -/
def execCausal (src : Src) (f : Vec) (s : State) : Host.Outcome State Fault Refusal :=
  act s (directSlot src (.vec .causal f) s)

/-- CONVERT. R188. -/
def execConvert (src : Src) (f : Vec) (s : State) : Host.Outcome State Fault Refusal :=
  act s (directSlot src (.vec .convert f) s)

end Sys2Proof.Machine
end

