-- ==== Sys2Proof/Machine/CmdWeave.lean ====
section
/-! DEFINITION. CmdWeave: the meanings of slots, throws, collectives, ports and schedules (R309 to R344). -/
namespace Sys2Proof.Machine

/-- What a failing word or a shut bank leaves of the THROW whose slot a port is to send (R261, R268); none where the slot can be sent. -/
def slotFault (s : State) (port : Nat) : Option State :=
  if slotsRun s port && (s.port port).sent != some (s.pick, s.time.holdTo) then
    match readsThrow s port s.pick with
    | some (_, t, k) => if t.engine.isSome then none else throwReadFault s t k
    | none => none
  else none

/-- SLOT_TRANSMIT: the slot that stands at the present pick, once what it reads has been read (R261, R268, R313). -/
def sendSlot (s : State) (port : Nat) : State :=
  match slotFault s port with
  | some s' => transmit (afterEvent s') port
  | none => transmit s port

/-- SLOT_TRANSMIT. R313. -/
def execSlotTransmit (port : Nat) (s : State) : Host.Outcome State Fault Refusal :=
  act s (sendSlot s port)

/-- SLOT_RECEIVE. R327. -/
def execSlotReceive (port : Nat) (m : RxSlot) (s : State) : Host.Outcome State Fault Refusal :=
  act s (afterEvent (receive s port m))

/-- SLOT_RETRANSMIT. R327. -/
def execSlotRetransmit (port : Nat) (s : State) : Host.Outcome State Fault Refusal :=
  act s (retransmit s port)

/-- THROW. R324. -/
def execThrowTo (src : Src) (from_ : Handle) (fc : BitVec 4) (len : BitVec 40) (s : State) : Host.Outcome State Fault Refusal :=
  act s (directSlot src (.throwTo from_ fc len) s)

/-- THROW_ADMIT. R326: a held THROW of a stream issues and is admitted. -/
def execThrowAdmit (loom stream : Nat) (s : State) : Host.Outcome State Fault Refusal :=
  act s (retryHead s loom stream fun c => match c with | .throwTo _ _ _ => true | _ => false)

/-- CATCH. R325. -/
def execCatchAt (src : Src) (dst : Handle) (fc : BitVec 4) (len : BitVec 40) (s : State) : Host.Outcome State Fault Refusal :=
  act s (directSlot src (.catchAt dst fc len) s)

/-- CREDIT. R325: A CREDIT flow record arrives at the source and is queued for its catcher. -/
def execCredit (flow : BitVec 20) (cidx : BitVec 8) (len : BitVec 40) (s : State) : Host.Outcome State Fault Refusal :=
  act s (creditArrives s flow.toNat cidx.toNat len.toNat)

/-- DELIVERED. R330: A DELIVERED record arrives at the sender and the THROW retires when every catcher has reported. -/
def execDelivered (flow : BitVec 20) (cidx : BitVec 8) (tseq : W32) (s : State) : Host.Outcome State Fault Refusal :=
  act s (afterEvent (deliveredArrives s flow.toNat cidx.toNat tseq.toNat))

/-- FAILED. R329: A FAILED record at a catcher faults its CATCH with THROW_REJECTED. -/
def execThrowFailed (flow : BitVec 20) (tseq : W32) (reason : BitVec 8) (s : State) : Host.Outcome State Fault Refusal :=
  act s (afterEvent (failedArrives s flow.toNat tseq.toNat reason.toNat))

/-- EXPIRED. R329: An EXPIRED record at a catcher faults its CATCH with THROW_DEADLINE. -/
def execThrowExpired (which : ThrowId) (s : State) : Host.Outcome State Fault Refusal :=
  act s (afterEvent (expiredArrives s which.flow.toNat which.tseq.toNat))

/-- CREDIT_LIFE_EXPIRY. R325: A credit unused for CREDIT_LIFE picks expires and EXPIRED is sent, or a THROW waiting that long
is rejected. -/
def execCreditLifeExpiry (what : CreditRef) (s : State) : Host.Outcome State Fault Refusal :=
  act s (match what with
    | .credit flow cidx => creditExpires s flow.toNat cidx.toNat
    | .waiting loom stream => afterEvent (creditWaitOver s loom stream))

/-- THROW_DEADLINE_EXPIRY. R330: At DEADLINE, a THROW lacking DELIVERED faults with THROW_DEADLINE. -/
def execThrowDeadlineExpiry (id : Nat) (s : State) : Host.Outcome State Fault Refusal :=
  act s (afterEvent (if engineId s id then throwDeadline s id else onCmd s id fun s => throwDeadline s id))

/-- CATCH_DEADLINE_EXPIRY. R329: A CATCH incomplete at CDL, or with no FIRST slot by its timeout, faults with THROW_DEADLINE.
-/
def execCatchDeadlineExpiry (id : Nat) (s : State) : Host.Outcome State Fault Refusal :=
  act s (afterEvent (onCmd s id fun s => catchDeadline s id))

/-- CATCH_DELIVERY_COMPLETE. R329: When every byte of the throw is written, the CATCH retires and DELIVERED is sent. -/
def execCatchDeliveryComplete (id : Nat) (s : State) : Host.Outcome State Fault Refusal :=
  act s (afterEvent (onCmd s id fun s => catchComplete s id))

/-- COLLECTIVE_COMPLETE. R333: The collective combines its members' ranges and writes OUT. -/
def execCollectiveComplete (id : Nat) (parts : List CollPart) (digests : List (BitVec 256)) (s : State) :
    Host.Outcome State Fault Refusal :=
  act s (afterEvent (onCmd s id fun s => collComplete s id (parts.zip (digests.map (·.toNat)))))

/-- COLLECTIVE_DEADLINE_EXPIRY. R334: A collective whose OUT is incomplete at DEADLINE faults and poisons OUT. -/
def execCollectiveDeadlineExpiry (id : Nat) (s : State) : Host.Outcome State Fault Refusal :=
  act s (afterEvent (onCmd s id fun s => voteLate (collDeadlineOver s id) id))

/-- LANE_FAIL. R312: A lane with too many FEC errors is declared failed and a switch shed is agreed. -/
def execLaneFail (port lane : Nat) (shed : Nat) (s : State) : Host.Outcome State Fault Refusal :=
  act s (laneFails s port lane shed)

/-- LANE_SPARE_SWITCH. R312: At the agreed shed, both ends move the failed lane to lane 8. -/
def execLaneSpareSwitch (port : Nat) (s : State) : Host.Outcome State Fault Refusal :=
  act s (laneSwitches s port)

/-- PORT_TRAINING_COMPLETE. R428: Link training completes and the port moves to neighbour discovery and AUTH. -/
def execPortTrainingComplete (port : Nat) (delay : BitVec 16) (s : State) : Host.Outcome State Fault Refusal :=
  act s (trainingDone s port delay.toNat)

/-- AUTH_HANDSHAKE. R339: Nonces, certificates, ML-KEM keys and signatures are exchanged to set up the link keys. -/
def execAuthHandshake (port : Nat) (h : Handshake) (s : State) : Host.Outcome State Fault Refusal :=
  act s (authTries s port h)

/-- PORT_QUARANTINED. R336: A port leaves IN_SERVICE for ABSENT, SLOW, FAULTY or QUARANTINED and detours engage. -/
def execPortQuarantined (port : Nat) (why : PortFail) (s : State) : Host.Outcome State Fault Refusal :=
  act s (portJudged s port why)

/-- REAUTH_RETRY. R337: A quarantined port retries authentication after a backoff that doubles up to 1,024 s. -/
def execReauthRetry (port : Nat) (h : Handshake) (s : State) : Host.Outcome State Fault Refusal :=
  act s (reauthTries s port h)

/-- ABSENT_RETRY. R336: An ABSENT port retries training every second. -/
def execAbsentRetry (port : Nat) (trained : Option (BitVec 16)) (s : State) : Host.Outcome State Fault Refusal :=
  act s (absentTries s port trained)

/-- RESTORE. R338: RESTORE in PCTL retrains a SLOW, FAULTY or ABSENT port and returns it to service. -/
def execPortRestore (port : Nat) (s : State) : Host.Outcome State Fault Refusal :=
  regRow s false (Reg.WVN_PCTL port) 1 fun s => portRestores s port

/-- SCHEDULE_CHECK. R321: A port is checked for bolt hash, neighbour identity and HOPOFF, and enters MISMATCH on failure. -/
def execScheduleCheck (port : Nat) (hash : BitVec 256) (s : State) : Host.Outcome State Fault Refusal :=
  act s (checkPort s port hash)

/-- SCHED_SEL. R323: A SCHED_SEL write requests a schedule switch at a later shed. -/
def execSchedSel (sel : BitVec 2) (shed : BitVec 48) (s : State) : Host.Outcome State Fault Refusal :=
  regRow s false Reg.WVN_SCHED_SEL (sel.toNat + 256 * shed.toNat) fun s => selectSchedule s sel.toNat shed.toNat

/-- SCHEDULE_SWITCH. R323: At the switch shed, the selected schedule becomes active. -/
def execScheduleSwitch (s : State) : Host.Outcome State Fault Refusal :=
  act s (switchSchedule s)

/-- REKEY. R341: Every 262,144 sheds, the ends exchange new keys and switch them at an agreed boundary. -/
def execRekey (k : KeyChange) (s : State) : Host.Outcome State Fault Refusal :=
  act s (rekeys s k.port k.kem k.secret.toNat k.shed.toNat)

end Sys2Proof.Machine
end

