-- ==== Sys2Proof/Machine/Dispatch.lean ====
section
/-! DEFINITION. Dispatch: one arm for each command of the table. -/
namespace Sys2Proof.Machine

def exec (i : Instr) (s : State) : Host.Outcome State Fault Refusal :=
  match i with
  | .jobStart => Sys2Proof.Machine.execJobStart s
  | .jobRelease => Sys2Proof.Machine.execJobRelease s
  | .releaseComplete => Sys2Proof.Machine.execReleaseComplete s
  | .registerWrite priv off len val => Sys2Proof.Machine.execRegisterWrite priv off len val s
  | .ppsInEdge => Sys2Proof.Machine.execPpsInEdge s
  | .todArm => Sys2Proof.Machine.execTodArm s
  | .announceCellSend => Sys2Proof.Machine.execAnnounceCellSend s
  | .announceCellReceive port key hops seq => Sys2Proof.Machine.execAnnounceCellReceive port key hops seq s
  | .grandmasterLost => Sys2Proof.Machine.execGrandmasterLost s
  | .delayExchange t1 t2 t3 t4 tagOk => Sys2Proof.Machine.execDelayExchange t1 t2 t3 t4 tagOk s
  | .parentLost => Sys2Proof.Machine.execParentLost s
  | .holdoverLimitExpiry => Sys2Proof.Machine.execHoldoverLimitExpiry s
  | .unsyncResync port time => Sys2Proof.Machine.execUnsyncResync port time s
  | .ppsOutPulse => Sys2Proof.Machine.execPpsOutPulse s
  | .bundleIssue loom stream => Sys2Proof.Machine.execBundleIssue loom stream s
  | .bundleSignalSet loom stream => Sys2Proof.Machine.execBundleSignalSet loom stream s
  | .commandRetire id => Sys2Proof.Machine.execCommandRetire id s
  | .timeBudgetExpiry what => Sys2Proof.Machine.execTimeBudgetExpiry what s
  | .mload src f => Sys2Proof.Machine.execMload src f s
  | .mloadComplete id => Sys2Proof.Machine.execMloadComplete id s
  | .mordantFrameArrival id => Sys2Proof.Machine.execMordantFrameArrival id s
  | .mstream src f => Sys2Proof.Machine.execMstream src f s
  | .rowGroupEnter id => Sys2Proof.Machine.execRowGroupEnter id s
  | .mpair src claim => Sys2Proof.Machine.execMpair src claim s
  | .mdrain src f => Sys2Proof.Machine.execMdrain src f s
  | .mdrainStart id => Sys2Proof.Machine.execMdrainStart id s
  | .epilogueRow id => Sys2Proof.Machine.execEpilogueRow id s
  | .watchPartialMerge loom ctx => Sys2Proof.Machine.execWatchPartialMerge loom ctx s
  | .statcfg src sth sgh clear => Sys2Proof.Machine.execStatcfg src sth sgh clear s
  | .statread src f => Sys2Proof.Machine.execStatread src f s
  | .qgrad src f => Sys2Proof.Machine.execQgrad src f s
  | .vbin src f => Sys2Proof.Machine.execVbin src f s
  | .vun src f => Sys2Proof.Machine.execVun src f s
  | .vred src f => Sys2Proof.Machine.execVred src f s
  | .smstep src f => Sys2Proof.Machine.execSmstep src f s
  | .smnorm src f => Sys2Proof.Machine.execSmnorm src f s
  | .smrecomp src f => Sys2Proof.Machine.execSmrecomp src f s
  | .vint src f => Sys2Proof.Machine.execVint src f s
  | .dropout src f => Sys2Proof.Machine.execDropout src f s
  | .causal src f => Sys2Proof.Machine.execCausal src f s
  | .convert src f => Sys2Proof.Machine.execConvert src f s
  | .move src dst from_ => Sys2Proof.Machine.execMove src dst from_ s
  | .fill src dst val => Sys2Proof.Machine.execFill src dst val s
  | .copy src dst from_ => Sys2Proof.Machine.execCopy src dst from_ s
  | .xpose src f => Sys2Proof.Machine.execXpose src f s
  | .moverReadFault id => Sys2Proof.Machine.execMoverReadFault id s
  | .cset src cd imm => Sys2Proof.Machine.execCset src cd imm s
  | .cadd src f => Sys2Proof.Machine.execCadd src f s
  | .cmp src f => Sys2Proof.Machine.execCmp src f s
  | .loop src cnt idx idxen => Sys2Proof.Machine.execLoop src cnt idx idxen s
  | .endloop src => Sys2Proof.Machine.execEndloop src s
  | .skipif src k sense n => Sys2Proof.Machine.execSkipif src k sense n s
  | .run src page word pgen => Sys2Proof.Machine.execRun src page word pgen s
  | .waitsem src sem n => Sys2Proof.Machine.execWaitsem src sem n s
  | .signal src sem loom stream add => Sys2Proof.Machine.execSignal src sem loom stream add s
  | .waitpick src p => Sys2Proof.Machine.execWaitpick src p s
  | .waitpickRelease loom stream => Sys2Proof.Machine.execWaitpickRelease loom stream s
  | .fence src crec => Sys2Proof.Machine.execFence src crec s
  | .full src f => Sys2Proof.Machine.execFull src f s
  | .fullStart die => Sys2Proof.Machine.execFullStart die s
  | .ckptCut src f => Sys2Proof.Machine.execCkptCut src f s
  | .ckptVote src f => Sys2Proof.Machine.execCkptVote src f s
  | .ckptLateReject loom stream => Sys2Proof.Machine.execCkptLateReject loom stream s
  | .voteDecide recs failure => Sys2Proof.Machine.execVoteDecide recs failure s
  | .captureEnd => Sys2Proof.Machine.execCaptureEnd s
  | .copyOnWrite buf granule => Sys2Proof.Machine.execCopyOnWrite buf granule s
  | .drainGranuleSend => Sys2Proof.Machine.execDrainGranuleSend s
  | .closingRecordAck => Sys2Proof.Machine.execClosingRecordAck s
  | .drainFail reason => Sys2Proof.Machine.execDrainFail reason s
  | .buddyGranuleReceive granule closing bytes => Sys2Proof.Machine.execBuddyGranuleReceive granule closing bytes s
  | .buddySend flow => Sys2Proof.Machine.execBuddySend flow s
  | .restoreGo => Sys2Proof.Machine.execRestoreGo s
  | .restoreComplete => Sys2Proof.Machine.execRestoreComplete s
  | .rejoin => Sys2Proof.Machine.execRejoin s
  | .spareCmd loom => Sys2Proof.Machine.execSpareCmd loom s
  | .spareRemap => Sys2Proof.Machine.execSpareRemap s
  | .healthSuspect => Sys2Proof.Machine.execHealthSuspect s
  | .capArm => Sys2Proof.Machine.execCapArm s
  | .swatch src sw out => Sys2Proof.Machine.execSwatch src sw out s
  | .swatchStart loom stream => Sys2Proof.Machine.execSwatchStart loom stream s
  | .swatchComplete loom stream => Sys2Proof.Machine.execSwatchComplete loom stream s
  | .quarantine entry => Sys2Proof.Machine.execQuarantine entry s
  | .descCommit slot index => Sys2Proof.Machine.execDescCommit slot index s
  | .descInstall slot => Sys2Proof.Machine.execDescInstall slot s
  | .descRead slot index => Sys2Proof.Machine.execDescRead slot index s
  | .clearPoison slot index => Sys2Proof.Machine.execClearPoison slot index s
  | .doorbell loom stream tail added => Sys2Proof.Machine.execDoorbell loom stream tail added s
  | .ringCtlWrite loom stream log2size enable => Sys2Proof.Machine.execRingCtlWrite loom stream log2size enable s
  | .stop slot => Sys2Proof.Machine.execStop slot s
  | .resume slot => Sys2Proof.Machine.execResume slot s
  | .resumeEffect loom stream => Sys2Proof.Machine.execResumeEffect loom stream s
  | .semadd loom stream sem add => Sys2Proof.Machine.execSemadd loom stream sem add s
  | .streamSlice loom ctx => Sys2Proof.Machine.execStreamSlice loom ctx s
  | .imemLoadGo loom => Sys2Proof.Machine.execImemLoadGo loom s
  | .imemForcedLoad loom => Sys2Proof.Machine.execImemForcedLoad loom s
  | .imemLoadStart loom => Sys2Proof.Machine.execImemLoadStart loom s
  | .imemLoadComplete loom => Sys2Proof.Machine.execImemLoadComplete loom s
  | .htCommit die index => Sys2Proof.Machine.execHtCommit die index s
  | .htInvalidate die index => Sys2Proof.Machine.execHtInvalidate die index s
  | .htInstallDone die => Sys2Proof.Machine.execHtInstallDone die s
  | .beamModeSwitch die cache => Sys2Proof.Machine.execBeamModeSwitch die cache s
  | .beamSwitchComplete die => Sys2Proof.Machine.execBeamSwitchComplete die s
  | .scrubPass addr err => Sys2Proof.Machine.execScrubPass addr err s
  | .memoryReadError what addr err => Sys2Proof.Machine.execMemoryReadError what addr err s
  | .hbmRetrain die window temp => Sys2Proof.Machine.execHbmRetrain die window temp s
  | .channelSpare stack channel => Sys2Proof.Machine.execChannelSpare stack channel s
  | .bankClose bank => Sys2Proof.Machine.execBankClose bank s
  | .bankStateChange bank => Sys2Proof.Machine.execBankStateChange bank s
  | .lateBankAccess id addr => Sys2Proof.Machine.execLateBankAccess id addr s
  | .fpCommit prog => Sys2Proof.Machine.execFpCommit prog s
  | .fpRead prog => Sys2Proof.Machine.execFpRead prog s
  | .fpInvalidate prog => Sys2Proof.Machine.execFpInvalidate prog s
  | .tallyClear die => Sys2Proof.Machine.execTallyClear die s
  | .slotTransmit port => Sys2Proof.Machine.execSlotTransmit port s
  | .slotReceive port m => Sys2Proof.Machine.execSlotReceive port m s
  | .slotRetransmit port => Sys2Proof.Machine.execSlotRetransmit port s
  | .throwTo src from_ fc len => Sys2Proof.Machine.execThrowTo src from_ fc len s
  | .throwAdmit loom stream => Sys2Proof.Machine.execThrowAdmit loom stream s
  | .catchAt src dst fc len => Sys2Proof.Machine.execCatchAt src dst fc len s
  | .credit flow cidx len => Sys2Proof.Machine.execCredit flow cidx len s
  | .delivered flow cidx tseq => Sys2Proof.Machine.execDelivered flow cidx tseq s
  | .throwFailed flow tseq reason => Sys2Proof.Machine.execThrowFailed flow tseq reason s
  | .throwExpired which => Sys2Proof.Machine.execThrowExpired which s
  | .creditLifeExpiry what => Sys2Proof.Machine.execCreditLifeExpiry what s
  | .throwDeadlineExpiry id => Sys2Proof.Machine.execThrowDeadlineExpiry id s
  | .catchDeadlineExpiry id => Sys2Proof.Machine.execCatchDeadlineExpiry id s
  | .catchDeliveryComplete id => Sys2Proof.Machine.execCatchDeliveryComplete id s
  | .collectiveComplete id parts digests => Sys2Proof.Machine.execCollectiveComplete id parts digests s
  | .collectiveDeadlineExpiry id => Sys2Proof.Machine.execCollectiveDeadlineExpiry id s
  | .laneFail port lane shed => Sys2Proof.Machine.execLaneFail port lane shed s
  | .laneSpareSwitch port => Sys2Proof.Machine.execLaneSpareSwitch port s
  | .portTrainingComplete port delay => Sys2Proof.Machine.execPortTrainingComplete port delay s
  | .authHandshake port h => Sys2Proof.Machine.execAuthHandshake port h s
  | .portQuarantined port why => Sys2Proof.Machine.execPortQuarantined port why s
  | .reauthRetry port h => Sys2Proof.Machine.execReauthRetry port h s
  | .absentRetry port trained => Sys2Proof.Machine.execAbsentRetry port trained s
  | .portRestore port => Sys2Proof.Machine.execPortRestore port s
  | .scheduleCheck port hash => Sys2Proof.Machine.execScheduleCheck port hash s
  | .schedSel sel shed => Sys2Proof.Machine.execSchedSel sel shed s
  | .scheduleSwitch => Sys2Proof.Machine.execScheduleSwitch s
  | .rekey k => Sys2Proof.Machine.execRekey k s
  | .roceWriteReceive port p => Sys2Proof.Machine.execRoceWriteReceive port p s
  | .roceReadRequest port p => Sys2Proof.Machine.execRoceReadRequest port p s
  | .roceAckReceive qp psn nak => Sys2Proof.Machine.execRoceAckReceive qp psn nak s
  | .roceAckTimeout qp => Sys2Proof.Machine.execRoceAckTimeout qp s
  | .cnpReceive qp => Sys2Proof.Machine.execCnpReceive qp s
  | .neighbourSolicitation port target => Sys2Proof.Machine.execNeighbourSolicitation port target s
  | .frameDrop f => Sys2Proof.Machine.execFrameDrop f s
  | .qpModify qp => Sys2Proof.Machine.execQpModify qp s
  | .qpQuery qp => Sys2Proof.Machine.execQpQuery qp s
  | .qpReset qp => Sys2Proof.Machine.execQpReset qp s
  | .mrCommit index => Sys2Proof.Machine.execMrCommit index s
  | .mrInvalidate index => Sys2Proof.Machine.execMrInvalidate index s
  | .recordMirror entry => Sys2Proof.Machine.execRecordMirror entry s
  | .faultRecordWrite q => Sys2Proof.Machine.execFaultRecordWrite q s
  | .frCtlWrite log2n en => Sys2Proof.Machine.execFrCtlWrite log2n en s
  | .powerGoodRise => Sys2Proof.Machine.execPowerGoodRise s
  | .powerGoodFall => Sys2Proof.Machine.execPowerGoodFall s
  | .fusePhase => Sys2Proof.Machine.execFusePhase s
  | .verifyPhase sigOk => Sys2Proof.Machine.execVerifyPhase sigOk s
  | .configPhase cfg sigOk sect off => Sys2Proof.Machine.execConfigPhase cfg sigOk sect off s
  | .trainPhase failed temps => Sys2Proof.Machine.execTrainPhase failed temps s
  | .soakPhase failed droop => Sys2Proof.Machine.execSoakPhase failed droop s
  | .linkPhase => Sys2Proof.Machine.execLinkPhase s
  | .timePhase => Sys2Proof.Machine.execTimePhase s
  | .weavePhase => Sys2Proof.Machine.execWeavePhase s
  | .releasePhase durations => Sys2Proof.Machine.execReleasePhase durations s
  | .pwrDeviceParked count => Sys2Proof.Machine.execPwrDeviceParked count s
  | .pwrDeviceReady count => Sys2Proof.Machine.execPwrDeviceReady count s
  | .pwrDeviceMgmt count => Sys2Proof.Machine.execPwrDeviceMgmt count s
  | .pwrDeviceShutdown count => Sys2Proof.Machine.execPwrDeviceShutdown count s
  | .pwrLoomOn index count => Sys2Proof.Machine.execPwrLoomOn index count s
  | .pwrLoomGated index count => Sys2Proof.Machine.execPwrLoomGated index count s
  | .pwrLoomDark index count => Sys2Proof.Machine.execPwrLoomDark index count s
  | .loomQuiet loom => Sys2Proof.Machine.execLoomQuiet loom s
  | .pwrBankOn index count => Sys2Proof.Machine.execPwrBankOn index count s
  | .pwrBankRetain index count => Sys2Proof.Machine.execPwrBankRetain index count s
  | .pwrBankDark index count => Sys2Proof.Machine.execPwrBankDark index count s
  | .capControl watts => Sys2Proof.Machine.execCapControl watts s
  | .droopDetect loom => Sys2Proof.Machine.execDroopDetect loom s
  | .droopExcess loom share => Sys2Proof.Machine.execDroopExcess loom share s
  | .sensorRead temps => Sys2Proof.Machine.execSensorRead temps s
  | .thermalCeilingUpdate => Sys2Proof.Machine.execThermalCeilingUpdate s
  | .thermalBackstop sensor => Sys2Proof.Machine.execThermalBackstop sensor s
  | .lockstepMismatch pc sram sigOk => Sys2Proof.Machine.execLockstepMismatch pc sram sigOk s
  | .entdaa addr => Sys2Proof.Machine.execEntdaa addr s
  | .setdasa static addr => Sys2Proof.Machine.execSetdasa static addr s
  | .setEndpointId ep eid => Sys2Proof.Machine.execSetEndpointId ep eid s
  | .pldmBaseCommand ep cmd => Sys2Proof.Machine.execPldmBaseCommand ep cmd s
  | .setEventReceiver ep eid => Sys2Proof.Machine.execSetEventReceiver ep eid s
  | .sensorReadingRequest ep sensor => Sys2Proof.Machine.execSensorReadingRequest ep sensor s
  | .regRead ep off => Sys2Proof.Machine.execRegRead ep off s
  | .regWrite ep off val => Sys2Proof.Machine.execRegWrite ep off val s
  | .todArmCommand ep seconds => Sys2Proof.Machine.execTodArmCommand ep seconds s
  | .logRead ep seq count => Sys2Proof.Machine.execLogRead ep seq count s
  | .logHead ep => Sys2Proof.Machine.execLogHead ep s
  | .xferOpen ep kind len => Sys2Proof.Machine.execXferOpen ep kind len s
  | .xferData ep handle off bytes => Sys2Proof.Machine.execXferData ep handle off bytes s
  | .xferIdleTimeout => Sys2Proof.Machine.execXferIdleTimeout s
  | .xferCloseCert ep handle chainOk => Sys2Proof.Machine.execXferCloseCert ep handle chainOk s
  | .xferCloseSwatch ep handle key => Sys2Proof.Machine.execXferCloseSwatch ep handle key s
  | .xferCloseAuth ep handle sigOk => Sys2Proof.Machine.execXferCloseAuth ep handle sigOk s
  | .attest ep nonce => Sys2Proof.Machine.execAttest ep nonce s
  | .attestSigned => Sys2Proof.Machine.execAttestSigned s
  | .attestGet ep handle off => Sys2Proof.Machine.execAttestGet ep handle off s
  | .ownerBurn ep hash => Sys2Proof.Machine.execOwnerBurn ep hash s
  | .swatchCandidate ep swid => Sys2Proof.Machine.execSwatchCandidate ep swid s
  | .swatchState ep entry state => Sys2Proof.Machine.execSwatchState ep entry state s
  | .requestUpdate ep => Sys2Proof.Machine.execRequestUpdate ep s
  | .requestFirmwareData ep component bytes => Sys2Proof.Machine.execRequestFirmwareData ep component bytes s
  | .verifyComplete ep sigOk => Sys2Proof.Machine.execVerifyComplete ep sigOk s
  | .activateFirmware ep => Sys2Proof.Machine.execActivateFirmware ep s
  | .cancelUpdate ep => Sys2Proof.Machine.execCancelUpdate ep s
  | .logEntryWrite => Sys2Proof.Machine.execLogEntryWrite s
  | .counterSnapshot events => Sys2Proof.Machine.execCounterSnapshot events s
  | .counterCfgWrite slot counter val => Sys2Proof.Machine.execCounterCfgWrite slot counter val s
  | .clearAll => Sys2Proof.Machine.execClearAll s
  | .snapshotAbandoned => Sys2Proof.Machine.execSnapshotAbandoned s
  | .traceRecordWrite die => Sys2Proof.Machine.execTraceRecordWrite die s
  | .cntAccessWrite priv user => Sys2Proof.Machine.execCntAccessWrite priv user s
  | .ppsPresentExpiry => Sys2Proof.Machine.execPpsPresentExpiry s
  | .hostPortLinkUp port up => Sys2Proof.Machine.execHostPortLinkUp port up s
  | .railsInRange => Sys2Proof.Machine.execRailsInRange s
  | .powerTransitionComplete => Sys2Proof.Machine.execPowerTransitionComplete s

end Sys2Proof.Machine
end

