-- ==== Sys2Proof/Machine/Tick.lean ====
section
/-! DEFINITION. Tick: what passes with one period of the local clock (R42, R53, R57, R312, R322, R344, R506; log entry 7). -/
namespace Sys2Proof.Machine

/-- One period passes: the counter, HOLDOVER_ELAPSED in picks, the ring writer's count, and at a shed boundary what the ports count
by sheds and the ports that enter service (R57, R312, R322, R344, R506). In OFF nothing counts (R435). -/
def tick (s : State) : State :=
  if s.boot.on then
    let old := s.pick
    let s := { s with faults := { s.faults with written := 0 } }.countPick
    let s := if s.sync = 3 then s.addSat Reg.TIME_HOLDOVER_ELAPSED_ELAPSED (s.pick - old) else s
    let s := s.flushPaused
    if shedOf old < shedOf s.pick then portsEnter (rollSheds s) else s
  else s

end Sys2Proof.Machine
end

