-- ==== Sys2Proof/Machine/Step.lean ====
section
/-! DEFINITION. Step: the front of the queue runs; on an empty queue one period of the local clock passes. -/
namespace Sys2Proof.Machine

/-- One step: the command at the front of the queue acts, with the queue's rest waiting; on an empty queue one
period of the local clock passes (R42, R53; log entry 7). -/
def step (s : State) : Host.Outcome State Fault Refusal :=
  match s.pending with
  | [] => .next (tick s)
  | c :: rest => exec c { s with pending := rest }

/-- The state with the command that a word spells put at the front of the queue; the same state where it spells none. -/
def State.withFetchWord (s : State) (nbits w : Nat) : State :=
  match decodeTableWord nbits w with
  | some c => { s with pending := c :: s.pending }
  | none => s

end Sys2Proof.Machine
end

