-- ==== Sys2Proof/WellFormed.lean ====
section
/-! DEFINITION. WellFormed: which commands can come at all: looms, streams, ports and dies that some grade has, fields that no
rule reserves, and lengths within their rules. `exec` is total and does not ask for it. -/
namespace Sys2Proof

open Sys2Proof.Machine

/-- A source names a loom and a stream that the largest grade has (R21, R227). -/
def Src.wf (src : Src) : Bool := decide (src.loom < 80) && decide (src.stream < 16)

/-- A budget's owner (R242). -/
def BudgetRef.wf : BudgetRef → Bool
  | .cmd _ => true
  | .hold loom stream => decide (loom < 80) && decide (stream < 16)

/-- A reader of memory (R225). -/
def MemReader.wf : MemReader → Bool
  | .cmd _ => true
  | .fetch loom stream => decide (loom < 80) && decide (stream < 16)
  | .other => true

/-- The owner of a credit's life (R325). -/
def CreditRef.wf : CreditRef → Bool
  | .credit _ _ => true
  | .waiting loom stream => decide (loom < 80) && decide (stream < 16)

/-- A slot as a cell can carry it (R315, R316). -/
def RxSlot.wf (m : RxSlot) : Bool :=
  decide (m.payload.length = m.hdr.valid) && decide (m.hdr.valid ≤ slotBytes) && decide (m.recs.length ≤ 14)

/-- A RoCE packet within the largest path MTU (R347). -/
def RocePkt.wf (p : RocePkt) : Bool := decide (p.payload.length ≤ 4096)

/-- The checks of a command, one arm for each row of the table. -/
def Instr.wf : Instr → Bool
  | .jobStart => true
  | .jobRelease => true
  | .releaseComplete => true
  | .registerWrite _ _ len _ => decide (1 ≤ len) && decide (len ≤ 8)
  | .ppsInEdge => true
  | .todArm => true
  | .announceCellSend => true
  | .announceCellReceive port _ _ _ => decide (port < 18)
  | .grandmasterLost => true
  | .delayExchange _ _ _ _ _ => true
  | .parentLost => true
  | .holdoverLimitExpiry => true
  | .unsyncResync port _ => decide (port < 18)
  | .ppsOutPulse => true
  | .bundleIssue loom stream => decide (loom < 80) && decide (stream < 16)
  | .bundleSignalSet loom stream => decide (loom < 80) && decide (stream < 16)
  | .commandRetire _ => true
  | .timeBudgetExpiry what => what.wf
  | .mload src f => src.wf && !slotIllegal (.mload f)
  | .mloadComplete _ => true
  | .mordantFrameArrival _ => true
  | .mstream src f => src.wf && !slotIllegal (.mstream f)
  | .rowGroupEnter _ => true
  | .mpair src claim => src.wf && !slotIllegal (.mpair claim)
  | .mdrain src f => src.wf && !slotIllegal (.mdrain f)
  | .mdrainStart _ => true
  | .epilogueRow _ => true
  | .watchPartialMerge loom ctx => decide (loom < 80) && decide (ctx < 4)
  | .statcfg src sth sgh clear => src.wf && !slotIllegal (.statcfg sth sgh clear)
  | .statread src f => src.wf && !slotIllegal (.statread f)
  | .qgrad src f => src.wf && !slotIllegal (.qgrad f)
  | .vbin src f => src.wf && !slotIllegal (.vec .vbin f)
  | .vun src f => src.wf && !slotIllegal (.vec .vun f)
  | .vred src f => src.wf && !slotIllegal (.vec .vred f)
  | .smstep src f => src.wf && !slotIllegal (.vec .smstep f)
  | .smnorm src f => src.wf && !slotIllegal (.vec .smnorm f)
  | .smrecomp src f => src.wf && !slotIllegal (.vec .smrecomp f)
  | .vint src f => src.wf && !slotIllegal (.vec .vint f)
  | .dropout src f => src.wf && !slotIllegal (.vec .dropout f)
  | .causal src f => src.wf && !slotIllegal (.vec .causal f)
  | .convert src f => src.wf && !slotIllegal (.vec .convert f)
  | .move src _ _ => src.wf
  | .fill src _ _ => src.wf
  | .copy src _ _ => src.wf
  | .xpose src f => src.wf && !slotIllegal (.xpose f)
  | .moverReadFault _ => true
  | .cset src _ _ => src.wf
  | .cadd src f => src.wf && !slotIllegal (.cadd f)
  | .cmp src f => src.wf && !slotIllegal (.cmp f)
  | .loop src cnt idx idxen => src.wf && !slotIllegal (.loop cnt idx idxen)
  | .endloop src => src.wf
  | .skipif src _ _ _ => src.wf
  | .run src _ _ _ => src.wf
  | .waitsem src _ _ => src.wf
  | .signal src _ _ _ _ => src.wf
  | .waitpick src _ => src.wf
  | .waitpickRelease loom stream => decide (loom < 80) && decide (stream < 16)
  | .fence src _ => src.wf
  | .full src f => src.wf && !slotIllegal (.full f)
  | .fullStart die => decide (die < 4)
  | .ckptCut src _ => src.wf
  | .ckptVote src f => src.wf && !slotIllegal (.ckptVote f)
  | .ckptLateReject loom stream => decide (loom < 80) && decide (stream < 16)
  | .voteDecide recs _ => decide (recs.length ≤ 8)
  | .captureEnd => true
  | .copyOnWrite _ granule => decide (granule < 122880)
  | .drainGranuleSend => true
  | .closingRecordAck => true
  | .drainFail _ => true
  | .buddyGranuleReceive granule _ bytes => decide (granule < 122881) && decide (bytes.length ≤ granuleSize)
  | .buddySend _ => true
  | .restoreGo => true
  | .restoreComplete => true
  | .rejoin => true
  | .spareCmd _ => true
  | .spareRemap => true
  | .healthSuspect => true
  | .capArm => true
  | .swatch src sw out => src.wf && !slotIllegal (.swatch sw out)
  | .swatchStart loom stream => decide (loom < 80) && decide (stream < 16)
  | .swatchComplete loom stream => decide (loom < 80) && decide (stream < 16)
  | .quarantine _ => true
  | .descCommit slot _ => decide (slot < 320)
  | .descInstall slot => decide (slot < 320)
  | .descRead slot _ => decide (slot < 320)
  | .clearPoison slot _ => decide (slot < 320)
  | .doorbell loom stream _ _ => decide (loom < 80) && decide (stream < 16)
  | .ringCtlWrite loom stream _ _ => decide (loom < 80) && decide (stream < 16)
  | .stop slot => decide (slot < 320)
  | .resume slot => decide (slot < 320)
  | .resumeEffect loom stream => decide (loom < 80) && decide (stream < 16)
  | .semadd loom stream _ _ => decide (loom < 80) && decide (stream < 16)
  | .streamSlice loom ctx => decide (loom < 80) && decide (ctx < 4)
  | .imemLoadGo loom => decide (loom < 80)
  | .imemForcedLoad loom => decide (loom < 80)
  | .imemLoadStart loom => decide (loom < 80)
  | .imemLoadComplete loom => decide (loom < 80)
  | .htCommit die _ => decide (die < 4)
  | .htInvalidate die _ => decide (die < 4)
  | .htInstallDone die => decide (die < 4)
  | .beamModeSwitch die _ => decide (die < 4)
  | .beamSwitchComplete die => decide (die < 4)
  | .scrubPass addr _ => decide (addr % 8 = 0)
  | .memoryReadError what _ _ => what.wf
  | .hbmRetrain die _ temp => decide (die < 4) && decide (temp < 256)
  | .channelSpare stack channel => decide (stack < 12) && decide (channel < 32)
  | .bankClose bank => decide (bank < 384)
  | .bankStateChange bank => decide (bank < 384)
  | .lateBankAccess _ _ => true
  | .fpCommit _ => true
  | .fpRead _ => true
  | .fpInvalidate _ => true
  | .tallyClear die => decide (die < 4)
  | .slotTransmit port => decide (port < 18)
  | .slotReceive port m => decide (port < 18) && m.wf
  | .slotRetransmit port => decide (port < 18)
  | .throwTo src _ _ _ => src.wf
  | .throwAdmit loom stream => decide (loom < 80) && decide (stream < 16)
  | .catchAt src _ _ _ => src.wf
  | .credit _ _ _ => true
  | .delivered _ _ _ => true
  | .throwFailed _ _ _ => true
  | .throwExpired _ => true
  | .creditLifeExpiry what => what.wf
  | .throwDeadlineExpiry _ => true
  | .catchDeadlineExpiry _ => true
  | .catchDeliveryComplete _ => true
  | .collectiveComplete _ parts digests => parts.length == digests.length && parts.all fun p =>
      decide (p.elem0 < 2 ^ 64) && p.elems.all (fun v => decide (v < 2 ^ 64)) && p.scales.all fun v => decide (v < 2 ^ 16)
  | .collectiveDeadlineExpiry _ => true
  | .laneFail port lane _ => decide (port < 18) && decide (lane < 9)
  | .laneSpareSwitch port => decide (port < 18)
  | .portTrainingComplete port _ => decide (port < 18)
  | .authHandshake port _ => decide (port < 18)
  | .portQuarantined port _ => decide (port < 18)
  | .reauthRetry port _ => decide (port < 18)
  | .absentRetry port _ => decide (port < 18)
  | .portRestore port => decide (port < 18)
  | .scheduleCheck port _ => decide (port < 18)
  | .schedSel _ _ => true
  | .scheduleSwitch => true
  | .rekey k => decide (k.port < 18)
  | .roceWriteReceive port p => decide (port < 4) && p.op != .readRequest && p.wf
  | .roceReadRequest port p => decide (port < 4) && p.op == .readRequest && p.wf
  | .roceAckReceive _ _ _ => true
  | .roceAckTimeout _ => true
  | .cnpReceive _ => true
  | .neighbourSolicitation port _ => decide (port < 4)
  | .frameDrop f => decide (f.port < 4)
  | .qpModify _ => true
  | .qpQuery _ => true
  | .qpReset _ => true
  | .mrCommit _ => true
  | .mrInvalidate _ => true
  | .recordMirror _ => true
  | .faultRecordWrite q => decide (q < 6)
  | .frCtlWrite _ _ => true
  | .powerGoodRise => true
  | .powerGoodFall => true
  | .fusePhase => true
  | .verifyPhase _ => true
  | .configPhase _ _ sect off => decide (sect < 65536) && decide (off ≤ 0x2400000)
  | .trainPhase failed r => failed.all (fun k => decide (k < 12)) && decide (r.temps.length ≤ 12) && decide (r.rows.length ≤ 12)
  | .soakPhase failed r => failed.all (fun d => decide (2 ≤ d) && decide (d ≤ 5)) && decide (r.droop.length ≤ 80) && decide (r.eq.length ≤ 18)
  | .linkPhase => true
  | .timePhase => true
  | .weavePhase => true
  | .releasePhase durations => decide (durations.length ≤ 9)
  | .pwrDeviceParked _ => true
  | .pwrDeviceReady _ => true
  | .pwrDeviceMgmt _ => true
  | .pwrDeviceShutdown _ => true
  | .pwrLoomOn _ _ => true
  | .pwrLoomGated _ _ => true
  | .pwrLoomDark _ _ => true
  | .loomQuiet loom => decide (loom < 80)
  | .pwrBankOn _ _ => true
  | .pwrBankRetain _ _ => true
  | .pwrBankDark _ _ => true
  | .capControl _ => true
  | .droopDetect loom => decide (loom < 80)
  | .droopExcess loom _ => decide (loom < 80)
  | .sensorRead temps => decide (temps.length = 96)
  | .thermalCeilingUpdate => true
  | .thermalBackstop sensor => decide (sensor < 96)
  | .lockstepMismatch _ _ _ => true
  | .entdaa _ => true
  | .setdasa static _ => static == 0x3A
  | .setEndpointId _ _ => true
  | .pldmBaseCommand _ _ => true
  | .setEventReceiver _ _ => true
  | .sensorReadingRequest _ _ => true
  | .regRead _ _ => true
  | .regWrite _ _ _ => true
  | .todArmCommand _ _ => true
  | .logRead _ _ count => decide (1 ≤ count) && decide (count ≤ 4)
  | .logHead _ => true
  | .xferOpen _ _ len => decide (len ≤ 0x800000)
  | .xferData _ _ off bytes => decide (off + bytes.length ≤ 0x800000) && decide (bytes.length ≤ 1024)
  | .xferIdleTimeout => true
  | .xferCloseCert _ _ _ => true
  | .xferCloseSwatch _ _ _ => true
  | .xferCloseAuth _ _ _ => true
  | .attest _ _ => true
  | .attestSigned => true
  | .attestGet _ _ _ => true
  | .ownerBurn _ _ => true
  | .swatchCandidate _ _ => true
  | .swatchState _ _ _ => true
  | .requestUpdate _ => true
  | .requestFirmwareData _ _ _ => true
  | .verifyComplete _ _ => true
  | .activateFirmware _ => true
  | .cancelUpdate _ => true
  | .logEntryWrite => true
  | .counterSnapshot events => events.all fun e => decide (e.slot < 256) && decide (e.n ≤ 2 ^ 32)
  | .counterCfgWrite slot _ _ => slot != 0
  | .clearAll => true
  | .snapshotAbandoned => true
  | .traceRecordWrite die => decide (die < 4)
  | .cntAccessWrite _ _ => true
  | .ppsPresentExpiry => true
  | .hostPortLinkUp port _ => decide (port < 4)
  | .railsInRange => true
  | .powerTransitionComplete => true

/-- A well-formed command. -/
abbrev WellFormed (i : Instr) : Prop := i.wf = true

end Sys2Proof
end

