-- ==== Sys2Proof/Safety.lean ====
section
/-! DEFINITION. Safety: the terms in which claims are stated: canonical state, what a command answers, and what it leaves as
it was. -/
namespace Sys2Proof.Machine

/-- Memory and registers are in canonical form. -/
def State.canonical (s : State) : Prop := Memory.wf s.mem ∧ smWf regReset s.regs = true

/-- A command answers a next state. -/
def Completes (i : Instr) (s t : State) : Prop := exec i s = .next t

/-- A command answers a next state of which `P` holds. -/
def Answers (i : Instr) (s : State) (P : State → Prop) : Prop := ∃ t, exec i s = .next t ∧ P t

/-! ### What a command leaves as it was -/

/-- Every byte of device memory reads as before. -/
def SameMemory (s t : State) : Prop := ∀ a, t.byte a = s.byte a

/-- Every byte outside a range reads as before. -/
def SameMemoryBut (lo n : Nat) (s t : State) : Prop := ∀ a, ¬ (lo ≤ a ∧ a < lo + n) → t.byte a = s.byte a

/-- Every register but those listed reads as before. -/
def SameRegsBut (offs : List Nat) (s t : State) : Prop := ∀ o, o ∉ offs → t.reg o = s.reg o

/-- Every register outside a range of offsets reads as before. -/
def SameRegsOutside (lo hi : Nat) (s t : State) : Prop := ∀ o, ¬ (lo ≤ o ∧ o < hi) → t.reg o = s.reg o

/-- Every stream but one is as before. -/
def SameStreamsBut (loom stream : Nat) (s t : State) : Prop :=
  ∀ l k, streamKey l k ≠ streamKey loom stream → t.stream l k = s.stream l k

/-- The work of a job is as before: memory, instruction memory, streams, commands, descriptors and arrays. -/
def SameWork (s t : State) : Prop :=
  SameMemory s t ∧ t.imem = s.imem ∧ t.streams = s.streams ∧ t.cmds = s.cmds ∧ t.descs = s.descs ∧ t.looms = s.looms

/-- Register fields set one after another. -/
def State.setFlds (s : State) (l : List (Fld × Nat)) : State := l.foldl (fun s p => s.setFld p.1 p.2) s

/-- The listed fields hold the listed values, every other bit of every register reads as before, and the work of a job is as
before. -/
def OnlyFields (l : List (Fld × Nat)) (s t : State) : Prop := (∀ o, t.reg o = (s.setFlds l).reg o) ∧ SameWork s t

/-- No register changes, nor the work of a job. -/
def NoFields (s t : State) : Prop := OnlyFields [] s t

/-- A reply goes out to a requester, over the channel its request came by (R453, R454). -/
def Replied (via : Channel) (code : Nat) (data : List Byte) (s t : State) : Prop :=
  t.outbox = (s.reply via.ep code data).outbox

/-- The channel by which a management request reaches the device. -/
def viaOf : Instr → Option Channel
  | .setEndpointId v _ | .pldmBaseCommand v _ | .setEventReceiver v _ | .sensorReadingRequest v _ | .regRead v _ | .regWrite v _ _
  | .todArmCommand v _ | .logRead v _ _ | .logHead v | .xferOpen v _ _ | .xferData v _ _ _ | .xferCloseCert v _ _
  | .xferCloseSwatch v _ _ | .xferCloseAuth v _ _ | .attest v _ | .attestGet v _ _ | .ownerBurn v _ | .swatchCandidate v _
  | .swatchState v _ _ | .requestUpdate v | .requestFirmwareData v _ _ | .verifyComplete v _ | .activateFirmware v
  | .cancelUpdate v => some v
  | _ => none

/-- The compute and link dies have left power-down: memory reads 0, no work of a job is left, the counters outside the host dies are 0
(R477), and the registers of CTX, HTAB, LOOM and FUL hold what the Reset column gives (R15). -/
def DiesAfresh (t : State) : Prop :=
  (∀ a, t.byte a = 0) ∧ t.streams = [] ∧ t.cmds = [] ∧ t.descs = [] ∧ t.imem = [] ∧ t.looms = [] ∧
    (∀ k i, i < 8 → ¬ (63 ≤ k ∧ k ≤ 66) → t.counter k i = 0) ∧
    (∀ slot w, slot < 320 → w < 16 → t.reg (Reg.CTX_DSTAGE slot w) = regReset (Reg.CTX_DSTAGE slot w)) ∧
    (∀ die k, die < 4 → k < 1024 → t.reg (Reg.HTAB_ENTRY_W0 die k) = regReset (Reg.HTAB_ENTRY_W0 die k)) ∧
    (∀ loom ctx, loom < 80 → ctx < 4 → t.reg (Reg.LOOM_FLAGS loom ctx) = regReset (Reg.LOOM_FLAGS loom ctx) ∧
      t.reg (Reg.LOOM_VDROP loom ctx) = regReset (Reg.LOOM_VDROP loom ctx)) ∧
    t.reg Reg.FUL_FP_STAT = regReset Reg.FUL_FP_STAT

/-! ### When a command acts -/

/-- A write of eight bytes at an offset reaches its register (R14, R23, R31, R491, R510). -/
@[reducible] def Reaches (s : State) (off : Nat) : Prop :=
  s.boot.on = true ∧ off % 8 = 0 ∧ holeReg s off = false ∧ (s.releasing && releaseLocks off) = false ∧ s.res.remap = none

/-- A stream takes a command by itself, and nothing else waits to act with it: the device has power, the command passes decode,
its loom exists (R21) and is ON with no substitution pending, and no capture, checkpoint, swatch, STOP or forced load is under way (R23, R209,
R210, R226, R239, R393, R399, R491, R511). -/
@[reducible] def Takes (src : Src) (c : SlotCmd) (s : State) : Prop :=
  s.boot.on = true ∧ src.loom < 80 ∧ directReady src s = true ∧ directLegal src c s = true ∧ s.swMode = false ∧ s.res.remap = none ∧
    s.loomPower src.loom = 0 ∧ s.res.cap = none ∧ s.res.ckpt = none ∧ s.fpWait = none ∧
    (s.stream src.loom src.stream).stopReq = false ∧ (s.stream src.loom src.stream).reload = false

/-- No earlier command of the stream holds a handle that a command names (R238). -/
@[reducible] def HandlesFree (src : Src) (c : SlotCmd) (s : State) : Prop :=
  handleHeld (s.cmdsOf src.loom src.stream) (slotNames s (directCtx src c s) c) = false

/-- What the issue of one command may change beside the command and its own stream: the tag of the bundle that retired last,
the count of dropped traces and the context's next digest record (R244, R366, R485). Memory, descriptors, other streams and
every other register stand. -/
def IssueFrame (src : Src) (s t : State) : Prop :=
  SameMemory s t ∧ t.descs = s.descs ∧ t.imem = s.imem ∧ SameStreamsBut src.loom src.stream s t ∧
    SameRegsBut [Reg.CTX_LAST_RETIRED (ctxSlot src.loom src.stream), Reg.CNT_TR_DROPS, Reg.LOOM_DIG_CTL src.loom (src.stream % 4)] s t

/-- A command joins the commands in flight as the newest one; `P` holds of it (R237, R242). -/
def Issued (src : Src) (c : SlotCmd) (s t : State) (P : Cmd → Prop) : Prop :=
  ∃ x, t.cmds = s.cmds ++ [x] ∧ t.nextId = s.nextId + 1 ∧ x.id = s.nextId ∧ x.c = c ∧ x.loom = src.loom ∧ x.stream = src.stream ∧
    x.slot = slotOf c ∧ x.tag = src.tag ∧ x.issuePick = s.pick ∧ x.draining = false ∧ P x

/-- The work of a stream is a bundle of one given slot command, of a ring, with no loop end. -/
def heldAlone (i : IssueCtx) (c : SlotCmd) : List IssueItem → Bool
  | [.slot j d, .fin e _] => i == j && c == d && e.scalar.isNone && e.ring && !e.le && !e.pb && !e.endloop
  | _ => false

/-- A ring stream is held at a bundle of one slot command that is no scalar command, and nothing else waits to act with it. -/
@[reducible] def HeldAt (loom stream : Nat) (i : IssueCtx) (c : SlotCmd) (s : State) : Prop :=
  s.boot.on = true ∧ loom < 80 ∧ mayIssue s loom stream = true ∧ i.loom = loom ∧ i.stream = stream ∧
    heldAlone i c (s.stream loom stream).queue = true ∧ (s.stream loom stream).loops = [] ∧ (s.stream loom stream).stopReq = false ∧
    (s.stream loom stream).reload = false ∧ s.swMode = false ∧ s.res.remap = none ∧ s.loomPower loom = 0 ∧ s.res.cap = none ∧
    s.res.ckpt = none ∧ s.fpWait = none ∧ handleHeld (s.cmdsOf loom stream) (slotNames s i c) = false

/-! ### Throws of the checkpoint engine -/

/-- The checkpoint engine may throw `len` bytes on a flow now: its flow is its own, the fabric runs, no other throw of it is on its way, and
a credit of that LEN stands for every catcher (R325, R331, R384). -/
@[reducible] def EngineMay (s : State) (f : FlowEntry) (send : Bool) (len : Nat) (since : Option Nat) : Prop :=
  flowEntry s f.flow = some f ∧ f.source = true ∧ f.srcLoom = 127 ∧ f.collective = false ∧ s.sync ≠ 4 ∧ windowShut s = false ∧
    engineSending s send = false ∧ (∀ p, since = some p → s.pick ≤ p + f.creditLife) ∧ creditsReady (s.flowSt f.flow) f s.pick = true ∧
    creditLenBad (s.flowSt f.flow) f s.pick len = false ∧ hasPath s f = true

/-- The checkpoint engine has admitted a throw of `len` bytes on a flow: it holds them, it takes a credit of each catcher and the flow's
next throw number, and no other flow changes (R325, R326, R330). -/
def EngineThrows (s t : State) (f : FlowEntry) (send closing : Bool) (len : Nat) (data : SMap Byte) : Prop :=
  (∃ r e, (t.flowSt f.flow).throws = (s.flowSt f.flow).throws ++ [r] ∧ r.tseq = (s.flowSt f.flow).tseq ∧ r.len = len ∧
    r.n = ceilDiv len 24576 ∧ r.engine = some e ∧ e.send = send ∧ e.closing = closing ∧ e.data = data ∧ e.need = List.range f.ncatch ∧
    e.deadline = r.cdl + f.acklat) ∧
  (t.flowSt f.flow).credits = ((s.flowSt f.flow).consume f s.pick).credits ∧
  (t.flowSt f.flow).tseq = ((s.flowSt f.flow).tseq + 1) % 2 ^ 32 ∧ ∀ g, g ≠ f.flow → t.flowSt g = s.flowSt g

/-! ### Events of commands in flight -/

/-- A command is in flight in a powered device, drains for no fault, reserves no digest record, and no capture, checkpoint or swatch
is under way. -/
@[reducible] def InFlight (s : State) (x : Cmd) : Prop :=
  s.boot.on = true ∧ s.cmd? x.id = some x ∧ x.sw = false ∧ x.draining = false ∧ x.digest = none ∧ x.loom < 80 ∧ x.stream < 16 ∧
    s.swMode = false ∧ s.res.cap = none ∧ s.res.ckpt = none ∧ s.fpWait = none

/-- A command has ended in a fault of its stream (R236): the stream is FAULTED with a code, the command is gone, its destinations are
poisoned, no descriptor changes otherwise than by poison, and no byte outside its own result changes. -/
def FaultsWith (s t : State) (x : Cmd) (code : Nat) : Prop :=
  (t.stream x.loom x.stream).state = .faulted ∧ t.fld (Reg.CTX_FAULT_INFO_CODE (ctxSlot x.loom x.stream)) = code ∧
    t.cmd? x.id = none ∧ (∀ h ∈ x.dsts, t.desc (handleIndex h) = dSet0 (s.desc (handleIndex h)) 26 26 1) ∧
    (∀ i, t.desc i = s.desc i ∨ t.desc i = dSet0 (s.desc i) 26 26 1) ∧
    ∀ a, (∀ w ∈ x.plan.writes, w.addr ≠ a) → t.byte a = s.byte a

end Sys2Proof.Machine
end

