-- ==== Sys2Proof/Certificates/Slice0/Obligations.lean ====
section
/-! DEFINITION. Obligations: the statements for the provers. -/
open Sys2Proof Sys2Proof.Machine

/-! ### The queue, power and time -/

/-- A step runs the command at the front of the queue, with the queue's rest waiting. -/
def Obligations.StepRunsTheFrontCommand : Prop :=
  ∀ (c : Instr) (rest : List Instr) (s : State), step { s with pending := c :: rest } = exec c { s with pending := rest }

/-- Every command of the table answers a next state, in every state and with every operand, and leaves the queue alone: no
command of the block stops it. -/
def Obligations.EveryCommandAnswersANextState : Prop :=
  ∀ (i : Instr) (s : State), Answers i s fun t => t.pending = s.pending

/-- In OFF nothing acts but the power-good pin and the rails: every other command leaves the machine as it was, and no pick
passes (R410, R435, R491). That a command answers an unchanged state in OFF is the model's form of it (log entry 8). -/
def Obligations.OffDeviceIgnoresCommands : Prop :=
  (∀ (i : Instr) (s : State), s.boot.on = false → i ≠ .powerGoodRise → i ≠ .powerGoodFall → i ≠ .railsInRange → exec i s = .next s) ∧
  ∀ s : State, s.boot.on = false → s.pending = [] → step s = .next s

/-- On an empty queue one period of the local clock passes (the model's tick, log entry 7): the time advances by the period, made
longer or shorter by FREQ_ADJ, and no pick is passed over; what is left of a period in which two picks begin is kept (R42, R53). A held
counter waits until the parent's time passes it (R53). In HOLDOVER the elapsed count follows in picks (R57); memory, streams and
commands stand. A period that enters a new shed closes what each port counts by sheds: MISSED SHED shows the slots missed in the shed
that ended, the counts of the new one begin at 0, and a lane over LANE_BER_LIMIT is one shed further in its run (R312, R336, R344); and
a port that has passed R321 in an earlier shed enters service when this end is LOCKED or GRANDMASTER and its partner shows the same bolt
hash (R322), while every other port keeps its state. -/
def Obligations.EmptyQueuePassesOnePick : Prop :=
  (∀ s : State, s.boot.on = true → s.pending = [] → s.time.frac < 65536 → s.time.sub < 65536 → shedOf (s.pick + 1) = shedOf s.pick →
    ∃ t, step s = .next t ∧
      (s.time.holdTo = none → t.pick ≤ s.pick + 1 ∧ (t.time.rest ≠ 0 → t.fine = 2 ^ 32 * (s.pick + 1)) ∧
        t.fine + t.time.rest = s.fine +
          (if s.time.rest = 0 then (2 ^ 32 + toSigned 32 (s.fld Reg.TIME_FREQ_ADJ_ADJ)).toNat else s.time.rest)) ∧
      (∀ r, s.time.holdTo = some r → 65536 < r → t.pick = s.pick ∧ t.time.frac = s.time.frac ∧ t.time.holdTo = some (r - 65536)) ∧
      (∀ r, s.time.holdTo = some r → r ≤ 65536 → t.time.holdTo = none ∧ t.now + r = s.now + 65536) ∧
      (s.sync = 3 → t.fld Reg.TIME_HOLDOVER_ELAPSED_ELAPSED =
        min (s.fld Reg.TIME_HOLDOVER_ELAPSED_ELAPSED + (t.pick - s.pick)) (2 ^ 48 - 1)) ∧
      SameRegsBut [Reg.TIME_HOLDOVER_ELAPSED] s t ∧ (s.sync ≠ 3 → SameRegsBut [] s t) ∧ SameWork s t) ∧
  ∀ s : State, s.boot.on = true → s.pending = [] → s.time.frac < 65536 → s.time.sub < 65536 → s.nPorts ≤ 18 →
    ∃ t, step s = .next t ∧ (shedOf s.pick < shedOf t.pick →
      (∀ p, p < s.nPorts →
        t.fld (Reg.WVN_MISSED_SHED p) = min (s.port p).missed 0xFFFF ∧ (t.port p).missed = 0 ∧ (t.port p).missFlow = [] ∧
        (t.port p).laneUe = [] ∧ (t.port p).laneSyms = [] ∧
        (∀ l, l < 8 → smGet (fun _ => 0) (t.port p).laneOver l =
          if Config.laneRateOver (smGet (fun _ => 0) (s.port p).laneSyms l) s.wvn.laneBerLimit = true
            then smGet (fun _ => 0) (s.port p).laneOver l + 1 else 0) ∧
        (∀ sc sh, s.wvn.active = some sc → s.sync = 2 ∨ s.sync = 5 → (s.port p).passed = some sh → sh < shedOf t.pick →
          (s.port p).partnerHash = some sc.hash → t.portState p = 3 ∧ (t.port p).passed = none) ∧
        ((∀ sc sh, s.wvn.active = some sc → s.sync = 2 ∨ s.sync = 5 → (s.port p).passed = some sh → sh < shedOf t.pick →
          (s.port p).partnerHash ≠ some sc.hash) → t.portState p = s.portState p ∧ (t.port p).passed = (s.port p).passed)) ∧
      SameRegsBut (Reg.TIME_HOLDOVER_ELAPSED :: (List.range s.nPorts).flatMap fun p => [Reg.WVN_MISSED p, Reg.WVN_PSTAT p]) s t ∧
      SameWork s t)

/-- What reset leaves, as the Reset column gives it (R15, R39, R41, R62, R412): the device runs FUSE in MGMT, with no job, with
the pick counter at zero and free-running, with no parent port, with the fault ring off; no stream, command or descriptor is
there and nothing waits. Memory reads 0 before TRAIN: the spec gives it no contents, and the 0 is the model's choice (log entry
4). -/
def Obligations.ResetStateValues : Prop :=
  State.reset.fld Reg.GCTL_DEV_STATE_STATE = 1 ∧ State.reset.fld Reg.GCTL_DEV_STATE_PHASE = 0 ∧ State.reset.jobActive = false ∧
  State.reset.fld Reg.GCTL_ID_VENDOR = 0x5E77 ∧ State.reset.pick = 0 ∧ State.reset.time.frac = 0 ∧ State.reset.sync = 0 ∧
  State.reset.fld Reg.TIME_SYNC_STAT_PARENT_PORT = 31 ∧ State.reset.fld Reg.TIME_PRIO_GM_PRIORITY = 255 ∧ State.reset.ringOn = false ∧
  (∀ slot c, slot < 320 → c < 16 → State.reset.fld (Reg.CTX_DESC_STAT_DONE slot) = 1 ∧ (State.reset.stream (slot / 4) c).enabled = false) ∧
  State.reset.pending = [] ∧ State.reset.cmds = [] ∧ ∀ a, State.reset.byte a = 0

/-- Reset is in canonical form: nothing is listed that reads as an unlisted byte or register does. -/
def Obligations.ResetStateCanonical : Prop := State.reset.canonical

/-! ### Register writes and jobs -/

/-- A register access that is not aligned or not eight bytes long, or that reaches a hole, is not performed: a read returns all ones, a
write is discarded, and either way an ADVISORY record of HOST_ACCESS_DENIED is raised; the register, and every other one but the count
of lost records, reads as before (R14, R31). That an offset which no row of a register table covers is a hole is the model's choice
(log entry 52), and so is the reply code of a management read that returns all ones (log entry 46). -/
def Obligations.BadRegisterAccessIsRefused : Prop :=
  (∀ priv off len (s : State), off % 8 ≠ 0 ∨ len ≠ 8 ∨ holeReg s off = true →
    readWindow s priv off len = (0xFFFFFFFFFFFFFFFF, s.denied (ctlBase + off))) ∧
  (∀ via (off : BitVec 28) (s : State), s.service = .full → s.takes via = true → unpoweredReg s off.toNat = false →
    s.res.remap = none → off.toNat % 8 ≠ 0 ∨ holeReg s off.toNat = true → s.ringOn = true → Answers (.regRead via off) s fun t =>
      Replied via 0 (List.replicate 8 0xFF) s t ∧ SameRegsBut [Reg.FAULT_FR_STAT] s t ∧ SameWork s t) ∧
  ∀ (priv : Bool) (off : BitVec 28) (len : Nat) (v : W64) (s : State), s.boot.on = true →
    off.toNat % 8 ≠ 0 ∨ len ≠ 8 ∨ holeReg s off.toNat = true →
    Answers (.registerWrite priv off len v) s fun t =>
      SameRegsBut [Reg.FAULT_FR_STAT] s t ∧ SameWork s t ∧
      (∀ q, q = s.queueOf (s.loomAt (ctlBase + off.toNat)) none → s.ringOn = true → (s.queue q).length < 512 →
        SameRegsBut [] s t ∧ ∃ r, t.queue q = s.queue q ++ [r] ∧ r.code = 0x0502 ∧ r.sev = .advisory ∧ r.pick = s.pick ∧ r.cmd = none)

/-- A register write that reaches its register acts field by field, by the access codes (R12). RW: EPICFG, CLAMP, GEN, VDROP and VDSCALE
of a loom's context take what is written, and reserved bits are ignored (R13). RO, RC and W1C: in every register that has no field of
another code a bit clears where it lies in a W1C field and 1 is written, and every other bit stands, FLAGS of a loom's context among
them; no other register changes but the count of lost records, for the record of a write that the sender may not make. W1S: SUSPECT sets
where 1 is written and stands otherwise. -/
def Obligations.RegisterWriteByAccessCode : Prop :=
  (∀ (priv : Bool) (off : BitVec 28) (v : W64) (s : State) b i l r, Reaches s off.toNat → rowOf off.toNat = some (b, i, l, r) →
    (∀ f ∈ r.fields, f.acc = .ro ∨ f.acc = .rc ∨ f.acc = .w1c) → Answers (.registerWrite priv off 8 v) s fun t =>
      (∀ k, (t.reg off.toNat).getLsbD k = ((s.reg off.toNat).getLsbD k &&
        !(r.fields.any (fun f => f.acc == .w1c && decide (f.lo ≤ k) && decide (k ≤ f.hi)) && v.getLsbD k))) ∧
      SameRegsBut [off.toNat, Reg.FAULT_FR_STAT] s t ∧ SameWork s t) ∧
  (∀ (priv : Bool) (off : BitVec 28) (v : W64) (s : State), off.toNat = Reg.RES_HEALTH → Reaches s off.toNat →
    Answers (.registerWrite priv off 8 v) s fun t =>
      t.flag Reg.RES_HEALTH_SUSPECT = (s.flag Reg.RES_HEALTH_SUSPECT || v.getLsbD 0) ∧ SameRegsBut [off.toNat] s t ∧ SameWork s t) ∧
  ∀ (priv : Bool) (off : BitVec 28) (v : W64) (s : State) (loom ctx e : Nat), loom < 80 → ctx < 4 → e < 16 → Reaches s off.toNat →
    (off.toNat = Reg.LOOM_EPICFG loom ctx e → Answers (.registerWrite priv off 8 v) s
      (OnlyFields [(⟨off.toNat, 6, 0⟩, bitsOf v.toNat 6 0), (⟨off.toNat, 63, 16⟩, bitsOf v.toNat 63 16)] s)) ∧
    (off.toNat = Reg.LOOM_CLAMP loom ctx → Answers (.registerWrite priv off 8 v) s (OnlyFields [(⟨off.toNat, 63, 0⟩, v.toNat)] s)) ∧
    (off.toNat = Reg.LOOM_GEN loom ctx → Answers (.registerWrite priv off 8 v) s
      (OnlyFields [(Reg.LOOM_GEN_STEPCTR loom ctx, bitsOf v.toNat 3 0)] s)) ∧
    (off.toNat = Reg.LOOM_VDROP loom ctx → Answers (.registerWrite priv off 8 v) s
      (OnlyFields [(Reg.LOOM_VDROP_THRESH loom ctx, bitsOf v.toNat 15 0), (Reg.LOOM_VDROP_STREAM loom ctx, bitsOf v.toNat 39 16)] s)) ∧
    (off.toNat = Reg.LOOM_VDSCALE loom ctx → Answers (.registerWrite priv off 8 v) s
      (OnlyFields [(Reg.LOOM_VDSCALE_KEEP_SCALE loom ctx, bitsOf v.toNat 31 0)] s)) ∧
    (off.toNat = Reg.LOOM_FLAGS loom ctx → Answers (.registerWrite priv off 8 v) s fun t =>
      (∀ g ∈ [Reg.LOOM_FLAGS_ARRAY loom ctx, Reg.LOOM_FLAGS_VECTOR loom ctx, Reg.LOOM_FLAGS_QUANT loom ctx, Reg.LOOM_FLAGS_FULL loom ctx],
        ∀ k, (t.fld g).testBit k = ((s.fld g).testBit k && !(bitsOf v.toNat g.hi g.lo).testBit k)) ∧
      SameRegsBut [off.toNat] s t ∧ SameWork s t)

/-- JOB_START is accepted only in READY, with JOB_ACTIVE clear, no release running and the fault ring enabled; it then moves the
device to RUN with JOB_ACTIVE set. Any other JOB_START is ignored, and raises an ADVISORY STATE_ILLEGAL (R35). -/
def Obligations.JobStartMovesReadyToRun : Prop :=
  ∀ s : State, Reaches s Reg.GCTL_JOB_CTL →
    (s.fld Reg.GCTL_DEV_STATE_STATE = 3 ∧ s.jobActive = false ∧ s.releasing = false ∧ s.ringOn = true →
      Answers .jobStart s fun t => t.fld Reg.GCTL_DEV_STATE_STATE = 4 ∧ t.jobActive = true ∧
        OnlyFields [(Reg.GCTL_DEV_STATE_JOB_ACTIVE, 1), (Reg.GCTL_DEV_STATE_STATE, 4)] s t) ∧
    (¬ (s.fld Reg.GCTL_DEV_STATE_STATE = 3 ∧ s.jobActive = false ∧ s.releasing = false ∧ s.ringOn = true) →
      Answers .jobStart s fun t => SameRegsBut [Reg.FAULT_FR_STAT] s t ∧ SameWork s t ∧
        (s.ringOn = true → (s.queue 4).length < 512 →
          ∃ r, t.queue 4 = s.queue 4 ++ [r] ∧ r.code = 0x0103 ∧ r.sev = .advisory ∧ r.pick = s.pick)) ∧
    Completes (.registerWrite false 0x38 8 3) s (s.advise 0x0103)

/-- JOB_RELEASE is accepted when no stream of the job runs, nothing is in flight, and no drain, substitution or power command is
under way; RELEASING and JOB_ACTIVE then read 1, STATE reads RUN, and nothing else changes (R36, R510). When the release completes,
beam and bobbins read 0, HBM reads 0 outside the three rings that survive, streams, commands, descriptors and instruction memory
are gone, JOB_SEED and the keys are zero, RELEASING and JOB_ACTIVE clear and the device is in READY (R37, R510). A JOB_RELEASE that fails one of
those conditions is ignored, and raises an ADVISORY STATE_ILLEGAL (R36). That a release is accepted in READY too is the model's reading
(log entry 22). -/
def Obligations.JobReleaseReturnsToReady : Prop :=
  ∀ s : State,
    (Reaches s Reg.GCTL_JOB_CTL → s.releasing = false → (s.fld Reg.GCTL_DEV_STATE_STATE = 3 ∨ s.fld Reg.GCTL_DEV_STATE_STATE = 4) →
      s.cmds = [] → s.res.ckpt = none → s.flag Reg.RES_SPARE_RES_PENDING = false → s.flag Reg.PWR_PWR_STAT_DONE = true →
      (∀ x ∈ s.streams, x.2.enabled = true → x.2.state = .idle ∨ x.2.state = .faulted ∨ x.2.state = .stopped) →
      Answers .jobRelease s fun t => t.releasing = true ∧ t.jobActive = true ∧ t.fld Reg.GCTL_DEV_STATE_STATE = 4 ∧
        OnlyFields [(Reg.GCTL_DEV_STATE_RELEASING, 1), (Reg.GCTL_DEV_STATE_JOB_ACTIVE, 1), (Reg.GCTL_DEV_STATE_STATE, 4)] s t) ∧
    (Reaches s Reg.GCTL_JOB_CTL →
      s.releasing = true ∨ (s.fld Reg.GCTL_DEV_STATE_STATE ≠ 3 ∧ s.fld Reg.GCTL_DEV_STATE_STATE ≠ 4) ∨ s.cmds ≠ [] ∨ s.res.ckpt ≠ none ∨
        s.flag Reg.RES_SPARE_RES_PENDING = true ∨ s.flag Reg.PWR_PWR_STAT_DONE = false ∨
        (∃ x ∈ s.streams, x.2.enabled = true ∧ x.2.state ≠ .idle ∧ x.2.state ≠ .faulted ∧ x.2.state ≠ .stopped) →
      Answers .jobRelease s fun t => SameRegsBut [Reg.FAULT_FR_STAT] s t ∧ SameWork s t ∧
        (s.ringOn = true → (s.queue 4).length < 512 →
          ∃ r, t.queue 4 = s.queue 4 ++ [r] ∧ r.code = 0x0103 ∧ r.sev = .advisory ∧ r.pick = s.pick)) ∧
    (s.boot.on = true → s.nLooms ≤ 80 → s.releasing = true → Answers .releaseComplete s fun t =>
      t.releasing = false ∧ t.jobActive = false ∧ t.fld Reg.GCTL_DEV_STATE_STATE = 3 ∧
      t.reg Reg.GCTL_JOB_SEED = 0 ∧ t.reg Reg.RES_DKEY = 0 ∧ t.reg Reg.FUL_TKEY0 = 0 ∧ t.reg Reg.FUL_TKEY1 = 0 ∧
      t.streams = [] ∧ t.cmds = [] ∧ (∀ i, dValid (t.desc i) = false) ∧ t.imem = [] ∧ t.looms = [] ∧
      (∀ loom ctx, loom < 80 → ctx < 4 → t.fld (Reg.LOOM_FLAGS_ARRAY loom ctx) = 0) ∧
      (∀ a, hbmEnd ≤ a → t.byte a = 0) ∧ (∀ a, inRanges (keptRings s) a = false → t.byte a = 0) ∧
      (∀ a, a < hbmEnd → inRanges (keptRings s) a = true → t.byte a = s.byte a) ∧
      t.cnt = s.cnt ∧ t.reg Reg.GCTL_JOB_ID = s.reg Reg.GCTL_JOB_ID)

/-- While a release runs, a doorbell is discarded with an ADVISORY STATE_ILLEGAL and a write to the CTX block, to JOB_SEED or to
JOB_ID with an ADVISORY HOST_ACCESS_DENIED; while a job is active, JOB_SEED and JOB_ID keep their values too (R38, R510). -/
def Obligations.LockedJobRegisters : Prop :=
  ∀ (s : State) (v : W64), s.boot.on = true →
    (s.releasing = true → ∀ loom stream tail added, loom < s.nLooms → loom < 80 → stream < 16 →
      Answers (.doorbell loom stream tail added) s fun t => SameRegsBut [Reg.FAULT_FR_STAT] s t ∧ SameWork s t ∧
        (s.ringOn = true → (s.queue (s.dieOf loom)).length < 512 →
          ∃ r, t.queue (s.dieOf loom) = s.queue (s.dieOf loom) ++ [r] ∧ r.code = 0x0103 ∧ r.sev = .advisory ∧ r.pick = s.pick)) ∧
    (s.releasing = true → ∀ slot index, slot < 4 * s.nLooms → slot < 320 →
      Answers (.descCommit slot index) s fun t => SameRegsBut [Reg.FAULT_FR_STAT] s t ∧ SameWork s t ∧
        (s.ringOn = true → (s.queue (s.dieOf (slot / 4))).length < 512 →
          ∃ r, t.queue (s.dieOf (slot / 4)) = s.queue (s.dieOf (slot / 4)) ++ [r] ∧ r.code = 0x0502 ∧ r.sev = .advisory ∧ r.pick = s.pick ∧ r.dw0 = 0xFFFF ∧
            r.dw1 = ctlBase + Reg.CTX_DESC_COMMIT slot)) ∧
    (s.releasing = true ∨ s.jobActive = true → s.res.remap = none → ∀ priv,
      Completes (.registerWrite priv 0x40 8 v) s (s.denied (ctlBase + Reg.GCTL_JOB_SEED)) ∧
      Completes (.registerWrite priv 0x48 8 v) s (s.denied (ctlBase + Reg.GCTL_JOB_ID))) ∧
    (s.releasing = false → s.jobActive = false → s.res.remap = none → ∀ priv,
      Completes (.registerWrite priv 0x40 8 v) s (s.setReg Reg.GCTL_JOB_SEED v) ∧
      Completes (.registerWrite priv 0x48 8 v) s (s.setReg Reg.GCTL_JOB_ID v))

/-! ### Fabric time -/

/-- An edge on PPS_IN less than 900 ms after the last accepted one is ignored (R495). Every other edge sets PPS_PRESENT and is the last edge
known; it applies an armed TOD_SEC, which sets TOD_SET, but that a running
grandmaster refuses one more than 1 ms from its counter, with TOD_REFUSED; a running grandmaster is disciplined by rate alone, by at most
100 ppm, and never stepped; OFFSET, the last offset to a parent, stands (R45, R47, R53, R61, R62). ARM itself changes nothing but the
arming, and two seconds without an edge clear PPS_PRESENT, with which the device is no longer grandmaster-capable; a
grandmaster then runs on in HOLDOVER. That it runs on in HOLDOVER is the model's reading (log entry 24). -/
def Obligations.PpsInputAndTimeOfDay : Prop :=
  ∀ s : State, s.boot.on = true →
    (s.ppsTooSoon = true → Completes .ppsInEdge s s) ∧
    (∀ p, s.time.lastPps = some p → (s.ppsTooSoon = true ↔ s.pick < p + 7031250)) ∧
    (s.ppsTooSoon = false → Answers .ppsInEdge s fun t =>
      t.flag Reg.TIME_TOD_CTL_PPS_PRESENT = true ∧ t.time.lastPps = some t.pick ∧ t.time.armed = false ∧
      t.fld Reg.TIME_OFFSET_OFFSET = s.fld Reg.TIME_OFFSET_OFFSET ∧
      (∀ away : Int, away = (s.now : Int) - ((s.fld Reg.TIME_TOD_SEC_SEC * secondUnits : Nat) : Int) → s.time.armed = true →
        (s.sync ≠ 5 ∨ (-512000000 ≤ away ∧ away ≤ 512000000) →
          t.flag Reg.TIME_TOD_CTL_TOD_SET = true ∧ t.time.todSecond = some (s.fld Reg.TIME_TOD_SEC_SEC)) ∧
        (s.sync = 5 → away < -512000000 ∨ 512000000 < away →
          t.flag Reg.TIME_EVENTS_TOD_REFUSED = true ∧ t.flag Reg.TIME_TOD_CTL_TOD_SET = s.flag Reg.TIME_TOD_CTL_TOD_SET)) ∧
      (s.sync = 5 → t.pick = s.pick ∧ t.time.frac = s.time.frac) ∧
      (s.sync = 5 → s.flag Reg.TIME_TOD_CTL_TOD_SET = true → t.sync = 5 → ∀ sec, t.time.todSecond = some sec →
        -429496 ≤ toSigned 32 (t.fld Reg.TIME_FREQ_ADJ_ADJ) ∧ toSigned 32 (t.fld Reg.TIME_FREQ_ADJ_ADJ) ≤ 429496) ∧
      SameRegsOutside 0x30000 0x40000 s t ∧ SameWork s t) ∧
    (Reaches s Reg.TIME_TOD_CTL → Completes .todArm s { s with time := { s.time with armed := true } }) ∧
    (∀ p, s.time.lastPps = some p → s.flag Reg.TIME_TOD_CTL_PPS_PRESENT = true → p + 15625000 ≤ s.pick →
      Answers .ppsPresentExpiry s fun t =>
        t.flag Reg.TIME_TOD_CTL_PPS_PRESENT = false ∧ t.capable = false ∧ t.flag Reg.TIME_SYNC_STAT_GM_CAPABLE = false ∧
        (s.sync = 5 → t.sync = 3) ∧ t.pick = s.pick ∧ SameRegsOutside 0x30000 0x40000 s t ∧ SameWork s t)

/-- Once per shed, in its slot with index 0 and in no slot of a hold, a device sends one announce cell on each port whose link has its
keys: the best key it knows, the hops to that key's device and the sequence number, which a grandmaster advances (R46, R313, R314);
what the cell of a device that knows no key carries is open (log entry 1). A synchronised device whose own key has been the best for
32 sheds becomes grandmaster then, without a step (R45, R49). An announce cell becomes what its port offers; the offers of other ports
stand. The best key the device then knows is the lowest among its own and the ports' keys (R45, R46); a port that is not the parent
shows whether it serves a child, whose partner has asked for the time since its last cell and announces the best key one hop further away
(R48, R62; log entry 51). A grandmaster whose key has brought no new sequence number for eight whole sheds is lost: the device drops every offer of that key and settles again, and no counter
is stepped (R49). -/
def Obligations.AnnouncementsChooseTheGrandmaster : Prop :=
  (∀ s : State, s.boot.on = true → s.pick % 8192 = 0 → s.time.holdTo = none → s.time.announced ≠ some (shedOf s.pick) →
    (s.ownSettled = false ∨ s.sync = 5 →
      (∀ key hops, s.time.best = some (key, hops) → Answers .announceCellSend s fun t =>
        (∀ p, t.port p = if slotsRun s p then { s.port p with announce := some (key, hops, t.time.announceSeq) } else s.port p) ∧
        t.time.announced = some (shedOf s.pick) ∧
        t.time.announceSeq = (s.time.announceSeq + if s.capable = true ∧ (key, hops) = (s.ownKey, 0) then 1 else 0) % 2 ^ 32 ∧
        t.pick = s.pick ∧ Completes .announceCellSend t t ∧ SameRegsBut [] s t ∧ SameWork s t) ∧
      (s.time.best = none → Answers .announceCellSend s fun t =>
        (∃ key, key < 2 ^ 136 ∧
          ∀ p, t.port p = if slotsRun s p then { s.port p with announce := some (key, 0, t.time.announceSeq) } else s.port p) ∧
        t.time.announced = some (shedOf s.pick) ∧ SameRegsBut [] s t ∧ SameWork s t)) ∧
    (s.ownSettled = true → s.sync ≠ 5 → s.time.synced = true → s.timePhase = true → Answers .announceCellSend s fun t =>
      t.sync = 5 ∧ t.fld Reg.TIME_SYNC_STAT_PARENT_PORT = 31 ∧ t.pick = s.pick ∧ t.time.frac = s.time.frac ∧
      SameRegsOutside 0x30000 0x40000 s t ∧ SameWork s t)) ∧
  (∀ (s : State) (p : Nat) (key : BitVec 136) (hops : BitVec 8) (seq : W32), s.boot.on = true → p < s.nPorts → p < 18 →
    (s.port p).keyed = true → Answers (.announceCellReceive p key hops seq) s fun t =>
      t.offer p = some { key := key.toNat, hops := hops.toNat, seq := seq.toNat, shed := shedOf s.pick } ∧
      (∀ q, q ≠ p → t.offer q = s.offer q) ∧
      (∀ k h, t.time.best = some (k, h) → k ≤ key.toNat ∧ ∀ q a, q < s.nPorts → t.offer q = some a → k ≤ a.key) ∧
      (t.fld Reg.TIME_SYNC_STAT_PARENT_PORT ≠ p → t.fld (Reg.TIME_PTIME_ROLE p) =
        if (s.port p).served = true ∧ hops ≠ 0 ∧ t.time.best = some (key.toNat, hops.toNat - 1) then 2 else 3) ∧
      t.pick = s.pick ∧ t.time.frac = s.time.frac ∧ SameRegsOutside 0x30000 0x40000 s t ∧ SameWork s t) ∧
  (∀ (s : State) (key hops : Nat), s.boot.on = true → s.time.best = some (key, hops) → s.sync ≠ 5 → s.time.lastKeyShed + 9 ≤ shedOf s.pick →
    ¬ (key = s.ownKey ∧ s.capable = true) →
    Answers .grandmasterLost s fun t =>
      (∀ p a, t.offer p = some a → a.key ≠ key) ∧ (∀ p a, s.offer p = some a → a.key ≠ key → t.offer p = some a) ∧
      t.time.best.map (·.1) ≠ some key ∧ t.sync = s.sync ∧ t.pick = s.pick ∧ t.time.frac = s.time.frac ∧
      SameRegsOutside 0x30000 0x40000 s t ∧ SameWork s t)

/-- A delay exchange whose t2 and t3 are those of the parent's request and this end's answer computes its offset and mean path delay
as R50 writes them, in FRAC units, and uses the request up; any other one changes nothing (R50, R313). One whose tag fails, that comes on
a quarantined port, or that a synchronised servo disagrees with is discarded: it counts in DISCARDS and ends the run of good exchanges; one
that a failed tag or the quarantine cuts short before its answer counts too, once in 1,024 picks (R51, R54, R337). A valid one shows its offset and path delay; in the
TIME phase the first one of all steps the counter forward, or holds it (R53), and a device that is synchronised corrects its rate
alone, by at most 100 ppm (R53); 64 good ones in a row lock it (R54). The model's choices: one exchange for each request, and one count of those
cut short in 1,024 picks (log entry 51); that the offset is compared with the predicted one only once the device is synchronised, and that a
discarded exchange leaves OFFSET as it was (log entry 27); and the prediction, a free function (log entry 13). -/
def Obligations.DelayExchangeDisciplines : Prop :=
  ∀ (t1 t2 t3 t4 : Int) (s : State) (p : Nat), s.boot.on = true → p = s.fld Reg.TIME_SYNC_STAT_PARENT_PORT → p < s.nPorts → s.sync ≠ 5 →
    (∀ ok, exchangeOwn (s.port p) t2 t3 = false →
      (ok = true ∧ s.portState p ≠ 8 ∨ s.time.cutAt = some (s.pick / 1024) → Completes (.delayExchange t1 t2 t3 t4 ok) s s) ∧
      (ok = false ∨ s.portState p = 8 → s.time.cutAt ≠ some (s.pick / 1024) → Answers (.delayExchange t1 t2 t3 t4 ok) s fun t =>
        t.fld Reg.TIME_DISCARDS_COUNT = min (s.fld Reg.TIME_DISCARDS_COUNT + 1) (2 ^ 32 - 1) ∧
        t.time = { s.time with good := 0, cutAt := some (s.pick / 1024) } ∧ SameRegsBut [Reg.TIME_DISCARDS] s t ∧ SameWork s t)) ∧
    (exchangeOwn (s.port p) t2 t3 = true →
      (∀ off ok, off = Int.fdiv ((t2 - t1) - (t4 - t3)) 2 - toSigned 32 (s.fld (Reg.TIME_PTIME_ASYM p)) →
        ok = false ∨ s.portState p = 8 ∨ (s.time.synced = true ∧
          20480 < (off - Config.servoPredict (toSigned 32 (s.fld Reg.TIME_OFFSET_OFFSET)) (toSigned 32 (s.fld Reg.TIME_FREQ_ADJ_ADJ))).natAbs) →
        Answers (.delayExchange t1 t2 t3 t4 ok) s fun t => t.fld Reg.TIME_DISCARDS_COUNT = min (s.fld Reg.TIME_DISCARDS_COUNT + 1) (2 ^ 32 - 1) ∧
        t.time = { s.time with good := 0 } ∧ (t.port p).reqAt = none ∧ SameRegsBut [Reg.TIME_DISCARDS] s t ∧ SameWork s t) ∧
      ∀ off, off = Int.fdiv ((t2 - t1) - (t4 - t3)) 2 - toSigned 32 (s.fld (Reg.TIME_PTIME_ASYM p)) →
        exchangeBad s p off true = false → Answers (.delayExchange t1 t2 t3 t4 true) s fun t =>
          t.fld Reg.TIME_OFFSET_OFFSET = sat32 off ∧
          t.fld Reg.TIME_PATH_DELAY_DELAY = ofSigned 32 (Int.fdiv ((t2 - t1) + (t4 - t3)) 2) ∧ (t.port p).reqAt = none ∧
          (s.time.synced = true → t.pick = s.pick ∧ t.time.frac = s.time.frac ∧
            (s.sync ≠ 4 → -429496 ≤ toSigned 32 (t.fld Reg.TIME_FREQ_ADJ_ADJ) ∧ toSigned 32 (t.fld Reg.TIME_FREQ_ADJ_ADJ) ≤ 429496)) ∧
          (s.sync = 1 → s.time.synced = true → (t.sync = 2 ↔ -5120 ≤ off ∧ off ≤ 5120 ∧ 64 ≤ s.goodRun + 1)) ∧
          (s.sync = 0 → s.time.synced = false → s.timePhase = true → t.sync = 1 ∧ t.time.synced = true ∧
            (off ≤ 0 → (t.now : Int) = (s.now : Int) - off ∧ t.time.holdTo = none) ∧
            (0 < off → t.now = s.now ∧ t.time.holdTo = some (s.now - ((s.now : Int) - off).toNat))) ∧
          SameRegsOutside 0x30000 0x40000 s t ∧ SameWork s t)

/-- A LOCKED device that has missed sixteen exchanges drops its parent's offer, enters HOLDOVER with its elapsed count at zero, and
takes the port that now offers the best key as its parent, or none; no counter is stepped (R56). In HOLDOVER at its limit it enters
UNSYNC and raises SCHEDULE_MISMATCH with severity DEVICE and detail 1 (R57). In UNSYNC, a regained parent corrects the time once,
forward at once or backward by a hold, and leads to ACQUIRE (R58); the WAITPICKs that a forward step passes count as late (R60). -/
def Obligations.HoldoverAndResynchronisation : Prop :=
  ∀ s : State, s.boot.on = true →
    (∀ p rest, s.sync = 2 → s.time.lastGood + 16384 ≤ s.pick → p = s.fld Reg.TIME_SYNC_STAT_PARENT_PORT →
      rest = ({ s with time := { s.time with ann := smSet (fun _ => none) s.time.ann p none } }).bestOffer → s.nPorts ≤ 18 →
      Answers .parentLost s fun t =>
        t.sync = 3 ∧ t.fld Reg.TIME_HOLDOVER_ELAPSED_ELAPSED = 0 ∧ t.flag Reg.TIME_EVENTS_LOCKED_LOST = true ∧
        t.flag Reg.TIME_EVENTS_HOLDOVER_ENTERED = true ∧ t.offer p = none ∧ (∀ q, q ≠ p → t.offer q = s.offer q) ∧
        (∀ q a, rest = some (q, a) → t.fld Reg.TIME_SYNC_STAT_PARENT_PORT = q) ∧
        (rest = none → t.fld Reg.TIME_SYNC_STAT_PARENT_PORT = 31) ∧
        t.pick = s.pick ∧ t.time.frac = s.time.frac ∧ SameRegsOutside 0x30000 0x40000 s t ∧ SameWork s t) ∧
    (s.sync = 3 → s.fld Reg.TIME_HOLDOVER_LIMIT_LIMIT ≤ s.fld Reg.TIME_HOLDOVER_ELAPSED_ELAPSED → s.ringOn = true →
      Answers .holdoverLimitExpiry s fun t =>
        t.sync = 4 ∧ t.flag Reg.TIME_EVENTS_UNSYNC_ENTERED = true ∧
        (∃ r, t.queue 4 = s.queue 4 ++ [r] ∧ r.code = 0x0405 ∧ r.sev = .device ∧ r.dw0 = 1 ∧ r.pick = s.pick) ∧
        t.pick = s.pick ∧ SameRegsOutside 0x30000 0x40000 s t ∧ SameWork s t) ∧
    (∀ p time, s.sync = 4 → p < s.nPorts → p < 18 → Answers (.unsyncResync p time) s fun t =>
      t.sync = 1 ∧ t.fld Reg.TIME_SYNC_STAT_PARENT_PORT = p ∧
      (s.now ≤ time → t.now = time ∧ t.time.holdTo = none) ∧ (time < s.now → t.now = s.now ∧ t.time.holdTo = some (s.now - time)) ∧
      t.fld Reg.TIME_LATE_PICKS_COUNT = min (s.fld Reg.TIME_LATE_PICKS_COUNT + passedWaits s s.pick t.pick) (2 ^ 32 - 1) ∧
      SameRegsOutside 0x30000 0x40000 s t ∧ SameWork s t)

/-- At each pick that is a multiple of 7,812,500 the device drives one pulse on PPS_OUT in LOCKED, HOLDOVER and GRANDMASTER, and
none in another state or at another pick (R61). The pin is high from the pulse on, low in every other state with power, and undriven
without (R495, R496). -/
def Obligations.PpsOutPulsesAtEachSecond : Prop :=
  ∀ s : State, s.boot.on = true →
    (s.pick % 7812500 = 0 → s.sync = 2 ∨ s.sync = 3 ∨ s.sync = 5 → s.time.ppsOut ≠ some s.pick →
      Answers .ppsOutPulse s fun t => t.outbox = s.outbox ++ [OutMsg.ppsOut] ∧ t.ppsPin = .high ∧ NoFields s t ∧
        Completes .ppsOutPulse t t) ∧
    (¬ (s.sync = 2 ∨ s.sync = 3 ∨ s.sync = 5) → s.ppsPin = .low ∧ { s with boot := { s.boot with on := false } }.ppsPin = .undriven) ∧
    (s.pick % 7812500 ≠ 0 ∨ ¬ (s.sync = 2 ∨ s.sync = 3 ∨ s.sync = 5) → Completes .ppsOutPulse s s)

/-! ### Scalar and sync commands -/

/-- CSET, CADD and CMP act as R221 says, on the values that stood when the bundle began to issue (R211): CSET sets a counter to
IMM, CADD to a sum modulo 2^32, CMP sets a comparator to a relation; every other counter, comparator and semaphore of the stream,
its loops, every other stream, memory, every flag and the commands in flight stand. Counters and comparators reset to 0, and a REL of 6
or 7 is not legal. -/
def Obligations.ScalarCommandsWriteTheirTargets : Prop :=
  (∀ loom stream, (∀ k, (State.reset.stream loom stream).ctr k = 0) ∧ (State.reset.stream loom stream).cmps = 0) ∧
  (∀ f : CmpF, 5 < f.rel.toNat → slotIllegal (.cmp f) = true) ∧
  ∀ (src : Src) (s : State),
    (∀ cd imm, Takes src (.cset cd imm) s → Answers (.cset src cd imm) s fun t =>
      (∀ k, (t.stream src.loom src.stream).ctr k = if k = cd.toNat then imm else (s.stream src.loom src.stream).ctr k) ∧
      (t.stream src.loom src.stream).cmps = (s.stream src.loom src.stream).cmps ∧
      (t.stream src.loom src.stream).sems = (s.stream src.loom src.stream).sems ∧
      (t.stream src.loom src.stream).loops = (s.stream src.loom src.stream).loops ∧ t.cmds = s.cmds ∧ IssueFrame src s t) ∧
    (∀ f, Takes src (.cadd f) s → Answers (.cadd src f) s fun t =>
      (∀ k, (t.stream src.loom src.stream).ctr k = if k = f.cd.toNat then
          (s.stream src.loom src.stream).ctr f.cs.toNat + (if f.usect then (s.stream src.loom src.stream).ctr f.ct.toNat else f.imm)
        else (s.stream src.loom src.stream).ctr k) ∧
      (t.stream src.loom src.stream).cmps = (s.stream src.loom src.stream).cmps ∧
      (t.stream src.loom src.stream).sems = (s.stream src.loom src.stream).sems ∧
      (t.stream src.loom src.stream).loops = (s.stream src.loom src.stream).loops ∧ t.cmds = s.cmds ∧ IssueFrame src s t) ∧
    (∀ f, Takes src (.cmp f) s → Answers (.cmp src f) s fun t =>
      (∀ x y, x = (s.stream src.loom src.stream).ctr f.cs.toNat →
        y = (if f.usect then (s.stream src.loom src.stream).ctr f.ct.toNat else f.imm) →
        ∀ k, k < 8 → (t.stream src.loom src.stream).cmps.getLsbD k =
          if k = f.kd.toNat then
            match f.rel.toNat with
            | 0 => decide (x = y)
            | 1 => decide (x ≠ y)
            | 2 => decide (x.toInt < y.toInt)
            | 3 => decide (y.toInt ≤ x.toInt)
            | 4 => decide (x.toNat < y.toNat)
            | _ => decide (y.toNat ≤ x.toNat)
          else (s.stream src.loom src.stream).cmps.getLsbD k) ∧
      (∀ k, (t.stream src.loom src.stream).ctr k = (s.stream src.loom src.stream).ctr k) ∧
      (t.stream src.loom src.stream).sems = (s.stream src.loom src.stream).sems ∧
      (t.stream src.loom src.stream).loops = (s.stream src.loom src.stream).loops ∧ t.cmds = s.cmds ∧ IssueFrame src s t)

/-- LOOP with a count that is not zero opens a loop at iteration 0, and clears its index counter when IDXEN is set; with four
loops open it faults the stream with LOOP_DEPTH. ENDLOOP ends an iteration of the innermost loop: it goes back to the loop's body
with the iteration number advanced, and in the index counter, or leaves the loop after its last iteration (R222). -/
def Obligations.LoopsRunTheirIterations : Prop :=
  ∀ (src : Src) (s : State) (p : ProgPos), (s.stream src.loom src.stream).prog = some p →
    (∀ cnt idx idxen, Takes src (.loop cnt idx idxen) s → (s.stream src.loom src.stream).ctr cnt.toNat ≠ 0 →
      (s.stream src.loom src.stream).loops.length < 4 → Answers (.loop src cnt idx idxen) s fun t =>
        (t.stream src.loom src.stream).loops = (s.stream src.loom src.stream).loops ++
          [{ body := p.pc, count := ((s.stream src.loom src.stream).ctr cnt.toNat).toNat, iter := 0,
             idx := if idxen then some idx.toNat else none }] ∧
        (∀ k, (t.stream src.loom src.stream).ctr k =
          if idxen = true ∧ k = idx.toNat then 0 else (s.stream src.loom src.stream).ctr k) ∧
        (t.stream src.loom src.stream).prog = some p ∧ t.cmds = s.cmds ∧ IssueFrame src s t) ∧
    (∀ cnt idx idxen, Takes src (.loop cnt idx idxen) s → 4 ≤ (s.stream src.loom src.stream).loops.length →
      Answers (.loop src cnt idx idxen) s fun t =>
        (t.stream src.loom src.stream).state = .faulted ∧ t.fld (Reg.CTX_FAULT_INFO_CODE (ctxSlot src.loom src.stream)) = 0x0109 ∧
        SameMemory s t) ∧
    (∀ fr rest, Takes src .endloop s → (s.stream src.loom src.stream).loops = rest ++ [fr] → Answers (.endloop src) s fun t =>
      (fr.iter + 1 = fr.count → (t.stream src.loom src.stream).loops = rest ∧ (t.stream src.loom src.stream).prog = some p ∧
        ∀ k, (t.stream src.loom src.stream).ctr k = (s.stream src.loom src.stream).ctr k) ∧
      (fr.iter + 1 ≠ fr.count → (t.stream src.loom src.stream).loops = rest ++ [{ fr with iter := fr.iter + 1 }] ∧
        (t.stream src.loom src.stream).prog = some { p with pc := fr.body } ∧
        ∀ k, (t.stream src.loom src.stream).ctr k =
          if fr.idx = some k then BitVec.ofNat 32 (fr.iter + 1) else (s.stream src.loom src.stream).ctr k) ∧
      t.cmds = s.cmds ∧ IssueFrame src s t)

/-- SKIPIF skips the next N bundles when its comparator equals SENSE: a ring stream then skips the next N bundles it fetches, a
program goes on after them; otherwise nothing is skipped (R223). RUN from a ring enters the program at its word and page while
the page's generation is PGEN, and is rejected with IMEM_RELOADED otherwise (R225). -/
def Obligations.SkipsAndRunsMoveTheSequencer : Prop :=
  ∀ (src : Src) (s : State),
    (∀ k sense n, Takes src (.skipif k sense n) s → (s.stream src.loom src.stream).prog = none →
      (s.stream src.loom src.stream).loops = [] → Answers (.skipif src k sense n) s fun t =>
        (t.stream src.loom src.stream).skip = (if (s.stream src.loom src.stream).cmps.getLsbD k.toNat = sense then n.toNat else 0) ∧
        (t.stream src.loom src.stream).head = (s.stream src.loom src.stream).head ∧ t.cmds = s.cmds ∧ IssueFrame src s t) ∧
    (∀ k sense n p pc, Takes src (.skipif k sense n) s → (s.stream src.loom src.stream).prog = some p →
      s.skipWalk src.loom (!(s.stream src.loom src.stream).loops.isEmpty) n.toNat p.pc false = .ok (pc, false) →
      Answers (.skipif src k sense n) s fun t =>
        (t.stream src.loom src.stream).prog =
          some { p with pc := if (s.stream src.loom src.stream).cmps.getLsbD k.toNat = sense ∧ n ≠ 0 then pc else p.pc } ∧
        (t.stream src.loom src.stream).loops = (s.stream src.loom src.stream).loops ∧ t.cmds = s.cmds ∧ IssueFrame src s t) ∧
    (∀ page word pgen, Takes src (.run page word pgen) s → (s.stream src.loom src.stream).loops = [] → s.loadOpen src.loom = false →
      (s.pgen src.loom page.toNat = pgen.toNat → Answers (.run src page word pgen) s fun t =>
        (t.stream src.loom src.stream).prog = some { pc := 512 * page.toNat + word.toNat, pgen := pgen.toNat } ∧
        (t.stream src.loom src.stream).state = .running ∧ t.cmds = s.cmds ∧ IssueFrame src s t) ∧
      (s.pgen src.loom page.toNat ≠ pgen.toNat → Answers (.run src page word pgen) s fun t =>
        (t.stream src.loom src.stream).state = .faulted ∧ t.fld (Reg.CTX_FAULT_INFO_CODE (ctxSlot src.loom src.stream)) = 0x0107 ∧
        (t.stream src.loom src.stream).prog = none ∧ SameMemory s t))

/-- WAITSEM takes N from its semaphore when it holds N, and holds its stream until then, taking nothing; a stream held at a WAITSEM goes
on once the semaphore holds N (R235). WAITPICK
issues at once from its target pick on, counts in LATE_PICKS when the target has passed, and holds its stream before it; a stream
held at a WAITPICK goes on when the pick comes, and that is not counted (R60). -/
def Obligations.WaitsHoldAndRelease : Prop :=
  ∀ (src : Src) (s : State),
    (∀ sem n, Takes src (.waitsem sem n) s →
      (n.toNat ≤ ((s.stream src.loom src.stream).sem sem.toNat).toNat → Answers (.waitsem src sem n) s fun t =>
        (∀ k, (t.stream src.loom src.stream).sem k =
          if k = sem.toNat then (s.stream src.loom src.stream).sem k - n else (s.stream src.loom src.stream).sem k) ∧
        (t.stream src.loom src.stream).queue = [] ∧ t.cmds = s.cmds ∧ IssueFrame src s t) ∧
      (((s.stream src.loom src.stream).sem sem.toNat).toNat < n.toNat → Answers (.waitsem src sem n) s fun t =>
        (t.stream src.loom src.stream).state = .held ∧ (t.stream src.loom src.stream).sems = (s.stream src.loom src.stream).sems ∧
        (t.stream src.loom src.stream).queue ≠ [] ∧ t.cmds = s.cmds ∧ IssueFrame src s t)) ∧
    (∀ i sem n, HeldAt src.loom src.stream i (.waitsem sem n) s → s.swRun src.loom = none →
      n.toNat ≤ ((s.stream src.loom src.stream).sem sem.toNat).toNat → Answers (.bundleIssue src.loom src.stream) s fun t =>
        (∀ k, (t.stream src.loom src.stream).sem k =
          if k = sem.toNat then (s.stream src.loom src.stream).sem k - n else (s.stream src.loom src.stream).sem k) ∧
        (t.stream src.loom src.stream).queue = [] ∧ (t.stream src.loom src.stream).hold = none ∧ t.cmds = s.cmds ∧ IssueFrame src s t) ∧
    (∀ at_ target, Takes src (.waitpick at_) s → (s.stream src.loom src.stream).hold = none →
      target = (match at_ with
        | .imm t => t.toNat
        | .ctrs ch cl => ((s.stream src.loom src.stream).ctr ch.toNat).toNat * 2 ^ 32 + ((s.stream src.loom src.stream).ctr cl.toNat).toNat) →
      (target ≤ s.pick → Answers (.waitpick src at_) s fun t =>
        (t.stream src.loom src.stream).queue = [] ∧ t.pick = s.pick ∧
        t.fld Reg.TIME_LATE_PICKS_COUNT =
          min (s.fld Reg.TIME_LATE_PICKS_COUNT + if target < s.pick then 1 else 0) (2 ^ 32 - 1) ∧
        SameRegsBut [Reg.CTX_LAST_RETIRED (ctxSlot src.loom src.stream), Reg.CNT_TR_DROPS, Reg.TIME_LATE_PICKS] s t ∧
        SameMemory s t ∧ t.cmds = s.cmds) ∧
      (s.pick < target → Answers (.waitpick src at_) s fun t =>
        (t.stream src.loom src.stream).state = .held ∧ (t.stream src.loom src.stream).queue ≠ [] ∧ t.cmds = s.cmds ∧ IssueFrame src s t)) ∧
    (∀ i at_ since, HeldAt src.loom src.stream i (.waitpick at_) s →
      (s.stream src.loom src.stream).hold = some (.waitpick, since) → pickTarget i at_ ≤ s.pick →
      Answers (.waitpickRelease src.loom src.stream) s fun t =>
        (t.stream src.loom src.stream).queue = [] ∧ (t.stream src.loom src.stream).hold = none ∧
        t.fld Reg.TIME_LATE_PICKS_COUNT = s.fld Reg.TIME_LATE_PICKS_COUNT ∧ t.cmds = s.cmds ∧ IssueFrame src s t)

/-- SIGNAL and FENCE issue as commands of SLACK picks that write nothing yet (R233, R235, R242). A SIGNAL that names a loom the grade
lacks is rejected with ENGINE_ABSENT, and one to a stream that is not enabled, is FAULTED or is STOPPED with STATE_ILLEGAL (R239, R240).
Neither retires while an earlier command of its stream is in flight; then a SIGNAL's retirement adds ADD to the target's semaphore, which
saturates, and a FENCE without CREC leaves nothing (R233, R235). -/
def Obligations.SignalAndFenceIssueAndRetire : Prop :=
  ∀ (src : Src) (s : State),
    (∀ sem loom stream add, Takes src (.signal sem loom stream add) s →
      (loom.toNat < s.nLooms → (s.stream loom.toNat stream.toNat).signalable = true → Answers (.signal src sem loom stream add) s fun t =>
        Issued src (.signal sem loom stream add) s t (fun x => x.budget = some (s.slack src.loom (src.stream % 4)) ∧ x.plan = {}) ∧
        (t.stream loom.toNat stream.toNat).sems = (s.stream loom.toNat stream.toNat).sems ∧ IssueFrame src s t) ∧
      (s.nLooms ≤ loom.toNat ∨ (s.stream loom.toNat stream.toNat).enabled = false ∨ (s.stream loom.toNat stream.toNat).state = .faulted ∨
          (s.stream loom.toNat stream.toNat).state = .stopped → Answers (.signal src sem loom stream add) s fun t =>
        (t.stream src.loom src.stream).state = .faulted ∧
        t.fld (Reg.CTX_FAULT_INFO_CODE (ctxSlot src.loom src.stream)) = (if s.nLooms ≤ loom.toNat then 0x0102 else 0x0103) ∧
        (∀ l k, (t.stream l k).sems = (s.stream l k).sems) ∧ t.cmds = s.cmds ∧ SameMemory s t ∧ t.descs = s.descs)) ∧
    (∀ crec, Takes src (.fence crec) s →
      (crec = true → (s.reg (Reg.CTX_CQ_BASE (ctxSlot src.loom src.stream))).toNat % 64 = 0 ∧
        (s.reg (Reg.CTX_CQ_BASE (ctxSlot src.loom src.stream))).toNat +
          16 * 2 ^ s.fld (Reg.CTX_CQ_CTL_LOG2N (ctxSlot src.loom src.stream)) ≤ hbmEnd) →
      Answers (.fence src crec) s fun t =>
        Issued src (.fence crec) s t (fun x => x.budget = some (s.slack src.loom (src.stream % 4)) ∧ x.plan = {}) ∧ IssueFrame src s t) ∧
    (∀ x, s.boot.on = true → s.cmd? x.id = some x → x.plan = {} → x.frames = [] → x.phase = .plain → x.draining = false → x.sw = false →
      s.swMode = false → x.digest = none → x.reads = [] → x.writes = [] → s.res.cap = none → s.fpWait = none →
      ((∃ y ∈ s.cmds, y.loom = x.loom ∧ y.stream = x.stream ∧ y.sw = false ∧ y.id < x.id) →
        (∃ sem loom stream add, x.c = .signal sem loom stream add) ∨ (∃ crec, x.c = .fence crec) → Completes (.commandRetire x.id) s s) ∧
      ((∀ y ∈ s.cmds, y.loom = x.loom → y.stream = x.stream → y.sw = false → x.id ≤ y.id) →
        (∀ sem loom stream add, x.c = .signal sem loom stream add → Answers (.commandRetire x.id) s fun t =>
          ((t.stream loom.toNat stream.toNat).sem sem.toNat).toNat =
            min (((s.stream loom.toNat stream.toNat).sem sem.toNat).toNat + add.toNat) 0xFFFFFFFF ∧
          (∀ k, k ≠ sem.toNat → (t.stream loom.toNat stream.toNat).sem k = (s.stream loom.toNat stream.toNat).sem k) ∧
          (∀ l k, (l, k) ≠ (loom.toNat, stream.toNat) → l < 128 → k < 16 → (t.stream l k).sems = (s.stream l k).sems) ∧
          t.cmds = s.cmds.filter (·.id != x.id) ∧ SameMemory s t ∧ t.descs = s.descs) ∧
        (x.c = .fence false → Answers (.commandRetire x.id) s fun t =>
          t.cmds = s.cmds.filter (·.id != x.id) ∧ (∀ l k, (t.stream l k).sems = (s.stream l k).sems) ∧ SameMemory s t ∧
          t.descs = s.descs)))

/-! ### Streams, bundles and retirement -/

/-- A stream at a bundle boundary with a submitted bundle (R209, R210, R223, R231): a bundle whose wait set is not covered holds
the stream and takes nothing; a bundle that fails its framing faults the stream with DECODE_ILLEGAL before anything of it issues;
and a bundle of one CSET takes its wait set, sets the counter, and, with nothing in flight before it and no signal set, retires at
once: HEAD and RETIRED pass it, PENDING falls by one, and LAST_RETIRED shows its tag. The signal set of a bundle that has issued, and
before which nothing is in flight, adds 1 to each semaphore it names, saturating, and leaves the others (R212, R235). -/
def Obligations.BundlesIssueHoldFaultAndSignal : Prop :=
  (∀ (loom stream : Nat) (s : State) (tail left : Nat) (rest : List (Nat × Nat)),
      s.boot.on = true → loom < 80 → stream < 16 → mayIssue s loom stream = true → s.swRun loom = none → s.swMode = false →
      swatchBlocks s loom stream = false → (s.stream loom stream).queue = [] → (s.stream loom stream).prog = none →
      (s.stream loom stream).bells = (tail, left) :: rest → (s.stream loom stream).loops = [] → (s.stream loom stream).skip = 0 →
      s.fpWait = none → s.res.cap = none → s.flag Reg.RES_CAP_STAT_ARMED = false → s.flag Reg.CNT_TR_CTL_EN = false →
      s.res.remap = none → s.loomPower loom = 0 → s.res.ckpt = none →
      (∀ f cmds, fetchRing s (s.stream loom stream) tail left = .ok f → decodeBundle s loom false f = .ok cmds →
        waitReady (s.stream loom stream) (hWait f.hdr) = false → Answers (.bundleIssue loom stream) s fun t =>
          (t.stream loom stream).state = .held ∧ (t.stream loom stream).sems = (s.stream loom stream).sems ∧
          (t.stream loom stream).head = (s.stream loom stream).head ∧ (t.stream loom stream).bno = (s.stream loom stream).bno ∧
          t.cmds = s.cmds ∧ SameRegsBut [] s t ∧ SameMemory s t ∧ SameStreamsBut loom stream s t ∧ t.descs = s.descs) ∧
      (∀ d, s.badWords = [] → fetchRing s (s.stream loom stream) tail left = .error d → Answers (.bundleIssue loom stream) s fun t =>
        (t.stream loom stream).state = .faulted ∧ t.fld (Reg.CTX_FAULT_INFO_CODE (ctxSlot loom stream)) = 0x0101 ∧
        (t.stream loom stream).sems = (s.stream loom stream).sems ∧ (t.stream loom stream).retired = (s.stream loom stream).retired ∧
        SameMemory s t ∧ SameStreamsBut loom stream s t) ∧
      (∀ f cd imm, fetchRing s (s.stream loom stream) tail left = .ok f → decodeBundle s loom false f = .ok [.cset cd imm] →
        waitReady (s.stream loom stream) (hWait f.hdr) = true → hSignal f.hdr = 0 → (s.stream loom stream).bundles = [] →
        s.cmdsOf loom stream = [] → (s.stream loom stream).stopReq = false → (s.stream loom stream).reload = false →
        Answers (.bundleIssue loom stream) s fun t =>
          (∀ k, (t.stream loom stream).ctr k = if k = cd.toNat then imm else (s.stream loom stream).ctr k) ∧
          (∀ k, (t.stream loom stream).sem k =
            if k < 8 ∧ bitAt (hWait f.hdr) k = true then (s.stream loom stream).sem k - 1 else (s.stream loom stream).sem k) ∧
          (t.stream loom stream).head = f.next ∧ (t.stream loom stream).retired = f.next ∧
          (t.stream loom stream).pending = (s.stream loom stream).pending - 1 ∧ (t.stream loom stream).queue = [] ∧
          t.fld (Reg.CTX_LAST_RETIRED_TAG (ctxSlot loom stream)) = (hTag f.hdr).toNat ∧ t.cmds = s.cmds ∧
          SameRegsBut [Reg.CTX_LAST_RETIRED (ctxSlot loom stream)] s t ∧ SameMemory s t ∧ SameStreamsBut loom stream s t ∧ t.descs = s.descs)) ∧
  (∀ (loom stream : Nat) (s : State) (b : BundleRec), s.boot.on = true → s.fpWait = none → s.res.cap = none →
      (s.stream loom stream).bundles.find? (fun x => x.signal != 0) = some b → b.issued = true →
      (∀ c ∈ s.cmdsOf loom stream, b.bno < c.bno) → Answers (.bundleSignalSet loom stream) s fun t =>
        (∀ k, ((t.stream loom stream).sem k).toNat = if k < 8 ∧ b.signal.getLsbD k = true then
          min (((s.stream loom stream).sem k).toNat + 1) 0xFFFFFFFF else ((s.stream loom stream).sem k).toNat) ∧
        (∀ k, (t.stream loom stream).ctr k = (s.stream loom stream).ctr k) ∧
        SameRegsBut [Reg.CTX_LAST_RETIRED (ctxSlot loom stream), Reg.CNT_TR_DROPS] s t ∧ SameMemory s t ∧ SameStreamsBut loom stream s t ∧
        t.cmds = s.cmds ∧ t.descs = s.descs)

/-- A vector or mover command that has run retires with what it computed: its bytes land and no other byte changes, the flags of a vector
command join the VECTOR sticky flags of its context, and it leaves the commands in flight (R93, R95, R237). A FENCE with CREC writes the sixteen bytes of its
completion record at CQ_BASE + 16 × (WPTR mod 2^LOG2N), and WPTR advances (R233). That a result lands at COMMAND_RETIRE is the model's choice
(log entry 10). -/
def Obligations.RetirementLandsTheResult : Prop :=
  ∀ (x : Cmd) (s : State), s.boot.on = true → s.cmd? x.id = some x → x.sw = false → s.swMode = false → x.draining = false →
    x.phase = .plain → x.frames = [] → badRead s x = none → x.digest = none → s.res.cap = none → s.res.ckpt = none → s.fpWait = none →
    x.loom < 80 → x.stream < 16 →
    (slotMover x.c = true ∨ slotVector x.c = true → shutWrite s x = false → x.plan.stats = [] → x.plan.mv = none → x.plan.tally = none →
      Answers (.commandRetire x.id) s fun t =>
        (∀ a, t.byte a = (s.store x.plan.writes).byte a) ∧ (∀ a, (∀ w ∈ x.plan.writes, w.addr ≠ a) → t.byte a = s.byte a) ∧
        t.fld (Reg.LOOM_FLAGS_VECTOR x.loom (x.stream % 4)) =
          (s.fld (Reg.LOOM_FLAGS_VECTOR x.loom (x.stream % 4)) ||| if slotVector x.c then x.plan.own.toBits else 0) ∧
        t.fld (Reg.LOOM_FLAGS_ARRAY x.loom (x.stream % 4)) = s.fld (Reg.LOOM_FLAGS_ARRAY x.loom (x.stream % 4)) ∧
        t.cmds = s.cmds.filter (·.id != x.id) ∧ t.descs = s.descs ∧
        SameRegsBut [Reg.LOOM_FLAGS x.loom (x.stream % 4), Reg.CTX_LAST_RETIRED (ctxSlot x.loom x.stream), Reg.CNT_TR_DROPS] s t) ∧
    (∀ base w n, x.c = .fence true → x.plan = {} → x.reads = [] →
      base = (s.reg (Reg.CTX_CQ_BASE (ctxSlot x.loom x.stream))).toNat → w = s.fld (Reg.CTX_CQ_CTL_WPTR (ctxSlot x.loom x.stream)) →
      n = s.fld (Reg.CTX_CQ_CTL_LOG2N (ctxSlot x.loom x.stream)) →
      base + 16 * 2 ^ n ≤ hbmEnd → (∀ y ∈ s.cmds, y.loom = x.loom → y.stream = x.stream → y.sw = false → x.id ≤ y.id) →
      Answers (.commandRetire x.id) s fun t =>
        t.bytes (base + 16 * (w % 2 ^ n)) 16 = leBytes 8 s.pick ++ leBytes 3 x.tag.toNat ++ leBytes 1 x.stream ++
          leBytes 2 (4 * x.loom + x.stream % 4) ++ leBytes 2 ((w / 2 ^ n + 1) % 2) ∧
        SameMemoryBut (base + 16 * (w % 2 ^ n)) 16 s t ∧
        t.fld (Reg.CTX_CQ_CTL_WPTR (ctxSlot x.loom x.stream)) = (w + 1) % 2 ^ 32 ∧ t.cmds = s.cmds.filter (·.id != x.id) ∧ t.descs = s.descs)

/-- A command, no matrix command and no SWATCH, that is past its time budget faults with TIME_BUDGET: it leaves the commands in flight, its
destinations are poisoned, its stream is FAULTED, and no byte outside its own result changes. A resident stream that a WAITSEM has held
for longer than WAIT_LIMIT, the time spent sliced out aside, faults with TIME_BUDGET too, and nothing is taken (R205, R220, R236,
R243). -/
def Obligations.TimeBudgetExpiryFaults : Prop :=
  ∀ (s : State), s.boot.on = true → s.swMode = false → s.res.cap = none → s.res.ckpt = none → s.fpWait = none →
    (∀ x b, InFlight s x → x.budget = some b → x.issuePick + b < s.pick → slotMatrix x.c = false → (∀ sw out, x.c ≠ .swatch sw out) →
      (s.stream x.loom x.stream).state ≠ .faulted → Answers (.timeBudgetExpiry (.cmd x.id)) s fun t => FaultsWith s t x 0x0108) ∧
    (∀ loom stream i sem n e since, loom < 80 → stream < 16 → i.loom = loom → i.stream = stream →
      (s.stream loom stream).queue = [.slot i (.waitsem sem n), e] → (s.stream loom stream).state = .held →
      (s.stream loom stream).hold = some (.waitsem, since) → s.residentOf (ctxSlot loom stream) = some stream →
      since + s.waitLimit loom (stream % 4) + (s.stream loom stream).heldOut < s.pick →
      Answers (.timeBudgetExpiry (.hold loom stream)) s fun t =>
        (t.stream loom stream).state = .faulted ∧ t.fld (Reg.CTX_FAULT_INFO_CODE (ctxSlot loom stream)) = 0x0108 ∧
        (t.stream loom stream).queue = [] ∧ (t.stream loom stream).sems = (s.stream loom stream).sems ∧ SameMemory s t)

/-- DOORBELL acts by the first case of R229 that applies; one that is accepted on an IDLE stream makes it RUNNING (R231). That the ADVISORY
records name the loom is the model's reading (log entry 43). -/
def Obligations.DoorbellSubmitsBundles : Prop :=
  ∀ (loom stream : Nat) (tail : W32) (added : BitVec 16) (s : State), loom < 80 → stream < 16 →
    Reaches s (Reg.CTX_DOORBELL (ctxSlot loom stream) (stream / 4)) →
    (s.jobActive = false ∨ s.releasing = true ∨ (s.stream loom stream).enabled = false ∨ (s.stream loom stream).state = .faulted ∨
        (s.stream loom stream).state = .stopped → Completes (.doorbell loom stream tail added) s (s.advise 0x0103 (loom := some loom))) ∧
    (s.jobActive = true → s.releasing = false → (s.stream loom stream).enabled = true → (s.stream loom stream).state ≠ .faulted →
      (s.stream loom stream).state ≠ .stopped →
      (added = 0 → tail.toNat % (s.stream loom stream).ringWords = (s.stream loom stream).tail →
        Completes (.doorbell loom stream tail added) s s) ∧
      (added = 0 → tail.toNat % (s.stream loom stream).ringWords ≠ (s.stream loom stream).tail →
        Completes (.doorbell loom stream tail added) s (s.advise 0x0103 (loom := some loom))) ∧
      (added ≠ 0 → qdepth s loom stream < (s.stream loom stream).pending + added.toNat →
        Completes (.doorbell loom stream tail added) s (s.advise 0x010A (s.stream loom stream).pending added.toNat (loom := some loom))) ∧
      (added ≠ 0 → (s.stream loom stream).pending + added.toNat ≤ qdepth s loom stream →
        Answers (.doorbell loom stream tail added) s fun t =>
          (t.stream loom stream).tail = tail.toNat % (s.stream loom stream).ringWords ∧
          (t.stream loom stream).pending = (s.stream loom stream).pending + added.toNat ∧
          ((s.stream loom stream).state = .idle → (t.stream loom stream).state = .running) ∧
          ((s.stream loom stream).state ≠ .idle → (t.stream loom stream).state = (s.stream loom stream).state) ∧
          (t.stream loom stream).head = (s.stream loom stream).head ∧ (t.stream loom stream).retired = (s.stream loom stream).retired ∧
          SameRegsBut [] s t ∧ SameMemory s t ∧ SameStreamsBut loom stream s t ∧ t.cmds = s.cmds))

/-- RING_CTL sets a ring up: a write of ENABLE on a disabled stream with a size in range and a base in HBM aligned to it takes base
and size, sets HEAD, TAILR, RETIRED and PENDING to 0, and makes the stream resident where its context has none; a write with a
bad size or base, or one that changes the size of an enabled ring, is discarded with HOST_ACCESS_DENIED. ENABLE clears only on
an IDLE stream with PENDING 0 (R228, R234). SEMADD adds at once, saturating (R235). STOP stops the context's resident stream at
once when it is IDLE or stands at a bundle boundary, and asks for a stop at its next boundary otherwise (R511). RESUME is
accepted in FAULTED and STOPPED, and ignored with STATE_ILLEGAL elsewhere; it takes effect when no command of the stream is in
flight and every retired bundle has added its signal set: HEAD and TAIL go back to RETIRED, PENDING reads 0, the program and its
loops are left, and the stream is IDLE, with its counters, comparators and semaphores kept (R232). At a shed boundary, a context with
no resident stream, or whose resident stream has nothing in flight and no claim, came in an earlier shed and has begun no bundle since the
boundary, takes the stream that waits for it; the stream it leaves keeps its place (R234). The model's choices: that the ADVISORY records
name the loom (log entry 43), which stream is resident after ENABLE and which one waits (log entry 32), that a stream is sliced out within a
bundle too, and what RESUME on a context without a resident stream does (log entry 56). -/
def Obligations.StreamRegistersRunStreams : Prop :=
  (∀ (loom stream : Nat) (s : State), loom < 80 → stream < 16 →
    (∀ log2 en, Reaches s (Reg.CTX_RING_CTL (ctxSlot loom stream) (stream / 4)) →
      (∀ base, base = (s.reg (Reg.CTX_RING_BASE (ctxSlot loom stream) (stream / 4))).toNat / 4096 * 4096 →
        (s.stream loom stream).enabled = false → en = true →
        (12 ≤ log2.toNat → log2.toNat ≤ 30 → base % 2 ^ log2.toNat = 0 → base + 2 ^ log2.toNat ≤ hbmEnd →
          Answers (.ringCtlWrite loom stream log2 en) s fun t =>
            (t.stream loom stream).enabled = true ∧ (t.stream loom stream).base = base ∧ (t.stream loom stream).log2 = log2.toNat ∧
            (t.stream loom stream).head = 0 ∧ (t.stream loom stream).tail = 0 ∧ (t.stream loom stream).retired = 0 ∧
            (t.stream loom stream).pending = 0 ∧ (t.stream loom stream).sems = (s.stream loom stream).sems ∧
            (t.stream loom stream).ctrs = (s.stream loom stream).ctrs ∧
            (s.residentOf (ctxSlot loom stream) = none → t.residentOf (ctxSlot loom stream) = some stream) ∧
            SameRegsBut [Reg.CTX_RING_CTL (ctxSlot loom stream) (stream / 4)] s t ∧ SameMemory s t ∧ SameStreamsBut loom stream s t ∧
            t.cmds = s.cmds) ∧
        (log2.toNat < 12 ∨ 30 < log2.toNat ∨ base % 2 ^ log2.toNat ≠ 0 ∨ hbmEnd < base + 2 ^ log2.toNat →
          Completes (.ringCtlWrite loom stream log2 en) s
            (s.denied (ctlBase + Reg.CTX_RING_CTL (ctxSlot loom stream) (stream / 4))))) ∧
      ((s.stream loom stream).enabled = true → log2.toNat ≠ (s.stream loom stream).log2 →
        Completes (.ringCtlWrite loom stream log2 en) s (s.denied (ctlBase + Reg.CTX_RING_CTL (ctxSlot loom stream) (stream / 4)))) ∧
      ((s.stream loom stream).enabled = true → log2.toNat = (s.stream loom stream).log2 → en = false →
        ((s.stream loom stream).state = .idle → (s.stream loom stream).pending = 0 → Answers (.ringCtlWrite loom stream log2 en) s fun t =>
          (t.stream loom stream).enabled = false ∧ (t.stream loom stream).ctrs = (s.stream loom stream).ctrs ∧
          (t.stream loom stream).sems = (s.stream loom stream).sems ∧ SameMemory s t ∧ SameStreamsBut loom stream s t) ∧
        ((s.stream loom stream).state ≠ .idle ∨ (s.stream loom stream).pending ≠ 0 →
          Completes (.ringCtlWrite loom stream log2 en) s
            (s.denied (ctlBase + Reg.CTX_RING_CTL (ctxSlot loom stream) (stream / 4)))))) ∧
    (∀ sem add, Reaches s (Reg.CTX_SEMADD (ctxSlot loom stream) (stream / 4)) → Answers (.semadd loom stream sem add) s fun t =>
      ((t.stream loom stream).sem sem.toNat).toNat = min (((s.stream loom stream).sem sem.toNat).toNat + add.toNat) 0xFFFFFFFF ∧
      (∀ k, k ≠ sem.toNat → (t.stream loom stream).sem k = (s.stream loom stream).sem k) ∧
      (t.stream loom stream).state = (s.stream loom stream).state ∧ SameRegsBut [] s t ∧ SameMemory s t ∧
      SameStreamsBut loom stream s t ∧ t.cmds = s.cmds)) ∧
  (∀ (loom stream : Nat) (s : State), loom < 80 → stream < 16 →
    (s.residentOf (ctxSlot loom stream) = some stream → Reaches s (Reg.CTX_CCTL (ctxSlot loom stream)) →
      ((s.stream loom stream).state = .idle ∨
          (((s.stream loom stream).state = .running ∨ (s.stream loom stream).state = .held) ∧ (s.stream loom stream).queue = []) →
        Answers (.stop (ctxSlot loom stream)) s fun t => (t.stream loom stream).state = .stopped ∧
          (t.stream loom stream).retired = (s.stream loom stream).retired ∧ t.cmds = s.cmds ∧ SameRegsBut [] s t ∧ SameMemory s t ∧
          SameStreamsBut loom stream s t) ∧
      ((s.stream loom stream).state = .running ∨ (s.stream loom stream).state = .held → (s.stream loom stream).queue ≠ [] →
        Completes (.stop (ctxSlot loom stream)) s (s.setStream loom stream { s.stream loom stream with stopReq := true })) ∧
      ((s.stream loom stream).state = .faulted ∨ (s.stream loom stream).state = .stopped →
        Completes (.resume (ctxSlot loom stream)) s (s.setStream loom stream { s.stream loom stream with resumeReq := true })) ∧
      ((s.stream loom stream).state ≠ .faulted → (s.stream loom stream).state ≠ .stopped →
        Completes (.resume (ctxSlot loom stream)) s (s.advise 0x0103 (loom := some loom)))) ∧
    (s.boot.on = true → (s.stream loom stream).resumeReq = true →
      (s.stream loom stream).state = .faulted ∨ (s.stream loom stream).state = .stopped → s.cmdsOf loom stream = [] →
      ∀ u, u = signalSets s loom stream → Answers (.resumeEffect loom stream) s fun t =>
        (t.stream loom stream).state = .idle ∧ (t.stream loom stream).head = (u.stream loom stream).retired ∧
        (t.stream loom stream).tail = (u.stream loom stream).retired ∧ (t.stream loom stream).pending = 0 ∧
        (t.stream loom stream).prog = none ∧ (t.stream loom stream).loops = [] ∧ (t.stream loom stream).queue = [] ∧
        (t.stream loom stream).ctrs = (s.stream loom stream).ctrs ∧ (t.stream loom stream).cmps = (s.stream loom stream).cmps ∧
        (t.stream loom stream).sems = (u.stream loom stream).sems ∧ t.descs = s.descs ∧ SameMemory s t ∧
        SameRegsBut [Reg.CTX_LAST_RETIRED (ctxSlot loom stream), Reg.CNT_TR_DROPS] s t ∧
        ((s.stream loom stream).bundles = [] → (t.stream loom stream).head = (s.stream loom stream).retired ∧
          (t.stream loom stream).sems = (s.stream loom stream).sems ∧ SameRegsBut [] s t) ∧
        SameStreamsBut loom stream s t ∧ t.cmds = s.cmds) ∧
    (∀ r since, s.boot.on = true → loom < s.nLooms → s.pick % 8192 ≤ 1024 →
      smGet (fun _ => none) s.resident (ctxSlot loom stream) = some (r, since) → since < shedOf s.pick → r < 16 → r % 4 = stream % 4 → r ≠ stream →
      ((s.loom loom).claimOf (stream % 4)).isNone = true → s.cmdsOf loom r = [] →
      (∀ p, (s.stream loom r).begun = some p → shedOf p < shedOf s.pick) → (s.stream loom stream).enabled = true →
      (s.stream loom stream).state = .running → (s.stream loom stream).hold = none →
      (∀ k, k < 16 → k % 4 = stream % 4 → k ≠ stream → k ≠ r → (s.stream loom k).enabled = false) →
      Answers (.streamSlice loom (stream % 4)) s fun t =>
        t.residentOf (ctxSlot loom stream) = some stream ∧ (t.stream loom r).queue = (s.stream loom r).queue ∧
        (t.stream loom r).state = (s.stream loom r).state ∧ SameStreamsBut loom r s t ∧ SameRegsBut [] s t ∧ SameMemory s t ∧
        t.cmds = s.cmds ∧ t.descs = s.descs) ∧
    (s.boot.on = true → loom < s.nLooms → s.pick % 8192 ≤ 1024 → s.residentOf (ctxSlot loom stream) = none →
      (s.stream loom stream).enabled = true → (s.stream loom stream).state = .running → (s.stream loom stream).hold = none →
      (∀ k, k < 16 → k % 4 = stream % 4 → k ≠ stream → (s.stream loom k).enabled = false) →
      Answers (.streamSlice loom (stream % 4)) s fun t =>
        t.residentOf (ctxSlot loom stream) = some stream ∧ (∀ slot, slot ≠ ctxSlot loom stream → t.residentOf slot = s.residentOf slot) ∧
        SameRegsBut [] s t ∧ SameWork s t))

/-- An instruction-memory load (R224, R226): GO with a good source and pages makes the load PENDING; with a source that is not
aligned or not in HBM, or pages beyond 63, it is REFUSED. The load begins once no stream of the loom is inside a program; a forced
one, which Grembedun alone may ask for, faults each stream that is inside a program and stands at a bundle boundary. When it
completes, the words of its pages are those of the source that GO took, each page's generation has advanced from 1 to 255 and to 1 again, and
every other word stands. That GO clears FORCED and takes the source as it then is, is the model's choice (log entry 56), and a byte that a
failing word of the source gives is an open value (log entry 55). -/
def Obligations.InstructionMemoryLoads : Prop :=
  ∀ (loom : Nat) (s : State), loom < 80 → Reaches s (Reg.LOOM_IMLD_CTL loom) →
    (s.loadOpen loom = false → loadBad s loom = true → Answers (.imemLoadGo loom) s fun t =>
      t.flag (Reg.LOOM_IMLD_STAT_REFUSED loom) = true ∧ t.flag (Reg.LOOM_IMLD_STAT_PENDING loom) = false ∧
      SameRegsBut [Reg.LOOM_IMLD_CTL loom, Reg.LOOM_IMLD_STAT loom] s t ∧ SameWork s t) ∧
    (s.loadOpen loom = false → loadBad s loom = false → s.fld (Reg.LOOM_IMLD_CTL_COUNT loom) ≠ 0 →
      (Answers (.imemLoadGo loom) s fun t =>
        t.flag (Reg.LOOM_IMLD_STAT_PENDING loom) = true ∧ t.flag (Reg.LOOM_IMLD_STAT_FORCED loom) = false ∧
        (t.loom loom).imPages = loadPages s loom ∧ (t.loom loom).imSrc = (s.reg (Reg.LOOM_IMLD_SRC loom)).toNat ∧ t.imem = s.imem ∧ t.streams = s.streams ∧ t.cmds = s.cmds ∧ t.descs = s.descs ∧
        SameRegsBut [Reg.LOOM_IMLD_CTL loom, Reg.LOOM_IMLD_STAT loom] s t ∧ SameMemory s t) ∧
      (∀ k, k < 16 → (s.stream loom k).inside = true → (s.stream loom k).queue = [] → (s.stream loom k).reload = false →
        s.swMode = false → (∀ j, j < 16 → j ≠ k → (s.stream loom j).inside = false) → Answers (.imemForcedLoad loom) s fun t =>
          (t.stream loom k).state = .faulted ∧ t.fld (Reg.CTX_FAULT_INFO_CODE (ctxSlot loom k)) = 0x0107 ∧
          t.flag (Reg.LOOM_IMLD_STAT_FORCED loom) = true ∧ t.flag (Reg.LOOM_IMLD_STAT_PENDING loom) = true ∧ t.imem = s.imem ∧
          SameMemory s t)) ∧
    (s.flag (Reg.LOOM_IMLD_STAT_PENDING loom) = true → (∀ k, k < 16 → (s.stream loom k).inside = false) →
      Answers (.imemLoadStart loom) s
        (OnlyFields [(Reg.LOOM_IMLD_STAT_PENDING loom, 0), (Reg.LOOM_IMLD_STAT_BUSY loom, 1)] s)) ∧
    (∀ page n, s.flag (Reg.LOOM_IMLD_STAT_BUSY loom) = true → (s.loom loom).imPages = (List.range n).map (· + page) → page + n ≤ 64 →
      Answers (.imemLoadComplete loom) s fun t =>
        (∀ j i, j < n → i < 512 → t.imWord loom (512 * (page + j) + i) =
          BitVec.ofNat 64 (leValue (s.readOut ((s.loom loom).imSrc + 4096 * j + 8 * i) 8))) ∧
        (∀ w, w < 512 * page ∨ 512 * (page + n) ≤ w → w < 32768 → t.imWord loom w = s.imWord loom w) ∧
        (∀ j, j < n → t.pgen loom (page + j) = if s.pgen loom (page + j) = 255 then 1 else s.pgen loom (page + j) + 1) ∧
        t.flag (Reg.LOOM_IMLD_STAT_BUSY loom) = false ∧ t.flag (Reg.LOOM_IMLD_STAT_DONE loom) = true ∧
        t.streams = s.streams ∧ t.cmds = s.cmds ∧ t.descs = s.descs ∧ SameMemory s t)

/-! ### Descriptors, tables and memory tiers -/

/-- DESC_COMMIT takes a staged descriptor that R219 allows and waits, with DONE clear; one with NDIM 0 or 7 or a reserved bit set is
refused and changes nothing. The install, once no command that resolved the old descriptor remains, puts the staged words at
INDEX with VALID set, POISON clear and GEN advanced modulo 16, and DONE sets. READ copies the descriptor into DSTAGE;
CLEAR_POISON clears POISON and nothing else (R219). HT_COMMIT refuses a staged entry that breaks a rule of R255, shows the
lowest-numbered rule it breaks and leaves the table alone; otherwise it waits with DONE clear, and completes once no command
that resolved the old entry remains: the entry's words are then the staged ones with VALID set, or, for INVALIDATE, the old ones
with VALID clear (R255, R256). -/
def Obligations.DescriptorAndHandleTables : Prop :=
  (∀ (slot : Nat) (index : BitVec 12) (s : State), slot < 320 →
    (Reaches s (Reg.CTX_DESC_COMMIT slot) → s.flag (Reg.CTX_DESC_STAT_DONE slot) = true →
      (descBad (stagedDesc s slot) = true → Answers (.descCommit slot index) s fun t =>
        t.flag (Reg.CTX_DESC_STAT_REFUSED slot) = true ∧ t.flag (Reg.CTX_DESC_STAT_DONE slot) = true ∧ t.descWait = s.descWait ∧
        SameRegsBut [Reg.CTX_DESC_STAT slot] s t ∧ SameWork s t) ∧
      (descBad (stagedDesc s slot) = false → Answers (.descCommit slot index) s fun t =>
        t.descWait = s.descWait ++ [(slot, index.toNat, (List.range 16).map fun w => s.reg (Reg.CTX_DSTAGE slot w))] ∧
        t.flag (Reg.CTX_DESC_STAT_DONE slot) = false ∧ t.flag (Reg.CTX_DESC_STAT_REFUSED slot) = false ∧
        t.fld (Reg.CTX_DESC_STAT_INDEX slot) = index.toNat ∧ SameRegsBut [Reg.CTX_DESC_STAT slot] s t ∧ SameWork s t) ∧
      (Answers (.descRead slot index) s fun t =>
        (∀ w, w < 16 → t.reg (Reg.CTX_DSTAGE slot w) = (s.desc index.toNat).getD w 0) ∧ t.flag (Reg.CTX_DESC_STAT_DONE slot) = true ∧
        t.fld (Reg.CTX_DESC_STAT_GEN slot) = dGen (s.desc index.toNat) ∧
        SameRegsBut (Reg.CTX_DESC_STAT slot :: (List.range 16).map (Reg.CTX_DSTAGE slot)) s t ∧ SameWork s t) ∧
      (Answers (.clearPoison slot index) s fun t =>
        t.desc index.toNat = dSet0 (s.desc index.toNat) 26 26 0 ∧ (∀ i, i ≠ index.toNat → t.desc i = s.desc i) ∧
        t.flag (Reg.CTX_DESC_STAT_DONE slot) = true ∧ SameRegsBut [Reg.CTX_DESC_STAT slot] s t ∧ SameMemory s t ∧ t.imem = s.imem ∧
        t.streams = s.streams ∧ t.cmds = s.cmds ∧ t.looms = s.looms)) ∧
    (∀ (word : Nat → W64) d, s.boot.on = true → d = (List.range 16).map word →
      s.descWait.find? (fun w => w.1 == slot) = some (slot, index.toNat, d) →
      s.descWait.find? (fun w => w.2.1 == index.toNat) = some (slot, index.toNat, d) →
      (∀ c ∈ s.cmds, c.sw = false → ∀ h ∈ c.names, handleIndex h ≠ index.toNat) → Answers (.descInstall slot) s fun t =>
        dValid (t.desc index.toNat) = true ∧ dPoison (t.desc index.toNat) = false ∧
        dGen (t.desc index.toNat) = (dGen (s.desc index.toNat) + 1) % 16 ∧
        (∀ w, 1 ≤ w → (t.desc index.toNat).getD w 0 = d.getD w 0) ∧ dFormat (t.desc index.toNat) = dFormat d ∧
        dEntry (t.desc index.toNat) = dEntry d ∧ (∀ i, i ≠ index.toNat → t.desc i = s.desc i) ∧
        t.flag (Reg.CTX_DESC_STAT_DONE slot) = true ∧ t.descWait = s.descWait.filter (·.1 != slot) ∧
        SameRegsBut [Reg.CTX_DESC_STAT slot] s t ∧ SameMemory s t ∧ t.imem = s.imem ∧ t.streams = s.streams ∧ t.cmds = s.cmds ∧
        t.looms = s.looms)) ∧
  (∀ (die : Nat) (index : BitVec 10) (s : State), die < 4 →
    (Reaches s (Reg.HTAB_HT_COMMIT die) → s.flag (Reg.HTAB_HT_STAT_DONE die) = true →
      (∀ w0 w1, w0 = BitVec.ofNat 64 (setBits (setBits (s.reg (Reg.HTAB_HT_STAGE0 die)).toNat 63 63 0) 57 56 0) →
        w1 = s.reg (Reg.HTAB_HT_STAGE1 die) →
        (∀ r, htReason s die w0 w1 = some r → Answers (.htCommit die index) s fun t =>
          t.flag (Reg.HTAB_HT_STAT_REFUSED die) = true ∧ t.fld (Reg.HTAB_HT_STAT_REASON die) = r ∧
          t.flag (Reg.HTAB_HT_STAT_DONE die) = true ∧ SameRegsBut [Reg.HTAB_HT_STAT die, Reg.FAULT_FR_STAT] s t ∧ SameWork s t ∧
          t.htWait = s.htWait) ∧
        (htReason s die w0 w1 = none → Answers (.htCommit die index) s fun t =>
          smGet (fun _ => none) t.htWait die = some (index.toNat, w0 ||| BitVec.ofNat 64 (2 ^ 63), w1) ∧
          t.flag (Reg.HTAB_HT_STAT_DONE die) = false ∧ SameRegsBut [Reg.HTAB_HT_STAT die] s t ∧ SameWork s t)) ∧
      (Answers (.htInvalidate die index) s fun t =>
        smGet (fun _ => none) t.htWait die =
          some (index.toNat, BitVec.ofNat 64 (setBits (s.reg (Reg.HTAB_ENTRY_W0 die index.toNat)).toNat 63 63 0),
            s.reg (Reg.HTAB_ENTRY_W1 die index.toNat)) ∧
        t.flag (Reg.HTAB_HT_STAT_DONE die) = false ∧ SameRegsBut [Reg.HTAB_HT_STAT die] s t ∧ SameWork s t)) ∧
    (∀ w0 w1, s.boot.on = true → smGet (fun _ => none) s.htWait die = some (index.toNat, w0, w1) → entryInUse s die index.toNat = false →
      Answers (.htInstallDone die) s fun t =>
        t.htEntry die index.toNat = (w0, w1) ∧ t.flag (Reg.HTAB_HT_STAT_DONE die) = true ∧ smGet (fun _ => none) t.htWait die = none ∧
        SameRegsBut [Reg.HTAB_HT_STAT die, Reg.HTAB_ENTRY_W0 die index.toNat, Reg.HTAB_ENTRY_W1 die index.toNat] s t ∧ SameWork s t))

/-- A BEAM_MODE write that asks for a switch R271 refuses sets REFUSED, raises CACHE_MODE_BUSY and changes nothing else; an accepted
one sets BUSY, and a die that goes to cache mode loses its contents. When the switch completes, MODE takes what was asked for,
BUSY clears, and a die that returns to scratchpad reads 0 (R271). A bank that a command to RETAIN or DARK reaches closes at
once; an access of a command that reaches it later faults that command with BANK_DARK; and the bank's state changes when it has
drained: RETAIN keeps its contents, DARK loses them (R266, R268). That contents which are lost read 0 from then on is the model's choice
(log entries 4 and 33). -/
def Obligations.BeamModesAndBankStates : Prop :=
  (∀ (die : Nat) (cache : BitVec 6) (s : State), die < 4 →
    (Reaches s (Reg.HTAB_BEAM_MODE die) →
      (∀ b, switchRefused s die cache.toNat = some b → Answers (.beamModeSwitch die cache) s fun t =>
        t.flag (Reg.HTAB_BEAM_STAT_REFUSED die) = true ∧ t.fld (Reg.HTAB_BEAM_MODE_CACHE die) = s.fld (Reg.HTAB_BEAM_MODE_CACHE die) ∧
        SameRegsBut [Reg.HTAB_BEAM_STAT die, Reg.FAULT_FR_STAT] s t ∧ SameWork s t ∧
        (s.ringOn = true → (s.queue die).length < 512 →
          ∃ r, t.queue die = s.queue die ++ [r] ∧ r.code = 0x0303 ∧ r.sev = .advisory ∧ r.dw0 = 6 * die + b)) ∧
      (switchRefused s die cache.toNat = none → switchBits s die cache.toNat ≠ [] → Answers (.beamModeSwitch die cache) s fun t =>
        t.fld (Reg.HTAB_BEAM_MODE_CACHE die) = cache.toNat ∧ t.flag (Reg.HTAB_BEAM_STAT_BUSY die) = true ∧
        t.fld (Reg.HTAB_BEAM_STAT_MODE die) = s.fld (Reg.HTAB_BEAM_STAT_MODE die) ∧
        (∀ b a, b ∈ switchBits s die cache.toNat → bitAt cache.toNat b = true → beamBase + 0x8000000 * (6 * die + b) ≤ a →
          a < beamBase + 0x8000000 * (6 * die + b + 1) → t.byte a = 0) ∧
        (∀ a, a < beamBase + 0x8000000 * (6 * die) ∨ beamBase + 0x8000000 * (6 * die + 6) ≤ a → t.byte a = s.byte a) ∧
        SameRegsBut [Reg.HTAB_BEAM_MODE die, Reg.HTAB_BEAM_STAT die] s t ∧ t.streams = s.streams ∧ t.cmds = s.cmds ∧ t.descs = s.descs)) ∧
    (s.boot.on = true → s.flag (Reg.HTAB_BEAM_STAT_BUSY die) = true → Answers (.beamSwitchComplete die) s fun t =>
      t.fld (Reg.HTAB_BEAM_STAT_MODE die) = s.fld (Reg.HTAB_BEAM_MODE_CACHE die) ∧ t.flag (Reg.HTAB_BEAM_STAT_BUSY die) = false ∧
      (∀ b a, b ∈ switching s die → beamBase + 0x8000000 * (6 * die + b) ≤ a → a < beamBase + 0x8000000 * (6 * die + b + 1) →
        t.byte a = 0) ∧
      (∀ a, a < beamBase + 0x8000000 * (6 * die) ∨ beamBase + 0x8000000 * (6 * die + 6) ≤ a → t.byte a = s.byte a) ∧
      SameRegsBut [Reg.HTAB_BEAM_STAT die] s t ∧ t.streams = s.streams ∧ t.cmds = s.cmds ∧ t.descs = s.descs)) ∧
  (∀ (bank : Nat) (s : State), s.boot.on = true → bank < 384 →
    (∀ r, s.pwr.run = some r → r.kind = 2 → (r.state = 1 ∨ r.state = 2) → bank ∈ r.todo →
      (bank ∉ s.pwr.closed → Completes (.bankClose bank) s { s with pwr := { s.pwr with
        closed := s.pwr.closed ++ [bank], closedAt := smSet (fun _ => 0) s.pwr.closedAt bank s.nextId } }) ∧
      (bank ∈ s.pwr.closed → Answers (.bankStateChange bank) s fun t =>
        t.bank bank = r.state ∧ (∀ b, b < 384 → b ≠ bank → t.bank b = s.bank b) ∧
        (∀ a, ¬ (beamBase + 0x800000 * bank ≤ a ∧ a < beamBase + 0x800000 * (bank + 1)) → t.byte a = s.byte a) ∧
        (r.state = 1 → SameMemory s t) ∧
        (r.state = 2 → ∀ a, beamBase + 0x800000 * bank ≤ a → a < beamBase + 0x800000 * (bank + 1) → t.byte a = 0) ∧
        (r.todo = [bank] → t.flag Reg.PWR_PWR_STAT_DONE = true ∧ t.pwr.run = none) ∧
        t.streams = s.streams ∧ t.cmds = s.cmds ∧ t.descs = s.descs)) ∧
    (∀ x a, s.swMode = false → s.res.cap = none → s.res.ckpt = none → s.fpWait = none → s.cmd? x.id = some x → x.sw = false →
      x.draining = false → slotMatrix x.c = false → x.digest = none → x.loom < 80 → x.stream < 16 → tierOf a = .beam → bankOf a = bank →
      bank ∈ s.pwr.closed → (∃ r ∈ x.reads ++ x.writes, r.1 ≤ a ∧ a ≤ r.2) → (s.stream x.loom x.stream).state ≠ .faulted →
      Answers (.lateBankAccess x.id a) s fun t =>
        (t.stream x.loom x.stream).state = .faulted ∧ (t.stream x.loom x.stream).fault = some (0x0302, a, bank, 0) ∧
        t.cmd? x.id = none ∧ (∀ h ∈ x.dsts, t.desc (handleIndex h) = dSet0 (s.desc (handleIndex h)) 26 26 1) ∧
        ∀ b, (∀ w ∈ x.plan.writes, w.addr ≠ b) → t.byte b = s.byte b))

/-- Memory errors (R225, R259 to R262, R265): an error that a command's read of HBM meets is counted in its stack's counter and in its
channel's, and one met in a line of a beam die in cache mode in that die's BEAM counter; an uncorrectable one also faults the command with
MEM_UNCORRECTABLE and its address. An error that no command meets counts alike; an uncorrectable one leaves the access failing (the model's
reading, log entry 55). A scrub that meets a correctable error counts it and changes no word; an uncorrectable one leaves the word failing
and raises an ADVISORY record with its address, in the queue of its die; in a line of a cache it counts in the BEAM counter. No byte of memory changes but those
of a faulting command's own result. -/
def Obligations.MemoryErrorsCountAndFault : Prop :=
  ∀ (s : State) (a d k : Nat), s.boot.on = true → s.swMode = false → s.res.cap = none → s.fpWait = none →
    d = stackOf a / 3 → k = stackOf a % 3 →
    (∀ x, s.cmd? x.id = some x → x.sw = false → x.draining = false → inRuns x.reads a = true → tierOf a = .hbm →
      (Answers (.memoryReadError (.cmd x.id) a ⟨false, true⟩) s fun t =>
        t.fld (Reg.HTAB_HBM_CE_COUNT d k) = min (s.fld (Reg.HTAB_HBM_CE_COUNT d k) + 1) (2 ^ 32 - 1) ∧
        (t.chanErr (stackOf a) (stackOff a / 4096 % 32)).1 = (s.chanErr (stackOf a) (stackOff a / 4096 % 32)).1 + 1 ∧
        SameRegsBut [Reg.HTAB_HBM_CE d k] s t ∧ SameWork s t) ∧
      (lineOf s a = true → Answers (.memoryReadError (.cmd x.id) a ⟨true, true⟩) s fun t =>
        t.fld (Reg.HTAB_SRAM_CE_BEAM d) = min (s.fld (Reg.HTAB_SRAM_CE_BEAM d) + 1) (2 ^ 32 - 1) ∧ t.chanErrs = s.chanErrs ∧
        SameRegsBut [Reg.HTAB_SRAM_CE d] s t ∧ SameWork s t) ∧
      (∀ line, slotMatrix x.c = false → x.digest = none → s.res.ckpt = none → x.loom < 80 → x.stream < 16 →
        (s.stream x.loom x.stream).state ≠ .faulted → Answers (.memoryReadError (.cmd x.id) a ⟨line, false⟩) s fun t =>
          (t.stream x.loom x.stream).state = .faulted ∧ t.fld (Reg.CTX_FAULT_INFO_CODE (ctxSlot x.loom x.stream)) = 0x0301 ∧
          (line = true → lineOf s a = true → t.fld (Reg.HTAB_SRAM_UE_BEAM d) = min (s.fld (Reg.HTAB_SRAM_UE_BEAM d) + 1) (2 ^ 32 - 1) ∧
            (t.stream x.loom x.stream).fault = some (0x0301, a, 2, 0)) ∧
          (line = false → t.fld (Reg.HTAB_HBM_UE_COUNT d k) = min (s.fld (Reg.HTAB_HBM_UE_COUNT d k) + 1) (2 ^ 32 - 1) ∧
            (t.stream x.loom x.stream).fault = some (0x0301, a, 3, 0)) ∧
          t.cmd? x.id = none ∧ ∀ b, (∀ w ∈ x.plan.writes, w.addr ≠ b) → t.byte b = s.byte b)) ∧
    (tierOf a = .hbm → servedAddr s a = true →
      (Answers (.memoryReadError .other a ⟨false, true⟩) s fun t =>
        t.fld (Reg.HTAB_HBM_CE_COUNT d k) = min (s.fld (Reg.HTAB_HBM_CE_COUNT d k) + 1) (2 ^ 32 - 1) ∧ t.badWords = s.badWords ∧
        SameRegsBut [Reg.HTAB_HBM_CE d k] s t ∧ SameWork s t) ∧
      (Answers (.memoryReadError .other a ⟨false, false⟩) s fun t =>
        t.fld (Reg.HTAB_HBM_UE_COUNT d k) = min (s.fld (Reg.HTAB_HBM_UE_COUNT d k) + 1) (2 ^ 32 - 1) ∧
        (∀ w, smGet (fun _ => false) t.badWords w =
          (decide (a / 64 * 64 ≤ w ∧ w < a / 64 * 64 + 64 ∧ w % 8 = 0) || smGet (fun _ => false) s.badWords w)) ∧
        SameRegsBut [Reg.HTAB_HBM_UE d k] s t ∧ SameWork s t)) ∧
    (∀ d, tierOf a = .beam → bankOf a / 96 = d → d < 4 → servedAddr s a = true → s.flag (Reg.HTAB_SCRUB_ENABLE d) = true →
      (Answers (.scrubPass a ⟨false, true⟩) s fun t =>
        t.fld (Reg.HTAB_SRAM_CE_BEAM d) = min (s.fld (Reg.HTAB_SRAM_CE_BEAM d) + 1) (2 ^ 32 - 1) ∧ t.badWords = s.badWords ∧
        SameRegsBut [Reg.HTAB_SRAM_CE d] s t ∧ SameWork s t) ∧
      (s.ringOn = true → (s.queue d).length < 512 → Answers (.scrubPass a ⟨false, false⟩) s fun t =>
        smGet (fun _ => false) t.badWords (a / 8 * 8) = true ∧
        (∀ w, w ≠ a / 8 * 8 → smGet (fun _ => false) t.badWords w = smGet (fun _ => false) s.badWords w) ∧
        (∃ r, t.queue d = s.queue d ++ [r] ∧ r.code = 0x0301 ∧ r.sev = .advisory ∧ r.dw0 = a ∧ r.dw1 = 2) ∧
        SameRegsBut [Reg.HTAB_SRAM_UE d] s t ∧ SameWork s t)) ∧
    (lineOf s a = true → s.flag (Reg.HTAB_SCRUB_ENABLE d) = true → Answers (.scrubPass a ⟨true, true⟩) s fun t =>
      t.fld (Reg.HTAB_SRAM_CE_BEAM d) = min (s.fld (Reg.HTAB_SRAM_CE_BEAM d) + 1) (2 ^ 32 - 1) ∧ t.badWords = s.badWords ∧
      t.chanErrs = s.chanErrs ∧ SameRegsBut [Reg.HTAB_SRAM_CE d] s t ∧ SameWork s t)

/-- In an open retraining window with 256 picks or more left the controller retrains the stack with TRAIN_DUE set that has moved most, one
stack a window: TEMP_NOW and TEMP_TRAIN take the new temperature, TRAIN_DUE clears and the count of trainings advances (R263). Each row with
8 errors or more is repaired in a window, and counts (R264). A channel that is due, with 4 uncorrectable errors or more corrected ones than
the configured threshold, begins to be copied; the copy completes in a retraining window, and the channel is spared then; a second channel
of the stack that is due, while the first is copied or after, raises SPARE_EXHAUSTED once, with stack and channel (R265); one that is not
due stays. That a row repair and a copy are done in one retraining window is the model's choice (log entries 33 and 55), where R265 gives the
copy as many windows as it needs. -/
def Obligations.HbmRetrainingAndSparing : Prop :=
  ∀ (s : State), s.boot.on = true →
    (∀ die window temp, die < 4 → 256 ≤ windowLeft s 2 → 256 ≤ window → temp < 256 → dueRows s die = [] →
      (∀ k, smGet (fun _ => 0) s.trainedTo die ≤ s.pick → retrainChoice s die = some k → Answers (.hbmRetrain die window temp) s fun t =>
        t.fld (Reg.HTAB_HBM_STAT_TEMP_NOW die k) = temp ∧ t.fld (Reg.HTAB_HBM_STAT_TEMP_TRAIN die k) = temp ∧
        t.flag (Reg.HTAB_HBM_STAT_TRAIN_DUE die k) = false ∧
        t.fld (Reg.HTAB_HBM_TRAINS_COUNT die k) = min (s.fld (Reg.HTAB_HBM_TRAINS_COUNT die k) + 1) (2 ^ 32 - 1) ∧
        s.flag (Reg.HTAB_HBM_STAT_TRAIN_DUE die k) = true ∧
        (∀ j, j < 3 → s.flag (Reg.HTAB_HBM_STAT_TRAIN_DUE die j) = true → tempMoved s die j ≤ tempMoved s die k) ∧
        smGet (fun _ => 0) t.trainedTo die = s.pick + windowLeft s 2 ∧
        SameRegsBut [Reg.HTAB_HBM_STAT die k, Reg.HTAB_HBM_TRAINS die k] s t ∧ SameWork s t) ∧
      (s.pick < smGet (fun _ => 0) s.trainedTo die → Completes (.hbmRetrain die window temp) s s)) ∧
    (∀ die window temp a d k, die < 4 → windowLeft s 2 ≠ 0 → window < 256 → dueRows s die = [a] → d = stackOf a / 3 → k = stackOf a % 3 →
      Answers (.hbmRetrain die window temp) s fun t => dueRows t die = [] ∧
        OnlyFields [(Reg.HTAB_HBM_STAT_ROW_REPAIRS d k, min (s.fld (Reg.HTAB_HBM_STAT_ROW_REPAIRS d k) + 1) (2 ^ 16 - 1))] s t) ∧
    (∀ stack channel, stack < 12 → channel < 32 → ∀ d k, d = stack / 3 → k = stack % 3 →
      (4 ≤ (s.chanErr stack channel).2.1 ∨ s.boot.spareThreshold < (s.chanErr stack channel).1 →
        (s.copying stack = none → s.flag (Reg.HTAB_HBM_STAT_SPARE_USED d k) = false → Answers (.channelSpare stack channel) s fun t =>
          t.copying stack = some channel ∧ NoFields s t) ∧
        (s.copying stack = some channel → windowLeft s 2 = 0 → Completes (.channelSpare stack channel) s s) ∧
        (s.copying stack = some channel → windowLeft s 2 ≠ 0 → Answers (.channelSpare stack channel) s fun t =>
          t.copying stack = none ∧
          OnlyFields [(Reg.HTAB_HBM_STAT_SPARED_CH d k, channel), (Reg.HTAB_HBM_STAT_SPARE_USED d k, 1)] s t) ∧
        ((∃ c, s.copying stack = some c ∧ c ≠ channel) ∨ (s.copying stack = none ∧ s.flag (Reg.HTAB_HBM_STAT_SPARE_USED d k) = true ∧
            s.fld (Reg.HTAB_HBM_STAT_SPARED_CH d k) ≠ channel) →
          (s.chanErr stack channel).2.2 = false → s.ringOn = true → Answers (.channelSpare stack channel) s fun t =>
            (∃ r, t.queue d = s.queue d ++ [r] ∧ r.code = 0x0605 ∧ r.dw1 = stack ∧ r.dw2 = channel) ∧
            (t.chanErr stack channel).2.2 = true ∧ NoFields s t)) ∧
      ((s.chanErr stack channel).2.1 < 4 → (s.chanErr stack channel).1 ≤ s.boot.spareThreshold →
        Completes (.channelSpare stack channel) s s))

/-! ### Vector and mover commands -/

/-- Every vector command whose checks pass issues: it joins the commands in flight with what it computes from the operands of that
moment, its reads and writes, and its budget from its completion bound; nothing lands before it retires (R185, R187, R204, R237,
R242). One with an extent of 0 completes at once (R241). That the result is that of the operands at issue and lands at the retire is the
model's choice (log entry 10). -/
def Obligations.VectorCommandsIssue : Prop :=
  ∀ (src : Src) (f : Vec) (s : State) (o : VOps) (row : Instr) (op : VOp),
    (row, op) ∈ [(Instr.vbin src f, VOp.vbin), (.vun src f, .vun), (.vred src f, .vred), (.smstep src f, .smstep),
      (.smnorm src f, .smnorm), (.smrecomp src f, .smrecomp), (.vint src f, .vint), (.dropout src f, .dropout),
      (.causal src f, .causal), (.convert src f, .convert)] →
    Takes src (.vec op f) s → HandlesFree src (.vec op f) s → checkVec s (directCtx src (.vec op f) s) op f = .ok o →
    (o.d.isEmpty = false → o.a.isEmpty = false → o.b.toList.any Operand.isEmpty = false → Answers row s fun t =>
      Issued src (.vec op f) s t (fun x => x.plan = vectorPlan s (directCtx src (.vec op f) s) op f o ∧
        x.dsts = (vectorNames s op f).dsts ∧ x.frames = vectorFrames s op o ∧
        x.budget = some (s.budget src.loom (src.stream % 4) (vectorCycles op f.fn.toNat (f.x.toNat % 8) o))) ∧
      (t.stream src.loom src.stream).queue = [] ∧ t.looms = s.looms ∧ IssueFrame src s t) ∧
    (o.d.isEmpty = true ∨ o.a.isEmpty = true ∨ o.b.toList.any Operand.isEmpty = true → Answers row s fun t =>
      (∀ x ∈ t.cmds, x ∈ s.cmds) ∧ (t.stream src.loom src.stream).queue = [])

/-- VINT's functions on two INT32 operands: wrapping sums, differences and products, bitwise functions, shifts by B mod 32, and
signed minimum and maximum; with saturation a result outside the symmetric range is its nearest bound, and OVF marks exactly the
results that wrap or clamp (R73, R188). -/
def Obligations.VintComputesOnWords : Prop :=
  ∀ (a b : W32) (fn : Nat), fn < 10 →
    (∀ w, w = (match fn with
        | 0 => a + b
        | 1 => a - b
        | 2 => a * b
        | 3 => a &&& b
        | 4 => a ||| b
        | 5 => a ^^^ b
        | 6 => a <<< (b.toNat % 32)
        | 7 => a.sshiftRight (b.toNat % 32)
        | 8 => if a.slt b then a else b
        | _ => if a.slt b then b else a) →
      BitVec.ofNat 32 (ofSigned 32 (satWrap 32 false (vintVal fn a.toNat b.toNat)).1) = w ∧
      ((satWrap 32 false (vintVal fn a.toNat b.toNat)).2 = true ↔ vintVal fn a.toNat b.toNat ≠ w.toInt)) ∧
    (satWrap 32 true (vintVal fn a.toNat b.toNat)).1 = max (-(2 ^ 31 - 1)) (min (2 ^ 31 - 1) (vintVal fn a.toNat b.toNat)) ∧
    ((satWrap 32 true (vintVal fn a.toNat b.toNat)).2 = true ↔
      vintVal fn a.toNat b.toNat < -(2 ^ 31 - 1) ∨ 2 ^ 31 - 1 < vintVal fn a.toNat b.toNat) ∧
    vintVal fn a.toNat b.toNat = (match fn with
      | 0 => a.toInt + b.toInt
      | 1 => a.toInt - b.toInt
      | 2 => a.toInt * b.toInt
      | 3 => (a &&& b).toInt
      | 4 => (a ||| b).toInt
      | 5 => (a ^^^ b).toInt
      | 6 => a.toInt * 2 ^ (b.toNat % 32)
      | 7 => a.toInt / 2 ^ (b.toNat % 32)
      | 8 => min a.toInt b.toInt
      | _ => max a.toInt b.toInt)

/-- FILL, COPY, MOVE and XPOSE whose checks pass issue: FILL carries its value to every element, MOVE and XPOSE move codes and
mordant entries bit for bit, or reblock; each element of a MOVE whose source lies outside the bytes of DST is that source's code. One whose
DST has no element completes at once. A mover command that meets a failing frame faults its stream with that frame's fault and
poisons its destinations (R218, R241, R273 to R281). That a source is read at issue is the model's choice (log entry 10), and so are the
elements that are left open because they may be read after they were overwritten, and the frame at which a command of several failing ones ends
(log entry 34). -/
def Obligations.MoverCommandsIssue : Prop :=
  ∀ (src : Src) (s : State),
    (∀ dst val d, Takes src (.fill dst val) s → HandlesFree src (.fill dst val) s → checkFill s dst = .ok d →
      (d.isEmpty = false → Answers (.fill src dst val) s fun t =>
        Issued src (.fill dst val) s t (fun x =>
          x.plan.writes = (List.range d.total).flatMap (fun e => d.put (d.elemOff (coordsOf d.exts e)) (fillCode d.fmt val)) ∧
          x.writes = d.runs ∧ x.reads = [] ∧ (∀ h ∈ named s dst, h ∈ x.dsts)) ∧ t.looms = s.looms ∧ IssueFrame src s t) ∧
      (d.isEmpty = true → Answers (.fill src dst val) s fun t => ∀ x ∈ t.cmds, x ∈ s.cmds)) ∧
    (∀ dst from_ d a, Takes src (.copy dst from_) s → HandlesFree src (.copy dst from_) s → checkCopy s dst from_ = .ok (d, a) →
      (d.isEmpty = false → Answers (.copy src dst from_) s fun t =>
        Issued src (.copy dst from_) s t (fun x =>
          x.plan.writes = (List.range d.total).flatMap (fun e => d.put (d.elemOff (coordsOf d.exts e))
            (readElem (copyScratch s a d) d e)) ∧
          x.writes = d.runs ∧ x.reads = a.runs) ∧ t.looms = s.looms ∧ IssueFrame src s t) ∧
      (d.isEmpty = true → Answers (.copy src dst from_) s fun t => ∀ x ∈ t.cmds, x ∈ s.cmds)) ∧
    (∀ dst from_ d a, Takes src (.move dst from_) s → HandlesFree src (.move dst from_) s → checkMove s dst from_ id false = .ok (d, a) →
      (d.isEmpty = false → Answers (.move src dst from_) s fun t =>
        Issued src (.move dst from_) s t (fun x => x.plan = movePlan s d a id ∧ x.writes = d.runs ∧ x.reads = a.runs ∧
          ∀ e, e < d.total → inRuns d.runs (a.nibble (a.elemOff (permute id (coordsOf d.exts e))) / 2) = false →
            (0, e, a.read s (permute id (coordsOf d.exts e))) ∈ x.plan.words) ∧
        t.looms = s.looms ∧ IssueFrame src s t) ∧
      (d.isEmpty = true → Answers (.move src dst from_) s fun t => ∀ x ∈ t.cmds, x ∈ s.cmds)) ∧
    (∀ f d a, Takes src (.xpose f) s → HandlesFree src (.xpose f) s → checkMove s f.dst f.src (swapDims f.da.toNat f.db.toNat) f.rb = .ok (d, a) →
      (d.isEmpty = false → Answers (.xpose src f) s fun t =>
        Issued src (.xpose f) s t (fun x =>
          x.plan = (if f.rb then reblockPlan s (directCtx src (.xpose f) s) f d a else movePlan s d a (swapDims f.da.toNat f.db.toNat)) ∧
          x.writes = d.runs ∧ x.reads = a.runs) ∧ t.looms = s.looms ∧ IssueFrame src s t) ∧
      (d.isEmpty = true → Answers (.xpose src f) s fun t => ∀ x ∈ t.cmds, x ∈ s.cmds)) ∧
    (∀ x e, InFlight s x → slotMover x.c = true → x.frames.findSome? (fun f => f) = some e → e.code < 2 ^ 16 →
      (s.stream x.loom x.stream).state ≠ .faulted → Answers (.moverReadFault x.id) s fun t => FaultsWith s t x e.code)

/-! ### Matrix commands -/

/-- MPAIR takes and gives up a context's claim on its loom's arrays: a claim of FULL holds both halves, one of a half that half, and
the planes it takes are not loaded; a claim that overlaps another context's is held; a second claim is rejected with STATE_ILLEGAL; the claim
is given up once none of the context's matrix commands is in flight and no accumulation is open (R118, R119). -/
def Obligations.MpairClaimsAndReleases : Prop :=
  ∀ (src : Src) (claim : BitVec 2) (s : State), src.loom < 80 → Takes src (.mpair claim) s →
    ((s.loom src.loom).claimOf (src.stream % 4) = none →
      (claim = 0 → Answers (.mpair src claim) s fun t => t.looms = s.looms ∧ t.cmds = s.cmds ∧ IssueFrame src s t) ∧
      (claim ≠ 0 → (s.loom src.loom).overlaps (src.stream % 4) claim.toNat = true → Answers (.mpair src claim) s fun t =>
        (t.stream src.loom src.stream).state = .held ∧ (t.stream src.loom src.stream).queue ≠ [] ∧ t.looms = s.looms ∧
        t.cmds = s.cmds ∧ IssueFrame src s t) ∧
      (claim ≠ 0 → (s.loom src.loom).overlaps (src.stream % 4) claim.toNat = false → Answers (.mpair src claim) s fun t =>
        (t.loom src.loom).own0 = (if claim = 3 then (s.loom src.loom).own0 else some (src.stream % 4)) ∧
        (t.loom src.loom).own1 = (if claim = 2 then (s.loom src.loom).own1 else some (src.stream % 4)) ∧
        (claim = 1 → (t.loom src.loom).full = true) ∧
        (∀ p, p < 2 → (claim ≠ 3 → ((t.loom src.loom).plane 0 p).loaded = false) ∧
          (claim = 3 → ((t.loom src.loom).plane 1 p).loaded = false)) ∧
        (∀ l, l ≠ src.loom → t.loom l = s.loom l) ∧ t.cmds = s.cmds ∧ IssueFrame src s t)) ∧
    (∀ h full, (s.loom src.loom).claimOf (src.stream % 4) = some (h, full) → claim ≠ 0 →
      (s.loom src.loom).overlaps (src.stream % 4) claim.toNat = false → Answers (.mpair src claim) s fun t =>
        (t.stream src.loom src.stream).state = .faulted ∧
        t.fld (Reg.CTX_FAULT_INFO_CODE (ctxSlot src.loom src.stream)) = 0x0103 ∧ SameMemory s t) ∧
    (∀ h full, (s.loom src.loom).claimOf (src.stream % 4) = some (h, full) → claim = 0 →
      (s.cmdsOfCtx src.loom (src.stream % 4)).any (fun c => slotMatrix c.c) = false → ((s.loom src.loom).acc h).isSome = false →
      Answers (.mpair src claim) s fun t =>
        (t.loom src.loom).claimOf (src.stream % 4) = none ∧
        (∀ c, c ≠ src.stream % 4 → (t.loom src.loom).claimOf c = (s.loom src.loom).claimOf c) ∧
        (t.loom src.loom).planes = (s.loom src.loom).planes ∧ (∀ l, l ≠ src.loom → t.loom l = s.loom l) ∧ t.cmds = s.cmds ∧
        IssueFrame src s t)

/-- MLOAD, MSTREAM and MDRAIN whose checks pass issue. MLOAD takes the free plane, which is not loaded until it completes; MSTREAM
starts, continues or ends the accumulation of its half by its ACCM; MDRAIN takes the accumulation with it (R105, R114, R115,
R122 to R124). An MSTREAM without rows, or one of these commands whose D has no element, completes at once (R116, R218). That the plane
of an MLOAD is the recent one from its issue on, and that a drain to an empty D closes its accumulation, are the model's readings (log
entry 53), and so is that LAST and MDRAIN close the accumulation when they issue (log entry 29). -/
def Obligations.MatrixCommandsIssue : Prop :=
  ∀ (src : Src) (s : State) (h : Nat) (full : Bool), src.loom < 80 → (s.loom src.loom).claimOf (src.stream % 4) = some (h, full) →
    (∀ f p w i, i = directCtx src (.mload f) s → Takes src (.mload f) s → HandlesFree src (.mload f) s →
      freePlane s src.loom h = some p → checkMload s i f (i.ctr f.kt.toNat) (i.ctr f.nt.toNat) = .ok w →
      Answers (.mload src f) s fun t =>
        Issued src (.mload f) s t (fun x => x.plan = {} ∧ ∃ cols need,
          x.phase = .mload h p w f.wkdim.toNat f.wndim.toNat cols need [] ∧
          cols.length = liveCols w.fmt (i.ctr f.nt.toNat) (w.ext f.wndim.toNat)) ∧
        ((t.loom src.loom).plane h p).loaded = false ∧ ((t.loom src.loom).plane h p).w = w.handle ∧
        ((t.loom src.loom).plane h p).kt = i.ctr f.kt.toNat ∧ ((t.loom src.loom).plane h p).nt = i.ctr f.nt.toNat ∧
        (t.loom src.loom).recent h = some p ∧ (∀ l, l ≠ src.loom → t.loom l = s.loom l) ∧ IssueFrame src s t) ∧
    (∀ f o p pl v i, i = directCtx src (.mstream f) s → Takes src (.mstream f) s → HandlesFree src (.mstream f) s →
      (unfed s src.loom h).length < 2 → (accmDrains f.accm.toNat = true → checkAct s i f.epi.toNat = .ok ()) →
      checkMstream s i f h full (i.ctr f.m0.toNat) (i.ctr f.mrows.toNat) = .ok o → i.ctr f.mrows.toNat ≠ 0 → emptyOut o.d = false →
      (s.loom src.loom).recent h = some p → pl = (s.loom src.loom).plane h p →
      v = scaleVerdict s o.epi o.d f.dndim.toNat (match o.epi, o.d with
        | some _, some d => drainBlocks d f.dndim.toNat f.dmdim.toNat (i.ctr f.m0.toNat) (i.ctr f.mrows.toNat) (pl.nt * tileCols pl.fmt)
            (liveCols pl.fmt pl.nt ((outExtent (some pl) ((s.loom src.loom).acc h) f.accm.toNat).getD 0))
        | _, _ => []) → v.1 = none → Answers (.mstream src f) s fun t =>
        Issued src (.mstream f) s t (fun x => x.plan = { quant := { inv := v.2 } } ∧ ∃ aid dr,
          x.phase = .mstream h p f.accm.toNat aid o.a f.akdim.toNat f.amdim.toNat (i.ctr f.m0.toNat) (i.ctr f.mrows.toNat) dr [] 0 []) ∧
        (f.accm = 0 → (t.loom src.loom).acc h = none) ∧
        (f.accm = 1 → ∃ a, (t.loom src.loom).acc h = some a ∧ a.aid = s.nextId ∧ a.fmt = pl.fmt ∧ a.nt = pl.nt ∧ a.cm1 = pl.cm1 ∧
          a.rows = i.ctr f.mrows.toNat ∧ a.nextKt = pl.kt + 1 ∧ a.kExt = pl.kExt ∧ a.nExt = pl.nExt) ∧
        (f.accm = 2 → (t.loom src.loom).acc h = ((s.loom src.loom).acc h).map fun a => { a with nextKt := a.nextKt + 1 }) ∧
        (f.accm = 3 → ((s.loom src.loom).acc h).isSome = true ∧ (t.loom src.loom).acc h = none) ∧
        (f.accm = 4 → (t.loom src.loom).acc h = none) ∧
        (t.loom src.loom).planes = (s.loom src.loom).planes ∧ (∀ l, l ≠ src.loom → t.loom l = s.loom l) ∧ IssueFrame src s t) ∧
    (∀ f o i, i = directCtx src (.mstream f) s → Takes src (.mstream f) s → HandlesFree src (.mstream f) s →
      (unfed s src.loom h).length < 2 → (accmDrains f.accm.toNat = true → checkAct s i f.epi.toNat = .ok ()) →
      checkMstream s i f h full (i.ctr f.m0.toNat) (i.ctr f.mrows.toNat) = .ok o → i.ctr f.mrows.toNat = 0 ∨ emptyOut o.d = true →
      Answers (.mstream src f) s fun t => (∀ x ∈ t.cmds, x ∈ s.cmds) ∧
        (i.ctr f.mrows.toNat ≠ 0 → f.accm = 3 → (t.loom src.loom).acc h = none)) ∧
    (∀ f o a v i, i = directCtx src (.mdrain f) s → Takes src (.mdrain f) s → HandlesFree src (.mdrain f) s →
      (f.mode = 0 → checkAct s i f.epi.toNat = .ok ()) →
      (s.loom src.loom).acc h = some a → checkMdrain s i f (some a) (i.ctr f.m0.toNat) = .ok o → emptyOut o.1 = false →
      v = scaleVerdict s o.2 o.1 f.dndim.toNat (match o.2, o.1 with
        | some _, some d => drainBlocks d f.dndim.toNat f.dmdim.toNat (i.ctr f.m0.toNat) a.rows (a.nt * tileCols a.fmt)
            (liveCols a.fmt a.nt a.nExt)
        | _, _ => []) → v.1 = none → Answers (.mdrain src f) s fun t =>
        Issued src (.mdrain f) s t (fun x => x.plan = { quant := { inv := v.2 } } ∧ ∃ dr, x.phase = .mdrain h f.mode.toNat a dr false []) ∧
        (t.loom src.loom).acc h = none ∧ (t.loom src.loom).planes = (s.loom src.loom).planes ∧
        (∀ l, l ≠ src.loom → t.loom l = s.loom l) ∧ IssueFrame src s t) ∧
    (∀ f o a i, i = directCtx src (.mdrain f) s → Takes src (.mdrain f) s → HandlesFree src (.mdrain f) s →
      (f.mode = 0 → checkAct s i f.epi.toNat = .ok ()) → (s.loom src.loom).acc h = some a →
      checkMdrain s i f (some a) (i.ctr f.m0.toNat) = .ok o → emptyOut o.1 = true →
      Answers (.mdrain src f) s fun t => (∀ x ∈ t.cmds, x ∈ s.cmds) ∧ (t.loom src.loom).acc h = none)

/-- The events of matrix commands in flight: a mordant frame that checks joins the frames read, and one that fails faults the
stream; a plane is loaded when its tile and frames are complete; a row group enters once its plane is loaded and every entry it uses has
passed, FIRST and MIDDLE adding their rows' terms to the accumulation, FIRST_LAST and LAST making the totals of their rows ready for the
epilogue, RAW writing its rows; MDRAIN starts once the updates of its accumulation are complete, and TOTAL64 writes the totals; the
epilogue takes the next row group (R85, R91, R99, R112 to R114, R117, R124, R127, R128, R130, R179). -/
def Obligations.MatrixEventsAdvance : Prop :=
  ∀ (s : State) (x : Cmd), InFlight s x →
    (∀ rest, x.phase = .plain → x.frames = none :: rest → Answers (.mordantFrameArrival x.id) s fun t =>
      t.cmds = (s.setCmd { x with frames := rest }).cmds ∧ t.cmd? x.id = some { x with frames := rest } ∧ SameRegsBut [] s t ∧
      SameMemory s t ∧ t.streams = s.streams ∧ t.descs = s.descs ∧ t.looms = s.looms) ∧
    (∀ rest e, x.phase = .plain → x.frames = some e :: rest → e.code < 2 ^ 16 → slotMatrix x.c = false →
      (s.stream x.loom x.stream).state ≠ .faulted → Answers (.mordantFrameArrival x.id) s fun t => FaultsWith s t x e.code) ∧
    (∀ h p w k n cols f rest got pl, x.phase = .mload h p w k n cols (f :: rest) got → pl = (s.loom x.loom).plane h p →
      frameFault s w f (tileBlocks w k n pl.kt pl.nt).flatten = none → darkRun s (w.frameRuns f) = none →
      Answers (.mordantFrameArrival x.id) s fun t =>
        t.cmd? x.id = some { x with phase := .mload h p w k n cols rest (got ++ [(f, (readFrame s w f).2)]) } ∧
        SameRegsBut [] s t ∧ SameMemory s t ∧ t.streams = s.streams ∧ t.descs = s.descs ∧ t.looms = s.looms) ∧
    (∀ h p w k n cols got pl, x.phase = .mload h p w k n cols [] got → pl = (s.loom x.loom).plane h p → badRead s x = none → x.plan = {} →
      Answers (.mloadComplete x.id) s fun t =>
        t.cmd? x.id = none ∧ ((t.loom x.loom).plane h p).loaded = true ∧ ((t.loom x.loom).plane h p).cols = cols ∧
        ((t.loom x.loom).plane h p).scales = ((tileBlocks w k n pl.kt pl.nt).map fun bs => bs.map fun b => (scaleFrom w got b).1) ∧
        SameMemory s t ∧ t.descs = s.descs ∧ (∀ l, l ≠ x.loom → t.loom l = s.loom l) ∧
        SameRegsBut [Reg.LOOM_FLAGS x.loom (x.stream % 4), Reg.CTX_LAST_RETIRED (ctxSlot x.loom x.stream), Reg.CNT_TR_DROPS] s t) ∧
    (∀ h p accm aid a ak am m0 mrows dr got fed rows pl n (row : Nat → List Nat × List Nat × Bool) (old : Nat → List AccCell),
      x.phase = .mstream h p accm aid a ak am m0 mrows dr got fed rows →
      pl = (s.loom x.loom).plane h p → pl.loaded = true → n = min (groupRows (s.loom x.loom).full) (mrows - fed) → fed < mrows →
      (unfed s x.loom h).head? = some x → darkRun s (rowRuns pl a ak am (m0 + fed) n false) = none →
      row = (fun j => fedRow s pl a ak am (m0 + (fed + j)) got) →
      old = (fun j => (smGet (fun _ => []) (s.loom x.loom).cells aid).getD (fed + j) []) →
      (accm < 4 → missingFrames (groupBlocks pl a ak am m0 fed n) got = [] → bufferedFault a got (groupBlocks pl a ak am m0 fed n) = none →
        (accm = 0 ∨ accm = 3 → Answers (.rowGroupEnter x.id) s fun t =>
          (∃ fl, t.cmd? x.id = some { x with
            plan := { x.plan with own := fl }
            phase := .mstream h p accm aid a ak am m0 mrows dr got (fed + n) (rows ++ (List.range n).map fun j =>
              (m0 + (fed + j), (closeRow (match dr with | some d => liveCols pl.fmt pl.nt (d.d.ext d.dndim) | none => pl.cols.length)
                (passRow pl (row j).1 (row j).2.1 (if accm = 3 then old j else [])).1).1)) }) ∧
          SameRegsBut [] s t ∧ SameMemory s t ∧ t.streams = s.streams ∧ t.descs = s.descs) ∧
        (accm = 1 ∨ accm = 2 → Answers (.rowGroupEnter x.id) s fun t =>
          (∃ fl, t.cmd? x.id = some { x with
            plan := { x.plan with own := fl }
            phase := .mstream h p accm aid a ak am m0 mrows dr got (fed + n) rows }) ∧
          (∀ j, j < n → fed + j < (smGet (fun _ => []) (s.loom x.loom).cells aid).length →
            (smGet (fun _ => []) (t.loom x.loom).cells aid).getD (fed + j) [] = (passRow pl (row j).1 (row j).2.1 (old j)).1) ∧
          SameRegsBut [] s t ∧ SameMemory s t ∧ t.streams = s.streams ∧ t.descs = s.descs)) ∧
      (∀ d ws, accm = 4 → dr = some d → ws = (List.range n).flatMap (fun j => (rawRow pl d (m0 + (fed + j)) (row j).1).1) →
        darkWrite s ws = none → Answers (.rowGroupEnter x.id) s fun t =>
          (∃ y, t.cmd? x.id = some y ∧ y.phase = .mstream h p accm aid a ak am m0 mrows dr got (fed + n) rows) ∧
          (∀ b, t.byte b = (s.store ws).byte b) ∧ SameRegsBut [] s t ∧ t.streams = s.streams ∧ t.descs = s.descs)) ∧
    (∀ h acc d rows ws, x.phase = .mdrain h 1 acc (some d) false rows → (unfed s x.loom h).any (fun y => y.accId == some acc.aid) = false →
      ws = totalWrites d d.n0 (drainRows acc (smGet (fun _ => []) (s.loom x.loom).cells acc.aid) d.m0).1 → darkWrite s ws.1 = none →
      Answers (.mdrainStart x.id) s fun t =>
        (∃ fl, t.cmd? x.id = some { x with plan := { x.plan with own := fl, words := ws.2 }, phase := .mdrain h 1 acc (some d) true [] }) ∧
        (∀ b, t.byte b = (s.store ws.1).byte b) ∧ SameRegsBut [] s t ∧ t.streams = s.streams ∧ t.descs = s.descs) ∧
    (∀ h acc d cfg r rows n out, x.phase = .mdrain h 0 acc (some d) true (r :: rows) → d.epi = some cfg →
      n = groupRows (s.loom x.loom).full → out = epiGroup s x d cfg ((r :: rows).take n) → darkWrite s out.1.writes = none →
      Answers (.epilogueRow x.id) s fun t =>
        (∃ pl' d', t.cmd? x.id = some { x with plan := pl', phase := .mdrain h 0 acc (some d') true ((r :: rows).drop n) } ∧ d'.d = d.d) ∧
        (∀ b, t.byte b = (s.store out.1.writes).byte b) ∧
        SameRegsBut [] s t ∧ t.streams = s.streams ∧ t.descs = s.descs)

/-- STATCFG, STATREAD and QGRAD whose checks pass issue, the first two once no earlier command of the context still merges statistics: STATCFG
names the context's statistics and scale-gradient tensors, with CLEAR it zeroes them; STATREAD writes its records, or initial scales, and
marks the records it found degenerate; QGRAD writes, for each scale position with usable entries, the gradient there plus the partial of its
elements, rounded once to FP32. What they write lands as they retire, and CLEAR of STATCFG and CLR of STATREAD then clear the watched
accumulators of the context (R175 to R178). While such a command is busy, STATCFG and STATREAD are held (R175, R176). A watched partial whose command has retired merges into its entry, in the order of the commands (R174). A command of no element completes at
once (R241). The model's choices: operands and records are read at issue, results land at the retire (log entry 10), CLR and DEGENERATE with
them, and STATCFG and STATREAD are held until the watched partials before them have merged (log entry 30). -/
def Obligations.StatisticsCommands : Prop :=
  ∀ (src : Src) (s : State), src.loom < 80 →
    (∀ c row, (∃ sth sgh clear, c = .statcfg sth sgh clear ∧ row = Instr.statcfg src sth sgh clear) ∨
        (∃ f, c = .statread f ∧ row = Instr.statread src f) → Takes src c s → HandlesFree src c s →
      statsBusy s src.loom (src.stream % 4) = true → Answers row s fun t =>
        (t.stream src.loom src.stream).state = .held ∧ (t.stream src.loom src.stream).queue ≠ [] ∧ t.cmds = s.cmds ∧ t.looms = s.looms ∧
        IssueFrame src s t) ∧
    (∀ sth sgh clear st sg c, c = .statcfg sth sgh clear → Takes src c s → HandlesFree src c s →
      statsBusy s src.loom (src.stream % 4) = false → checkStatcfg s (directCtx src c s) sth sgh clear = .ok (st, sg) →
      Answers (.statcfg src sth sgh clear) s fun t =>
        Issued src c s t (fun x => x.plan.unwatch = clear ∧
          x.plan.writes = if clear then fillWrites st 0 ++ fillWrites sg 0 else []) ∧
        t.fld (Reg.LOOM_STATCTL_STH src.loom (src.stream % 4)) = sth.toNat ∧
        t.fld (Reg.LOOM_STATCTL_SGH src.loom (src.stream % 4)) = sgh.toNat ∧
        t.flag (Reg.LOOM_STATCTL_VALID src.loom (src.stream % 4)) = true ∧
        SameMemory s t ∧ t.descs = s.descs ∧ SameStreamsBut src.loom src.stream s t ∧
        SameRegsBut [Reg.LOOM_STATCTL src.loom (src.stream % 4), Reg.CTX_LAST_RETIRED (ctxSlot src.loom src.stream), Reg.CNT_TR_DROPS,
          Reg.LOOM_DIG_CTL src.loom (src.stream % 4)] s t) ∧
    (∀ f d c, c = .statread f → f.mode = false → Takes src c s → HandlesFree src c s → statsBusy s src.loom (src.stream % 4) = false →
      resolve s f.dst = .ok d → d.fmt? = some .int32 → d.stride 0 = 1 → dBsize d.words = 0 → 512 ≤ d.total → checkSpan d true = .ok () →
      checkBanks s [d] = .ok () → Answers (.statread src f) s fun t =>
        Issued src c s t (fun x => x.plan.writes = (elemPlan d (((List.range 64).flatMap
          (watchRecord s src.loom (src.stream % 4))).zipIdx.map fun (v, e) => (e, v))).1 ∧ x.writes = d.runs ∧ x.plan.unwatch = f.clr) ∧
        t.looms = s.looms ∧ IssueFrame src s t) ∧
    (∀ f d r st c, c = .statread f → f.mode = true → Takes src c s → HandlesFree src c s → statsBusy s src.loom (src.stream % 4) = false →
      checkInit s (directCtx src c s) f = .ok (d, r, st) →
      (d.isEmpty = false → Answers (.statread src f) s fun t =>
        Issued src c s t (fun x => x.plan.writes = (elemPlan d ((List.range (scaleCount r f.cdim.toNat)).map fun p =>
          (p, (initScale r (maxAbsOf s st (channelsAt r f.cdim.toNat p))).1))).1 ∧
          x.plan.records = (List.range (scaleCount r f.cdim.toNat)).flatMap fun p =>
            (channelsAt r f.cdim.toNat p).flatMap (initRecord st (initScale r (maxAbsOf s st (channelsAt r f.cdim.toNat p))).2.2 f.clr)) ∧
        t.looms = s.looms ∧ IssueFrame src s t) ∧
      (d.isEmpty = true → Answers (.statread src f) s fun t => ∀ x ∈ t.cmds, x ∈ s.cmds)) ∧
    (∀ f q x g sg c, c = .qgrad f → Takes src c s → HandlesFree src c s → checkQgrad s (directCtx src c s) f = .ok (q, x, g, sg) →
      (q.isEmpty = false → sg.isEmpty = false → Answers (.qgrad src f) s fun t =>
        Issued src c s t (fun y => y.writes = sg.runs ∧ y.dsts = [sg.handle] ∧
          y.plan.writes = (elemPlan sg ((qgradSums s q x g sg f.cdim.toNat).map fun (p, v, _) => (p, v))).1 ∧
          ∀ p r, p < scaleCount q f.cdim.toNat → qgradWhole s q f.cdim.toNat p = true → qgradPartial s q x g f.cdim.toNat p = some r →
            (0, p, (fp32.roundOp ((sg.fmt.value (readElem s sg (p * sg.stride 0))).add r.1)).code) ∈ y.plan.words) ∧
        t.looms = s.looms ∧ IssueFrame src s t) ∧
      (q.isEmpty = true ∨ sg.isEmpty = true → Answers (.qgrad src f) s fun t => ∀ x ∈ t.cmds, x ∈ s.cmds)) ∧
    (∀ x, InFlight s x → x.loom = src.loom →
      (∃ sth sgh clear, x.c = .statcfg sth sgh clear) ∨ (∃ f, x.c = .statread f) ∨ (∃ f, x.c = .qgrad f) →
      x.phase = .plain → x.frames = [] → badRead s x = none → shutWrite s x = false → x.plan.stats = [] → x.plan.mv = none →
      x.plan.tally = none → Answers (.commandRetire x.id) s fun t =>
        (∀ a, t.byte a = ((s.store x.plan.writes).store x.plan.records).byte a) ∧
        (∀ e, e < 64 → smGet (fun _ => (0, 0)) (t.loom src.loom).watch e =
          if x.plan.unwatch = true ∧ (watchEntry s src.loom e).2.1 = x.stream % 4 then (0, 0)
          else smGet (fun _ => (0, 0)) (s.loom src.loom).watch e) ∧
        (∀ l, l ≠ src.loom → t.loom l = s.loom l) ∧ t.cmds = s.cmds.filter (·.id != x.id) ∧ t.descs = s.descs ∧
        SameRegsBut [Reg.LOOM_FLAGS x.loom (x.stream % 4), Reg.CTX_LAST_RETIRED (ctxSlot x.loom x.stream), Reg.CNT_TR_DROPS] s t) ∧
    (∀ ctx p w, s.boot.on = true → (s.loom src.loom).parts.find? (fun y => y.ctx == ctx) = some p → p.ready = true →
      (s.cmdsOfCtx src.loom ctx).any (fun y => y.mergesStats && !y.draining && decide (y.id < p.cmd)) = false →
      w = smGet (fun _ => (0, 0)) (s.loom src.loom).watch p.entry → Answers (.watchPartialMerge src.loom ctx) s fun t =>
        smGet (fun _ => (0, 0)) (t.loom src.loom).watch p.entry = ((w.1 + p.count) % 2 ^ 64,
          (fp64.round .rne ((fp64.decode w.2).add (fp64.decode p.sse)).1).code) ∧
        (∀ e, e ≠ p.entry → smGet (fun _ => (0, 0)) (t.loom src.loom).watch e = smGet (fun _ => (0, 0)) (s.loom src.loom).watch e) ∧
        (t.loom src.loom).parts = (s.loom src.loom).parts.erase p ∧ (∀ l, l ≠ src.loom → t.loom l = s.loom l) ∧
        SameMemory s t ∧ SameRegsBut [] s t ∧ t.streams = s.streams ∧ t.cmds = s.cmds)

/-! ### Fulling -/

/-- FULL runs on its die's engine, one at a time: it issues when the engine is free and no other stream waits for it, is held
otherwise, and the stream that waits longest starts first (R239, R286). A program that no FULL uses is installed by FP_COMMIT at once, one
that a FULL uses waits with DONE clear; a bad one is refused with its reason; FP_READ copies it out, FP_INVALIDATE removes one that no FULL
uses; TALLY_CLEAR zeroes a die's tally (R308). A FULL of
an empty parameter completes at once (R241). The pick from which FSTAT shows pass two, and which REASON shows when a program breaks several
rules, are the model's choices (log entry 57), and so is that a FULL computes from the operands at issue (log entry 10). -/
def Obligations.FullingCommands : Prop :=
  ∀ (s : State),
    (∀ src f o, Takes src (.full f) s → HandlesFree src (.full f) s → engineHold s (directCtx src (.full f) s) = none →
      checkFull s (directCtx src (.full f) s) f = .ok o →
      (o.p.isEmpty = false → Answers (.full src f) s fun t =>
        Issued src (.full f) s t (fun x => x.plan = fullPlan s f o ∧ x.phase = .full (s.dieOf src.loom) (passTurn s o f.pass.toNat) ∧
          x.dsts = (fullNames s f).dsts ∧ x.reads = fullReads o f.pass.toNat ∧ x.writes = fullWrites o f.pass.toNat) ∧
        (t.full (s.dieOf src.loom)).running = some s.nextId ∧ t.looms = s.looms ∧ t.fprogs = s.fprogs ∧ IssueFrame src s t) ∧
      (o.p.isEmpty = true → Answers (.full src f) s fun t =>
        (∀ x ∈ t.cmds, x ∈ s.cmds) ∧ (t.full (s.dieOf src.loom)).running = (s.full (s.dieOf src.loom)).running)) ∧
    (∀ src f k, Takes src (.full f) s → HandlesFree src (.full f) s → engineHold s (directCtx src (.full f) s) = some k →
      Answers (.full src f) s fun t =>
        (t.stream src.loom src.stream).state = .held ∧ (t.stream src.loom src.stream).queue ≠ [] ∧
        (src.loom, src.stream) ∈ (t.full (s.dieOf src.loom)).waiting ∧ (t.full (s.dieOf src.loom)).running = (s.full (s.dieOf src.loom)).running ∧
        t.cmds = s.cmds ∧ IssueFrame src s t) ∧
    (∀ die l k rest i f o, (s.full die).running = none → waitingFor s die = (l, k) :: rest → s.dieOf l = die → HeldAt l k i (.full f) s →
      checkFull s i f = .ok o → o.p.isEmpty = false →
      Answers (.fullStart die) s fun t =>
        (∃ x, t.cmds = s.cmds ++ [x] ∧ x.id = s.nextId ∧ x.c = .full f ∧ x.plan = fullPlan s f o) ∧
        (t.full die).running = some s.nextId ∧ (l, k) ∉ (t.full die).waiting ∧ (t.stream l k).queue = [] ∧ SameMemory s t) ∧
    (∀ prog : BitVec 6, Reaches s Reg.FUL_FP_COMMIT → s.flag Reg.FUL_FP_STAT_DONE = true →
      (∀ n ws, n = s.fld Reg.FUL_FP_HDR_LEN → ws = stagedWords s (min n 32) → s.fpWait = none →
        (∀ r, fCheck n ws = some r → Answers (.fpCommit prog) s fun t =>
          t.flag Reg.FUL_FP_STAT_REFUSED = true ∧ t.fld Reg.FUL_FP_STAT_REASON = r.1 % 8 ∧ t.flag Reg.FUL_FP_STAT_DONE = true ∧
          t.fprogs = s.fprogs ∧ SameRegsBut [Reg.FUL_FP_STAT] s t ∧ SameWork s t) ∧
        (fCheck n ws = none → programBusy s prog.toNat = false → Answers (.fpCommit prog) s fun t =>
          smGet (fun _ => none) t.fprogs prog.toNat = some ws ∧
          (∀ p, p ≠ prog.toNat → smGet (fun _ => none) t.fprogs p = smGet (fun _ => none) s.fprogs p) ∧
          bitAt (t.reg Reg.FUL_FP_VALID).toNat prog.toNat = true ∧ t.flag Reg.FUL_FP_STAT_DONE = true ∧
          SameRegsBut [Reg.FUL_FP_STAT, Reg.FUL_FP_VALID] s t ∧ SameWork s t) ∧
        (fCheck n ws = none → programBusy s prog.toNat = true → Answers (.fpCommit prog) s fun t =>
          t.fprogs = s.fprogs ∧ t.fpWait = some (prog.toNat, some ws) ∧ t.flag Reg.FUL_FP_STAT_DONE = false ∧
          SameRegsBut [Reg.FUL_FP_STAT] s t ∧ SameWork s t)) ∧
      Answers (.fpRead prog) s (fun t =>
        t.fld Reg.FUL_FP_HDR_LEN = ((smGet (fun _ => none) s.fprogs prog.toNat).getD []).length % 2 ^ 6 ∧ t.fprogs = s.fprogs ∧
        (∀ k, k < 32 → (stagedWords t 32)[k]? = some (((smGet (fun _ => none) s.fprogs prog.toNat).getD []).getD k 0)) ∧
        SameRegsBut (Reg.FUL_FP_HDR :: Reg.FUL_FP_STAT :: (List.range 16).map Reg.FUL_FP_STAGE) s t ∧ SameWork s t) ∧
      (s.fpWait = none → programBusy s prog.toNat = false → Answers (.fpInvalidate prog) s fun t =>
        smGet (fun _ => none) t.fprogs prog.toNat = none ∧ bitAt (t.reg Reg.FUL_FP_VALID).toNat prog.toNat = false ∧
        SameRegsBut [Reg.FUL_FP_STAT, Reg.FUL_FP_VALID] s t ∧ SameWork s t)) ∧
    (∀ die, die < 4 → Reaches s (Reg.FUL_TALLY_CTL die) → Answers (.tallyClear die) s fun t =>
      t.reg (Reg.FUL_TALLY_ACC_LO die) = 0 ∧ t.reg (Reg.FUL_TALLY_ACC_HI die) = 0 ∧
      SameRegsBut [Reg.FUL_TALLY_ACC_LO die, Reg.FUL_TALLY_ACC_HI die] s t ∧ SameWork s t)

/-! ### Throws, catches and collectives -/

/-- A THROW is admitted when every catcher has a usable credit of its length and a path is in service: it takes one credit of each, the
flow's next sequence numbers and its throw number; on each out port its slots are slots of the flow, 16 picks away or more and after
those of the throw before it; NOMINAL and CDL are its last slot plus the flow's latencies, and its DELIVERED
record must come by CDL plus ACKLAT; it is held for credit until then, and a held one is admitted when it can be. A CATCH is posted and
sends its credit, and is held while the throw window is shut; a credit that arrives joins the flow's credits; an old credit expires and
EXPIRED is sent; a THROW that waits too long is rejected, and so is one whose credit has another length, which sends FAILED. A
collective THROW joins the commands in flight with its header, and over looms hands its part to the others unless a frame of it fails
(R85, R91, R239, R324 to R326, R331, R334). With LEN 0 both complete at once (R241). The model's choices: the TSEQ of EXPIRED, the credits and
the throw number that a rejection uses up, and the last slot taken over all the ports (log entry 36), that IN is read when the collective is
admitted and that MLIST and START tell which collective over looms a part is of (log entry 37). -/
def Obligations.ThrowsAndCatchesIssue : Prop :=
  ∀ (s : State),
    (∀ src from_ fc len c i o f, c = .throwTo from_ fc len → i = directCtx src c s → Takes src c s → HandlesFree src c s →
      throwHold s i (i.flow fc) len.toNat = none → checkThrow s i from_ (i.flow fc) len.toNat = .ok (o, f, none) →
      creditWaitPast s i f = false →
      (len = 0 → Answers (.throwTo src from_ fc len) s fun t => (∀ x ∈ t.cmds, x ∈ s.cmds) ∧ t.wvn = s.wvn) ∧
      (len ≠ 0 → creditLenBad (s.flowSt (i.flow fc)) f s.pick len.toNat = true → Answers (.throwTo src from_ fc len) s fun t =>
        (t.stream src.loom src.stream).state = .faulted ∧ t.fld (Reg.CTX_FAULT_INFO_CODE (ctxSlot src.loom src.stream)) = 0x0401 ∧
        (t.flowSt (i.flow fc)).credits = ((s.flowSt (i.flow fc)).consume f s.pick).credits ∧
        (t.flowSt (i.flow fc)).tseq = ((s.flowSt (i.flow fc)).tseq + 1) % 2 ^ 32 ∧
        (∀ p, p ∈ maskPorts f.outMask → p < s.nPorts → (t.port p).recs = (s.port p).recs ++
          (List.range f.ncatch).map fun k => mkRec 3 k (i.flow fc) (s.flowSt (i.flow fc)).tseq 4) ∧
        t.fld Reg.WVN_THROW_CNT_REJECTED = min (s.fld Reg.WVN_THROW_CNT_REJECTED + 1) (2 ^ 32 - 1) ∧ SameMemory s t) ∧
      (len ≠ 0 → creditLenBad (s.flowSt (i.flow fc)) f s.pick len.toNat = false → hasPath s f = true →
        Answers (.throwTo src from_ fc len) s fun t => ∃ last,
          Issued src c s t (fun x => x.budget = none ∧
            x.phase = .throwing (i.flow fc) (s.flowSt (i.flow fc)).tseq (last + f.dlat + f.acklat) (List.range f.ncatch)) ∧
          last = lastSlot s f (ceilDiv len.toNat 24576) ∧
          (∀ p q, p ∈ maskPorts f.outMask → portLast s f.flow (ceilDiv len.toNat 24576) p = some q →
            s.pick + 16 ≤ q ∧ q ≤ last ∧ q % 8192 ∈ (s.wvn.active.toList.flatMap fun sc => flowIdxs sc p f.flow) ∧
            smGet (fun _ => 0) (s.flowSt (i.flow fc)).free p ≤ q ∧ smGet (fun _ => 0) (t.flowSt (i.flow fc)).free p = q + 1) ∧
          (t.flowSt (i.flow fc)).seq = ((s.flowSt (i.flow fc)).seq + ceilDiv len.toNat 24576) % 2 ^ 32 ∧
          (t.flowSt (i.flow fc)).tseq = ((s.flowSt (i.flow fc)).tseq + 1) % 2 ^ 32 ∧
          (∃ r, (t.flowSt (i.flow fc)).throws = (s.flowSt (i.flow fc)).throws ++ [r] ∧ r.cmd = s.nextId ∧
            r.seq0 = (s.flowSt (i.flow fc)).seq ∧ r.n = ceilDiv len.toNat 24576 ∧ r.pLast = last ∧ r.nominal = last + f.lat ∧
            r.cdl = last + f.dlat) ∧
          (t.flowSt (i.flow fc)).credits = ((s.flowSt (i.flow fc)).consume f s.pick).credits ∧
          t.fld Reg.WVN_THROW_CNT_ADMITTED = min (s.fld Reg.WVN_THROW_CNT_ADMITTED + 1) (2 ^ 32 - 1) ∧
          t.fld Reg.WVN_THROW_CNT_REJECTED = s.fld Reg.WVN_THROW_CNT_REJECTED ∧
          (∀ g, g ≠ i.flow fc → t.flowSt g = s.flowSt g) ∧ SameMemory s t ∧ t.descs = s.descs ∧ SameStreamsBut src.loom src.stream s t)) ∧
    (∀ src from_ fc len c i k, c = .throwTo from_ fc len → i = directCtx src c s → Takes src c s → HandlesFree src c s →
      throwHold s i (i.flow fc) len.toNat = some k → Answers (.throwTo src from_ fc len) s fun t =>
        (t.stream src.loom src.stream).state = .held ∧ (t.stream src.loom src.stream).queue ≠ [] ∧ t.cmds = s.cmds ∧ t.wvn = s.wvn ∧
        IssueFrame src s t) ∧
    (∀ l k i from_ fc len o f, HeldAt l k i (.throwTo from_ fc len) s → throwHold s i (i.flow fc) len.toNat = none →
      checkThrow s i from_ (i.flow fc) len.toNat = .ok (o, f, none) → len ≠ 0 → creditWaitPast s i f = false →
      creditLenBad (s.flowSt (i.flow fc)) f s.pick len.toNat = false → hasPath s f = true → Answers (.throwAdmit l k) s fun t =>
        (∃ x, t.cmds = s.cmds ++ [x] ∧ x.id = s.nextId ∧ x.c = .throwTo from_ fc len) ∧ (t.stream l k).queue = [] ∧
        (t.flowSt (i.flow fc)).tseq = ((s.flowSt (i.flow fc)).tseq + 1) % 2 ^ 32 ∧
        (t.flowSt (i.flow fc)).credits = ((s.flowSt (i.flow fc)).consume f s.pick).credits ∧ SameMemory s t ∧ t.descs = s.descs) ∧
    (∀ src from_ fc len c i o f a d m h frs, c = .throwTo from_ fc len → i = directCtx src c s → Takes src c s → HandlesFree src c s →
      throwHold s i (i.flow fc) len.toNat = none → checkThrow s i from_ (i.flow fc) len.toNat = .ok (o, f, some (a, d, m)) →
      h = readHeader s src.loom o a d m f.flow → s.pick + 16 ≤ h.start →
      frs = framesFor s a (if a.scaled = true then nubNat ((rangeElems h.ranges).map fun e => a.blockOf (coordsOf a.exts e)) else []) ++
        keptFrames s h →
      Answers (.throwTo src from_ fc len) s fun t =>
        Issued src c s t (fun x => x.phase = .collective h (collDeadline f h) ∧ x.dsts = [d.handle] ∧ x.frames = frs) ∧
        (h.scope = true → (∀ e ∈ frs, e = none) →
          ({ loom := src.loom, flow := f.flow, deadline := collDeadline f h, part := h.mine, digest := h.digest, start := h.start,
             members := h.members } : LocalPart) ∈ t.wvn.local_) ∧
        (∀ e, some e ∈ frs → ∀ x ∈ t.wvn.local_, x ∈ s.wvn.local_) ∧ SameMemory s t ∧ t.descs = s.descs) ∧
    (∀ src dst fc len c i, c = .catchAt dst fc len → i = directCtx src c s → Takes src c s → HandlesFree src c s →
      (windowShut s = true → Answers (.catchAt src dst fc len) s fun t =>
        (t.stream src.loom src.stream).state = .held ∧ (t.stream src.loom src.stream).queue ≠ [] ∧ t.cmds = s.cmds ∧ t.wvn = s.wvn ∧
        IssueFrame src s t) ∧
      (∀ o f, windowShut s = false → checkCatch s i dst (i.flow fc) len.toNat = .ok (o, f) →
        (len = 0 → Answers (.catchAt src dst fc len) s fun t => (∀ x ∈ t.cmds, x ∈ s.cmds) ∧ t.wvn = s.wvn) ∧
        (len ≠ 0 → f.revPort < s.nPorts → Answers (.catchAt src dst fc len) s fun t =>
          Issued src c s t (fun x => x.budget = none ∧ x.writes = bufRuns o.w0 0 len.toNat ∧
            x.phase = .catching (i.flow fc) len.toNat (s.pick + f.creditLife + 2 * f.acklat + f.dlat + 16) 0 o none 0) ∧
          (t.flowSt (i.flow fc)).posted = (s.flowSt (i.flow fc)).posted ++ [some s.nextId] ∧
          (t.port f.revPort).recs = (s.port f.revPort).recs ++ [mkRec 1 f.cidx (i.flow fc) 0 len.toNat] ∧
          (∀ p, p ≠ f.revPort → t.port p = s.port p) ∧ (∀ g, g ≠ i.flow fc → t.flowSt g = s.flowSt g) ∧ IssueFrame src s t))) ∧
    (∀ (flow : BitVec 20) (cidx : BitVec 8) (len : BitVec 40) (f : FlowEntry), s.boot.on = true → flowEntry s flow.toNat = some f →
      f.source = true → Answers (.credit flow cidx len) s fun t =>
        (t.flowSt flow.toNat).credits =
          (s.flowSt flow.toNat).credits ++ [{ cidx := cidx.toNat, len := len.toNat, arrived := s.pick }] ∧
        (∀ g, g ≠ flow.toNat → t.flowSt g = s.flowSt g) ∧ SameRegsBut [] s t ∧ SameWork s t) ∧
    (∀ (flow : BitVec 20) (cidx : BitVec 8) (f : FlowEntry) (x : Credit), s.boot.on = true → flowEntry s flow.toNat = some f →
      f.source = true → (s.flowSt flow.toNat).credits.find? (·.cidx == cidx.toNat) = some x → x.arrived + f.creditLife < s.pick →
      Answers (.creditLifeExpiry (.credit flow cidx)) s fun t =>
        (t.flowSt flow.toNat).credits = (s.flowSt flow.toNat).credits.erase x ∧
        (∀ p, p ∈ maskPorts f.outMask → p < s.nPorts → (t.port p).recs = (s.port p).recs ++
          [mkRec 4 cidx.toNat flow.toNat (s.flowSt flow.toNat).tseq 1]) ∧ SameRegsBut [] s t ∧ SameWork s t) ∧
    (∀ l k i from_ fc len f since, HeldAt l k i (.throwTo from_ fc len) s → l < 80 → k < 16 →
      (s.stream l k).hold = some (.credit, since) → flowEntry s (i.flow fc) = some f → since + f.creditLife < s.pick →
      Answers (.creditLifeExpiry (.waiting l k)) s fun t =>
        (t.stream l k).state = .faulted ∧ t.fld (Reg.CTX_FAULT_INFO_CODE (ctxSlot l k)) = 0x0401 ∧ (t.stream l k).queue = [] ∧
        t.fld Reg.WVN_THROW_CNT_REJECTED = min (s.fld Reg.WVN_THROW_CNT_REJECTED + 1) (2 ^ 32 - 1) ∧ SameMemory s t)

/-- How throws and catches end: the last catcher's DELIVERED retires the THROW; FAILED faults the CATCH of its throw, EXPIRED the oldest
one that no throw has; a DELIVERED after the deadline, and the deadlines, fault with THROW_DEADLINE, and no later slot of a late
throw is sent; a CATCH whose every byte is written by CDL retires and sends DELIVERED, a late one faults and sends FAILED; a collective
with every member's part and one header writes OUT and retires, one whose members' headers differ is rejected, and a late one
faults (R329, R330, R333, R334). The model's choices: that FAILED takes its throw's place among the catches, that EXPIRED is found by its TSEQ
and a late DELIVERED faults (log entry 36), and that the parts and digests of other devices are operands and in what order OUT is written (log entry 37). -/
def Obligations.ThrowsAndCatchesEnd : Prop :=
  ∀ (s : State) (x : Cmd), InFlight s x → (s.stream x.loom x.stream).state ≠ .faulted →
    (∀ (flow : BitVec 20) (cidx : BitVec 8) (tseq : W32) d need, x.phase = .throwing flow.toNat tseq.toNat d need →
      (∀ y ∈ s.cmds, ∀ d' need', y.phase = .throwing flow.toNat tseq.toNat d' need' → y.id = x.id) →
      (s.pick ≤ d → need.filter (· != cidx.toNat) = [] → x.plan = {} → Answers (.delivered flow cidx tseq) s fun t =>
        t.cmd? x.id = none ∧ (∀ y, y.id ≠ x.id → (y ∈ t.cmds ↔ y ∈ s.cmds)) ∧
        (∀ r ∈ (t.flowSt flow.toNat).throws, r.cmd ≠ x.id) ∧ SameMemory s t ∧ t.descs = s.descs ∧
        t.fld (Reg.CTX_FAULT_INFO_CODE (ctxSlot x.loom x.stream)) = s.fld (Reg.CTX_FAULT_INFO_CODE (ctxSlot x.loom x.stream))) ∧
      (s.pick ≤ d → need.filter (· != cidx.toNat) ≠ [] → Answers (.delivered flow cidx tseq) s fun t =>
        t.cmd? x.id = some { x with phase := .throwing flow.toNat tseq.toNat d (need.filter (· != cidx.toNat)) } ∧
        SameRegsBut [] s t ∧ SameMemory s t ∧ t.descs = s.descs ∧ t.streams = s.streams) ∧
      (d < s.pick → Answers (.delivered flow cidx tseq) s fun t => FaultsWith s t x 0x0402)) ∧
    (∀ (flow : BitVec 20) f (tseq : W32) (reason : BitVec 8), flowEntry s flow.toNat = some f → f.catcher = true → f.catchLoom ≠ 127 →
      (curTseq s (s.flowSt flow.toNat) = some tseq.toNat → (s.flowSt flow.toNat).cur = some x.id →
        Answers (.throwFailed flow tseq reason) s (fun t => FaultsWith s t x 0x0401 ∧
          t.flowSt flow.toNat = { s.flowSt flow.toNat with cur := none } ∧
          t.fld Reg.WVN_THROW_CNT_REJECTED = min (s.fld Reg.WVN_THROW_CNT_REJECTED + 1) (2 ^ 32 - 1))) ∧
      (curTseq s (s.flowSt flow.toNat) ≠ some tseq.toNat →
        (s.flowSt flow.toNat).posted.getD ((s.flowSt flow.toNat).place tseq.toNat) none = some x.id →
        Answers (.throwFailed flow tseq reason) s (fun t => FaultsWith s t x 0x0401 ∧
          t.flowSt flow.toNat = ({ s.flowSt flow.toNat with
            posted := (s.flowSt flow.toNat).posted.set ((s.flowSt flow.toNat).place tseq.toNat) none }).trim ∧
          t.fld Reg.WVN_THROW_CNT_REJECTED = min (s.fld Reg.WVN_THROW_CNT_REJECTED + 1) (2 ^ 32 - 1))) ∧
      ((s.flowSt flow.toNat).posted.getD ((s.flowSt flow.toNat).place tseq.toNat) none = some x.id →
        Answers (.throwExpired { flow := flow, tseq := tseq }) s (fun t => FaultsWith s t x 0x0402 ∧
          t.flowSt flow.toNat = ({ s.flowSt flow.toNat with
            posted := (s.flowSt flow.toNat).posted.eraseIdx ((s.flowSt flow.toNat).place tseq.toNat) }).trim ∧
          t.fld Reg.WVN_THROW_FAIL_DEADLINE = min (s.fld Reg.WVN_THROW_FAIL_DEADLINE + 1) (2 ^ 32 - 1)))) ∧
    (∀ flow tseq d need, x.phase = .throwing flow tseq d need → d ≤ s.pick → engineId s x.id = false → Answers (.throwDeadlineExpiry x.id) s fun t =>
      FaultsWith s t x 0x0402 ∧ (∀ r ∈ (t.flowSt flow).throws, r.cmd ≠ x.id) ∧
      (∀ p, p < s.nPorts → t.port p = (s.port p).without flow tseq) ∧
      t.fld Reg.WVN_THROW_FAIL_DEADLINE = min (s.fld Reg.WVN_THROW_FAIL_DEADLINE + 1) (2 ^ 32 - 1)) ∧
    (∀ flow len timeout tseq dst got, x.phase = .catching flow len timeout tseq dst none got → timeout ≤ s.pick →
      Answers (.catchDeadlineExpiry x.id) s fun t => FaultsWith s t x 0x0402) ∧
    (∀ flow len timeout tseq dst cdl got f, x.phase = .catching flow len timeout tseq dst cdl got → flowEntry s flow = some f →
      f.revPort < s.nPorts →
      (∀ d, cdl = some d → d < s.pick ∨ d = s.pick ∧ got < len → Answers (.catchDeadlineExpiry x.id) s fun t =>
        FaultsWith s t x 0x0402 ∧ (t.port f.revPort).recs = (s.port f.revPort).recs ++ [mkRec 3 f.cidx flow tseq 2]) ∧
      (len ≤ got → (∀ d ∈ cdl, s.pick ≤ d) → x.plan = {} → Answers (.catchDeliveryComplete x.id) s fun t =>
        t.cmd? x.id = none ∧ (t.flowSt flow).cur = none ∧
        (t.port f.revPort).recs = (s.port f.revPort).recs ++ [mkRec 2 f.cidx flow tseq 0] ∧ SameMemory s t ∧ t.descs = s.descs) ∧
      (∀ d, len ≤ got → cdl = some d → d < s.pick → Answers (.catchDeliveryComplete x.id) s fun t =>
        FaultsWith s t x 0x0402 ∧ (t.port f.revPort).recs = (s.port f.revPort).recs ++ [mkRec 3 f.cidx flow tseq 2])) ∧
    (∀ h d parts (digests : List (BitVec 256)) told, x.phase = .collective h d → h.start ≤ s.pick →
      told = collParts s x.loom h (parts.zip (digests.map (·.toNat))) →
      (s.pick ≤ d → (∀ p ∈ told, p.2 = h.digest) → x.plan = {} → x.frames = [] →
        (∀ r, r < h.nmemb → ∃ p ∈ told.map (·.1) ++ [h.mine],
          p.rank = r ∧ p.elems.length = (h.ranges.map (·.2)).sum ∧ (h.out.scaled = true → p.scales.length = p.elems.length)) →
        Answers (.collectiveComplete x.id parts digests) s fun t =>
          (∀ a, t.byte a = (s.store (collWrites s h (told.map (·.1)))).byte a) ∧ t.cmd? x.id = none ∧ t.descs = s.descs) ∧
      (s.pick ≤ d → (∃ p ∈ told, p.2 ≠ h.digest) → Answers (.collectiveComplete x.id parts digests) s fun t =>
        FaultsWith s t x 0x0401) ∧
      (d < s.pick → Answers (.collectiveComplete x.id parts digests) s fun t =>
        FaultsWith s t x (if headersDiffer s x.loom h = true then 0x0401 else 0x0402))) ∧
    (∀ h d, x.phase = .collective h d → d ≤ s.pick → (∀ v ∈ s.res.votes, v.cmd ≠ x.id) →
      Answers (.collectiveDeadlineExpiry x.id) s fun t => FaultsWith s t x (if headersDiffer s x.loom h = true then 0x0401 else 0x0402))

/-! ### Slots and ports -/

/-- A port that runs slots sends, once in a pick, the data slot that its schedule names or an EMPTY slot, with the next TXN, up to 14
flow records, its acknowledgement and a tag under its key, and keeps a data slot (R313 to R316, R327, R340). A THROW whose next slot reads a
bank that serves no access faults with BANK_DARK, and one whose slot reads a word that fails every read with MEM_UNCORRECTABLE
(R261, R262, R268). A slot received with a bad tag, or with a TXN that is not new, is counted and dropped, and the fourth within 64 sheds quarantines
the port; a port in quarantine counts 100 dropped cells; a good one moves on TXN and LACK and lets go of the slot that it acknowledges; in order
at its catcher its bytes are written into the CATCH's tensor (R314, R327, R328, R336, R340). A slot unacknowledged for 32 picks is sent
again in the flow's next free slot (R327). The layout of C1, of the records and of the tag's input are the model's free functions (log
entry 49). The model's choices: that a slot sent again is lost where its flow has no free slot (log entry 51), and that a slot received
in quarantine counts as 100 cells and LACK names exactly the PICK it acknowledges (log entry 35). -/
def Obligations.SlotsAreSentAndReceived : Prop :=
  ∀ (s : State) (p : Nat), s.boot.on = true → p < 18 →
    (slotsRun s p = false ∨ (s.port p).sent = some (s.pick, s.time.holdTo) → Completes (.slotTransmit p) s s) ∧
    (∀ x flow r k from_ fc len, slotsRun s p = true → (s.port p).sent ≠ some (s.pick, s.time.holdTo) →
      readsThrow s p s.pick = some (flow, r, k) → r.engine = none → r.cmd = x.id → InFlight s x → x.c = .throwTo from_ fc len →
      (s.stream x.loom x.stream).state ≠ .faulted →
      ((∃ a ∈ slotReads r k, s.shut a = true) → Answers (.slotTransmit p) s fun t => FaultsWith s t x 0x0302) ∧
      ((∀ a ∈ slotReads r k, s.shut a = false) → (∃ a ∈ slotReads r k, s.isBad a = true) → Answers (.slotTransmit p) s fun t =>
        FaultsWith s t x 0x0301)) ∧
    (∀ d body, slotsRun s p = true → (s.port p).sent ≠ some (s.pick, s.time.holdTo) → (s.port p).injHeld = [] → s.wvn.injAllow = false →
      (∀ x ∈ readsThrow s p s.pick, x.2.1.engine.isSome = true ∨ throwReadFault s x.2.1 x.2.2 = none) →
      d = (dataSlot s p s.pick).getD { hdr := emptyHdr, payload := [] } →
      body = { d with hdr := { d.hdr with pick := BitVec.ofNat 64 s.pick, txn := BitVec.ofNat 64 (s.port p).txn } } →
      Answers (.slotTransmit p) s fun t =>
        (∃ w, t.outbox = s.outbox ++ [.slot p w] ∧ w.hdr = body.hdr ∧ w.recs = (s.port p).recs.take 14 ∧
          w.lack = BitVec.ofNat 64 (s.port p).lack ∧ w.msgs = (s.port p).msgs ∧
          (s.time.holdTo = none → s.pick % 8192 = 0 → s.wvn.active.isSome = true → w.hash = some (BitVec.ofNat 64 (hashWord s))) ∧
          (s.flag (Reg.WVN_PSTAT_ENCRYPTED p) = false → w.payload.take body.payload.length = body.payload) ∧
          w.tag = Config.gcmTag (s.port p).txKey (slotNonce body.hdr.txn (s.port p).lower)
            (slotCells body.hdr w.payload w.time w.lack w.recs)) ∧
        (t.port p).kept = (if body.hdr.empty then (s.port p).kept else (s.port p).kept ++ [body]) ∧
        (t.port p).txn = (s.port p).txn + 1 ∧ (t.port p).recs = (s.port p).recs.drop 14 ∧ (t.port p).msgs = [] ∧
        (t.port p).sent = some (s.pick, s.time.holdTo) ∧
        (∀ q, q ≠ p → t.port q = s.port q) ∧ SameRegsBut [] s t ∧ SameWork s t) ∧
    (∀ m, p < s.nPorts → s.portState p = 8 → s.fpWait = none → s.res.cap = none → Answers (.slotReceive p m) s fun t =>
      t.fld (Reg.WVN_QUAR_QDROPS p) = min (s.fld (Reg.WVN_QUAR_QDROPS p) + 100) (2 ^ 32 - 1) ∧
      t.port p = m.fec.foldl PortSt.countFec (s.port p) ∧ (∀ q, q ≠ p → t.port q = s.port q) ∧
      SameRegsBut [Reg.WVN_QUAR p, Reg.WVN_FEC p] s t ∧ SameWork s t) ∧
    (∀ m, slotsRun s p = true → s.portState p ≠ 8 → slotTagOk s p m = false ∨ (∃ n, (s.port p).rxTxn = some n ∧ m.hdr.txn.toNat ≤ n) →
      s.fpWait = none → s.res.cap = none → Answers (.slotReceive p m) s fun t =>
        t.fld (Reg.WVN_BADTAG_TAG p) = min (s.fld (Reg.WVN_BADTAG_TAG p) + 1) (2 ^ 32 - 1) ∧
        (t.port p).rxTxn = (s.port p).rxTxn ∧ (t.port p).lack = (s.port p).lack ∧
        (((s.port p).badTags.filter fun sh => shedOf s.pick < sh + 64).length < 3 → t.portState p = s.portState p) ∧
        (3 ≤ ((s.port p).badTags.filter fun sh => shedOf s.pick < sh + 64).length →
          t.portState p = 8 ∧ (t.port p).retryAt = s.pick + 7812500 ∧ (t.port p).backoff = 1) ∧
        SameWork s t) ∧
    (∀ m, slotsRun s p = true → s.portState p ≠ 8 → slotTagOk s p m = true → (∀ n, (s.port p).rxTxn = some n → n < m.hdr.txn.toNat) →
      m.recs = [] → m.msgs = [] → m.time = {} → m.hash = none → s.fpWait = none → s.res.cap = none →
      (m.hdr.empty = true → Answers (.slotReceive p m) s fun t =>
        (t.port p).rxTxn = some m.hdr.txn.toNat ∧ (t.port p).lack = m.hdr.pick.toNat ∧ (t.port p).heard = s.pick ∧
        (t.port p).kept = (s.port p).kept.filter (fun x => x.hdr.pick != m.lack) ∧ t.portState p = s.portState p ∧
        (∀ q, q ≠ p → t.port q = s.port q) ∧ SameRegsBut [Reg.WVN_FEC p, Reg.WVN_MISSED p] s t ∧ SameWork s t) ∧
      (∀ f x flow len timeout tseq dst cdl got bs, InFlight s x → s.inService p = true → m.hdr.empty = false → m.hdr.flow.toNat = flow →
        flowEntry s flow = some f → f.inPort = p ∨ f.altIn = p → f.catcher = true → f.catchLoom ≠ 127 → f.transit = false →
        m.hdr.seq.toNat = (s.flowSt flow).expect → (s.flowSt flow).ahead = [] → m.hdr.first = false → s.pick ≤ m.hdr.cdl.toNat →
        (s.flowSt flow).cur = some x.id → x.phase = .catching flow len timeout tseq dst cdl got →
        bs = ((openPayload s p m).take m.hdr.valid.toNat).take (len - got) → Answers (.slotReceive p m) s fun t =>
          (∀ a, t.byte a = (s.store (bs.zipIdx.map fun (b, k) => { addr := entryAddr dst.w0 (got + k), mask := 0xFF, val := b })).byte a) ∧
          t.cmd? x.id = some { x with
            phase := .catching flow len timeout m.hdr.tseq.toNat dst (some m.hdr.cdl.toNat) (got + bs.length) } ∧
          (t.flowSt flow).expect = (m.hdr.seq.toNat + 1) % 2 ^ 32 ∧ (t.port p).lack = m.hdr.pick.toNat ∧
          SameRegsBut [Reg.WVN_FEC p, Reg.WVN_MISSED p] s t ∧ t.descs = s.descs ∧ t.streams = s.streams)) ∧
    (∀ x rest sc, (s.port p).kept = x :: rest → s.wvn.active = some sc → s.inService p = true → x.hdr.pick.toNat + 32 ≤ s.pick →
      Answers (.slotRetransmit p) s fun t =>
        t.port p = (match freeSlot s sc p x.hdr.flow.toNat x.hdr.detour with
          | some q => if x.hdr.detour then { s.port p with kept := rest, standby := (s.port p).standby ++ [(q, x)] }
            else { s.port p with kept := rest, due := (s.port p).due ++ [(q, x)] }
          | none => { s.port p with kept := rest }) ∧
        (∀ r, r ≠ p → t.port r = s.port r) ∧ SameRegsBut [] s t ∧ SameWork s t)

/-- Ports: a lane whose errors fail it, on a port that carries cells, agrees on a spare switch, which maps it to lane 8, and a second one makes
the port FAULTY (R312); training leads to AUTH (R428), a handshake that succeeds sets keys and the partner's identity, one that fails
quarantines the port (R339); a partner judged so takes a port to ABSENT, SLOW, FAULTY or QUARANTINED (R336); an ABSENT port retries
training every second; a quarantined port authenticates again after its wait, which doubles at each failure up to 1,024 s; RESTORE sends an
ABSENT, SLOW or FAULTY port back to training and clears QTRIES (R336 to R338); REKEY agrees on new keys and their shed, and in that
shed the keys change, TXN runs from 0 and ENCRYPT takes effect (R340, R341). The model's readings: what the keys are made of beside the secret
(log entry 51), that the port shows AUTH after a handshake or another authentication until it enters service (log entry 38), and that it
carries cells once it has its keys (log entry 35). -/
def Obligations.PortsTrainAuthenticateAndLeave : Prop :=
  ∀ (s : State) (p : Nat), s.boot.on = true → p < 18 → p < s.nPorts →
    (∀ lane shed, lane < 8 → lanesWatched s p = false → Completes (.laneFail p lane shed) s s) ∧
    (∀ lane shed, lane < 8 → lanesWatched s p = true →
      ((s.port p).laneFailed lane = false → Completes (.laneFail p lane shed) s s) ∧
      ((s.port p).laneFailed lane = true → s.flag (Reg.WVN_PSTAT_SPARE_USED p) = true → Answers (.laneFail p lane shed) s fun t =>
        t.portState p = 6 ∧ SameWork s t) ∧
      ((s.port p).laneFailed lane = true → s.flag (Reg.WVN_PSTAT_SPARE_USED p) = false →
        ((s.port p).laneSwitch = none → shedOf s.pick + 2 ≤ shed → Answers (.laneFail p lane shed) s fun t =>
          t.port p = { s.port p with
            laneSwitch := some (lane, shed)
            msgs := (s.port p).msgs ++ [.laneSwitch (BitVec.ofNat 4 lane) (BitVec.ofNat 48 shed)] } ∧
          (∀ q, q ≠ p → t.port q = s.port q) ∧ SameRegsBut [] s t ∧ SameWork s t) ∧
        (∀ l sh, (s.port p).laneSwitch = some (l, sh) → l ≠ lane → Answers (.laneFail p lane shed) s fun t =>
          t.portState p = 6 ∧ SameWork s t) ∧
        (∀ sh, (s.port p).laneSwitch = some (lane, sh) → Completes (.laneFail p lane shed) s s))) ∧
    (∀ lane shed, lane < 8 → (s.port p).laneSwitch = some (lane, shed) → shed ≤ shedOf s.pick → Answers (.laneSpareSwitch p) s fun t =>
      t.fld (Reg.WVN_LANEMAP_PHYS p lane) = 8 ∧ t.fld (Reg.WVN_PSTAT_SPARED p) = lane ∧ t.flag (Reg.WVN_PSTAT_SPARE_USED p) = true ∧
      t.portState p = s.portState p ∧ (t.port p).laneSwitch = none ∧ (t.port p).laneFailed lane = false ∧
      SameRegsBut [Reg.WVN_LANEMAP p, Reg.WVN_PSTAT p] s t ∧ SameWork s t) ∧
    (∀ delay, s.portState p = 1 → Answers (.portTrainingComplete p delay) s fun t =>
      (t.port p).keyed = false ∧ t.outbox = s.outbox ++ [.handshake p 0 (leBytes 16 s.ident ++ leBytes 1 p)] ∧
      OnlyFields [(Reg.WVN_PSTAT_STATE p, 2), (Reg.WVN_PDELAY_NS p, delay.toNat),
        (Reg.WVN_PSTAT_LANES p, if s.flag (Reg.WVN_PSTAT_SPARE_USED p) then s.fld (Reg.WVN_PSTAT_LANES p) else 0xFF)] s t) ∧
    (∀ h, s.portState p = 2 → (s.port p).keyed = false →
      (∀ k, handshakeFault s p h = none → k = linkKeys h.secret.toNat (transcript s h) → Answers (.authHandshake p h) s fun t =>
        (t.port p).keyed = true ∧ (t.port p).txn = 0 ∧ (t.port p).rxTxn = none ∧ (t.port p).pendingCheck = true ∧ t.portState p = 2 ∧
        (if s.ident < h.ident.toNat then (t.port p).txKey = k.1 ∧ (t.port p).rxKey = k.2
          else (t.port p).txKey = k.2 ∧ (t.port p).rxKey = k.1) ∧
        t.fld (Reg.WVN_NBR_LO_ID p) + 2 ^ 64 * t.fld (Reg.WVN_NBR_HI_ID p) = h.ident.toNat ∧
        t.fld (Reg.WVN_NBR_PORT_PORT p) = h.port.toNat ∧
        t.fld (Reg.WVN_PSTAT_ENCRYPTED p) = s.fld (Reg.WVN_PCTL_ENCRYPT p) ∧ SameWork s t) ∧
      (∀ n, handshakeFault s p h = some n → Answers (.authHandshake p h) s fun t =>
        t.portState p = 8 ∧ (t.port p).keyed = false ∧ (t.port p).retryAt = s.pick + 7812500 ∧ (t.port p).backoff = 1 ∧ SameWork s t)) ∧
    (∀ why,
      (judgedSo s p why = true → Answers (.portQuarantined p why) s fun t =>
        t.portState p = (match why with | .absent => 4 | .slow => 5 | .faulty => 6 | .hostile => 8) ∧
        (s.inService p = true → (t.port p).kept = [] ∧ (t.port p).leftAt = if (s.port p).sent.any (fun y => y.1 == s.pick) = true then s.pick + 1 else s.pick) ∧
        (why = .absent → (t.port p).retryAt = s.pick + 7812500) ∧
        (why = .hostile → (t.port p).retryAt = s.pick + 7812500 ∧ (t.port p).backoff = 1) ∧ SameWork s t) ∧
      (judgedSo s p why = false → Completes (.portQuarantined p why) s s)) ∧
    (∀ h, s.portState p = 8 → (s.port p).retryAt ≤ s.pick →
      (handshakeFault s p h = none → Answers (.reauthRetry p h) s fun t => t.portState p = 2 ∧ (t.port p).keyed = true ∧ SameWork s t) ∧
      (∀ n, handshakeFault s p h = some n → Answers (.reauthRetry p h) s fun t =>
        t.portState p = 8 ∧ (t.port p).backoff = min 1024 (2 * max 1 (s.port p).backoff) ∧
        (t.port p).retryAt = s.pick + (t.port p).backoff * 7812500 ∧ SameWork s t)) ∧
    (s.portState p = 4 → (s.port p).retryAt ≤ s.pick →
      Answers (.absentRetry p none) s (fun t => t.port p = { s.port p with retryAt := s.pick + 7812500 } ∧ NoFields s t) ∧
      ∀ d, Answers (.absentRetry p (some d)) s fun t =>
        t.portState p = 2 ∧ t.fld (Reg.WVN_PDELAY_NS p) = d.toNat ∧ (t.port p).keyed = false ∧ SameWork s t) ∧
    (Reaches s (Reg.WVN_PCTL p) →
      (s.portState p = 4 ∨ s.portState p = 5 ∨ s.portState p = 6 → Answers (.portRestore p) s fun t =>
        (t.port p).keyed = false ∧ (t.port p).trainAt = s.pick ∧ OnlyFields [(Reg.WVN_QUAR_QTRIES p, 0), (Reg.WVN_PSTAT_STATE p, 1)] s t) ∧
      (¬ (s.portState p = 4 ∨ s.portState p = 5 ∨ s.portState p = 6) → Answers (.portRestore p) s fun t =>
        t.wvn = s.wvn ∧ OnlyFields [(Reg.WVN_QUAR_QTRIES p, 0)] s t)) ∧
    (∀ k : KeyChange, k.port = p → (s.port p).keyed = true →
      ((s.port p).newKeys = none → (s.port p).keyShed + 262144 ≤ shedOf s.pick → shedOf s.pick < k.shed.toNat → Answers (.rekey k) s fun t =>
        (∃ tx rx, (t.port p).newKeys = some (k.shed.toNat, tx, rx)) ∧ (t.port p).txKey = (s.port p).txKey ∧
        (t.port p).rxKey = (s.port p).rxKey ∧ (t.port p).txn = (s.port p).txn ∧ LinkMsg.keyShed k.shed ∈ (t.port p).msgs ∧
        NoFields s t) ∧
      (∀ at_ tx rx, (s.port p).newKeys = some (at_, tx, rx) → at_ ≤ shedOf s.pick → Answers (.rekey k) s fun t =>
        t.port p = { s.port p with txKey := tx, rxKey := rx, newKeys := none, txn := 0, rxTxn := none, keyShed := shedOf s.pick } ∧
        OnlyFields [(Reg.WVN_PSTAT_ENCRYPTED p, s.fld (Reg.WVN_PCTL_ENCRYPT p))] s t))

/-- SCHEDULE_CHECK compares an authenticated port with the active schedule: on a bolt hash, a neighbour or a HOPOFF that does not match the
port is in MISMATCH, else it passes and enters service at the next shed boundary (R321, R322). SCHED_SEL requests a switch to a schedule of the image two
or more sheds ahead while no throw is in flight, and is ignored otherwise; the switch makes that schedule active (R323). -/
def Obligations.SchedulesAreCheckedAndSwitched : Prop :=
  ∀ (s : State), s.boot.on = true →
    (∀ p sc hash, p < 18 → p < s.nPorts → s.wvn.active = some sc → s.portState p = 2 → (s.port p).keyed = true →
      (s.port p).pendingCheck = true → (s.port p).partnerHash = none ∨ (s.port p).partnerHash = some hash →
      (hash ≠ sc.hash → Answers (.scheduleCheck p hash) s fun t => t.portState p = 7 ∧ (t.port p).passed = none ∧
        (t.port p).hashMis = true ∧ (t.port p).pendingCheck = false ∧ SameWork s t) ∧
      (hash = sc.hash → neighbourOk s sc p = false ∨ hopoffOk s sc p = false → Answers (.scheduleCheck p hash) s fun t =>
        t.portState p = 7 ∧ (t.port p).passed = none ∧ (t.port p).hashMis = false ∧ SameWork s t) ∧
      (hash = sc.hash → neighbourOk s sc p = true → hopoffOk s sc p = true → Answers (.scheduleCheck p hash) s fun t =>
        (t.port p).passed = some (shedOf s.pick) ∧ (t.port p).partnerHash = some hash ∧ (t.port p).pendingCheck = false ∧
        NoFields s t)) ∧
    (∀ (sel : BitVec 2) (shed : BitVec 48), Reaches s Reg.WVN_SCHED_SEL →
      (s.wvn.schedules.any (·.index == sel.toNat) = true → shedOf s.pick + 2 ≤ shed.toNat → fabricBusy s = false →
        Answers (.schedSel sel shed) s (OnlyFields [(Reg.WVN_SCHED_SEL_SEL, sel.toNat), (Reg.WVN_SCHED_SEL_SHED, shed.toNat),
          (Reg.WVN_WVN_STAT_SWITCHING, 1)] s)) ∧
      (s.wvn.schedules.any (·.index == sel.toNat) = false ∨ shed.toNat < shedOf s.pick + 2 ∨ fabricBusy s = true →
        Completes (.schedSel sel shed) s (s.advise 0x0103))) ∧
    (∀ sc, s.flag Reg.WVN_WVN_STAT_SWITCHING = true → s.fld Reg.WVN_SCHED_SEL_SHED ≤ shedOf s.pick →
      s.wvn.schedules.find? (fun y => y.index == s.fld Reg.WVN_SCHED_SEL_SEL) = some sc → Answers .scheduleSwitch s fun t =>
        t.wvn.active = some sc ∧ t.fld Reg.WVN_WVN_STAT_SCHED = sc.index % 4 ∧ t.flag Reg.WVN_WVN_STAT_SWITCHING = false ∧
        (∀ w, w < 4 → t.reg (Reg.WVN_BOLT_HASH w) = BitVec.ofNat 64 (sc.hash.toNat >>> (64 * w))) ∧
        SameRegsBut (Reg.WVN_WVN_STAT :: (List.range 4).map Reg.WVN_BOLT_HASH) s t ∧ SameWork s t)

/-! ### Host ports -/

/-- RoCE traffic that arrives at a host port for a queue pair bound to it: an RDMA WRITE that is next in sequence and passes every
check is written packet by packet and acknowledged with its last one; one that fails a check is answered by NAK, changes no memory and
moves the queue pair to ERROR; a packet ahead of the sequence is answered by one NAK for its gap, a WRITE received again only by its
acknowledgement; a READ is answered with the bytes of memory, one received again after its check alike; a packet of registers whose loom
waits for a remap waits with every later packet of its queue pair, and a READ above the limits that would wait is answered by NAK (R23,
R347, R358); a packet marked by congestion is answered by a CNP; a packet with a bad ICRC, or too large a frame, is counted and dropped
(R346 to R358). The NAK codes, the half window of sequence numbers and the ACK for the last packet alone are the model's choices (log entry
39), and so is that a packet which waits already is dropped (log entry 58). -/
def Obligations.RoceRequestsAreCheckedAndPerformed : Prop :=
  ∀ (s : State) (port q : Nat) (p : RocePkt), s.boot.on = true → port < 4 →
    (s.host.live = false ∨ 4352 < p.frameLen ∨ 1 < p.tags → Answers (.roceWriteReceive port p) s
      (OnlyFields [(Reg.HOST_HPCNT2_DROPPED port, min (s.fld (Reg.HOST_HPCNT2_DROPPED port) + 1) (2 ^ 16 - 1))] s)) ∧
    (s.host.live = true → p.frameLen ≤ 4352 → p.tags ≤ 1 → pfcHolds s q = false →
      (p.icrcOk = false → Answers (.roceWriteReceive port p) s fun t =>
        t.fld (Reg.HOST_HPCNT1_ICRC_ERR port) = min (s.fld (Reg.HOST_HPCNT1_ICRC_ERR port) + 1) (2 ^ 16 - 1) ∧ t.host = s.host ∧
        t.outbox = s.outbox ∧ SameRegsBut [Reg.HOST_HPCNT0 port, Reg.HOST_HPCNT1 port] s t ∧ SameWork s t) ∧
      (p.icrcOk = true → p.ecn = false → qpOf s port p.qpn.toNat = some q →
          packetsWait s q = true ∨ (packetOk s p = true ∧ packetStalls s q p = true) →
        ((∀ m g, .packet q m g ∈ s.res.stalled → m.psn ≠ p.psn) → p.op ≠ .readRequest ∨ readRoom s q = true →
          Answers (.roceReadRequest port p) s fun t =>
            t.res = { s.res with stalled := s.res.stalled ++ [.packet q p (!packetsWait s q && packetOk s p)] } ∧ t.host = s.host ∧
            t.outbox = s.outbox ∧ SameRegsBut [Reg.HOST_HPCNT0 port] s t ∧ SameWork s t) ∧
        ((∀ m g, .packet q m g ∈ s.res.stalled → m.psn ≠ p.psn) → p.op = .readRequest → readRoom s q = false → (s.qp q).ctx.length = 8 →
          s.fld Reg.RES_CK_STAT_PHASE ≠ 2 → Answers (.roceReadRequest port p) s fun t =>
            (t.qp q).state = 4 ∧ .roce (s.qp q).peer (.nak q p.psn.toNat 1) ∈ t.outbox ∧ packetsWait t q = false ∧
            (∀ r, r ≠ q → t.qp r = s.qp r) ∧ SameWork s t) ∧
        ((∃ m g, .packet q m g ∈ s.res.stalled ∧ m.psn = p.psn) → Answers (.roceReadRequest port p) s fun t =>
          t.res = s.res ∧ t.host = s.host ∧ t.outbox = s.outbox ∧ SameRegsBut [Reg.HOST_HPCNT0 port] s t ∧ SameWork s t)) ∧
      (p.icrcOk = true → p.ecn = false → qpOf s port p.qpn.toNat = some q → packetsWait s q = false → packetStalls s q p = false →
        (p.psn.toNat = (s.qp q).epsn → orderOk (s.qp q) p = true → p.va.toNat < ctlBase →
          (p.op = .writeOnly → accessOk s true p.va.toNat p.rkey.toNat p.len = true → p.va.toNat + p.len ≤ hbmEnd → s.res.ckpt = none →
            Answers (.roceWriteReceive port p) s fun t =>
            (∀ k, k < p.payload.length → t.byte (p.va.toNat + k) = p.payload.getD k 0) ∧
            SameMemoryBut p.va.toNat p.payload.length s t ∧ (t.qp q).epsn = ((s.qp q).epsn + 1) % 2 ^ 24 ∧ (t.qp q).cur = none ∧
            (t.qp q).ctx = (s.qp q).ctx ∧ t.outbox = s.outbox ++ [.roce (s.qp q).peer (.ack q p.psn.toNat)] ∧ (∀ r, r ≠ q → t.qp r = s.qp r) ∧
            SameRegsBut [Reg.HOST_HPCNT0 port] s t ∧ t.streams = s.streams ∧ t.cmds = s.cmds ∧ t.descs = s.descs) ∧
          (p.op = .writeFirst → accessOk s true p.va.toNat p.rkey.toNat p.len = true → p.va.toNat + p.len ≤ hbmEnd → s.res.ckpt = none →
            Answers (.roceWriteReceive port p) s fun t =>
            (∀ k, k < p.payload.length → t.byte (p.va.toNat + k) = p.payload.getD k 0) ∧
            SameMemoryBut p.va.toNat p.payload.length s t ∧ (t.qp q).epsn = ((s.qp q).epsn + 1) % 2 ^ 24 ∧
            (t.qp q).cur = some (p.va.toNat + p.payload.length, p.rkey.toNat, p.len - p.payload.length) ∧ t.outbox = s.outbox ∧
            (∀ r, r ≠ q → t.qp r = s.qp r) ∧ SameRegsBut [Reg.HOST_HPCNT0 port] s t ∧ t.streams = s.streams ∧ t.cmds = s.cmds) ∧
          (p.op = .writeOnly ∨ p.op = .writeFirst → accessOk s true p.va.toNat p.rkey.toNat p.len = false → (s.qp q).ctx.length = 8 →
            s.fld Reg.RES_CK_STAT_PHASE ≠ 2 → Answers (.roceWriteReceive port p) s fun t =>
            (t.qp q).state = 4 ∧ (t.qp q).out = [] ∧ .roce (s.qp q).peer (.nak q p.psn.toNat 2) ∈ t.outbox ∧
            t.fld (Reg.HOST_HPCNT2_DENIED port) = min (s.fld (Reg.HOST_HPCNT2_DENIED port) + 1) (2 ^ 16 - 1) ∧
            (∀ r, r ≠ q → t.qp r = s.qp r) ∧ SameWork s t)) ∧
        (∀ va key left, p.psn.toNat = (s.qp q).epsn → orderOk (s.qp q) p = true → (s.qp q).cur = some (va, key, left) → va < ctlBase →
          p.op = .writeMiddle ∨ p.op = .writeLast → va + p.payload.length ≤ hbmEnd → s.res.ckpt = none → Answers (.roceWriteReceive port p) s fun t =>
            (∀ k, k < p.payload.length → t.byte (va + k) = p.payload.getD k 0) ∧ SameMemoryBut va p.payload.length s t ∧
            (t.qp q).epsn = ((s.qp q).epsn + 1) % 2 ^ 24 ∧
            (t.qp q).cur = (if p.op = .writeLast then none else some (va + p.payload.length, key, left - p.payload.length)) ∧
            t.outbox = s.outbox ++ (if p.op = .writeLast then [.roce (s.qp q).peer (.ack q p.psn.toNat)] else []) ∧ (∀ r, r ≠ q → t.qp r = s.qp r) ∧
            SameRegsBut [Reg.HOST_HPCNT0 port, Reg.HOST_MR_STAT] s t ∧ t.streams = s.streams ∧ t.cmds = s.cmds) ∧
        (p.psn.toNat = (s.qp q).epsn → orderOk (s.qp q) p = false → (s.qp q).ctx.length = 8 → s.fld Reg.RES_CK_STAT_PHASE ≠ 2 →
          Answers (.roceWriteReceive port p) s fun t =>
          (t.qp q).state = 4 ∧ .roce (s.qp q).peer (.nak q p.psn.toNat 1) ∈ t.outbox ∧ (∀ r, r ≠ q → t.qp r = s.qp r) ∧ SameWork s t) ∧
        (∀ d, d = (p.psn.toNat + 2 ^ 24 - (s.qp q).epsn) % 2 ^ 24 →
          (d ≠ 0 → d < 2 ^ 23 → (s.qp q).gapNaked = false → Answers (.roceWriteReceive port p) s fun t =>
            t.qp q = { s.qp q with gapNaked := true } ∧ t.outbox = s.outbox ++ [.roce (s.qp q).peer (.nak q (s.qp q).epsn 0)] ∧ SameWork s t ∧
            SameRegsBut [Reg.HOST_HPCNT0 port, Reg.HOST_HPCNT1 port] s t) ∧
          (d ≠ 0 → d < 2 ^ 23 → (s.qp q).gapNaked = true → Answers (.roceWriteReceive port p) s fun t =>
            t.host = s.host ∧ t.outbox = s.outbox ∧ SameRegsBut [Reg.HOST_HPCNT0 port] s t ∧ SameWork s t) ∧
          (2 ^ 23 ≤ d → p.op = .writeOnly ∨ p.op = .writeLast → Answers (.roceWriteReceive port p) s fun t =>
            t.host = s.host ∧ t.outbox = s.outbox ++ [.roce (s.qp q).peer (.ack q p.psn.toNat)] ∧
            SameRegsBut [Reg.HOST_HPCNT0 port] s t ∧ SameWork s t) ∧
          (2 ^ 23 ≤ d → p.op = .readRequest → p.va.toNat < ctlBase → s.releasing = false →
            accessOk s false p.va.toNat p.rkey.toNat p.len = true → Answers (.roceReadRequest port p) s fun t => t.host = s.host ∧
              t.outbox = s.outbox ++ [.roce (s.qp q).peer (.readResponse q p.psn.toNat (s.readOut p.va.toNat p.len))] ∧
              SameRegsBut [Reg.HOST_HPCNT0 port] s t ∧ SameWork s t)) ∧
        (p.psn.toNat = (s.qp q).epsn → p.op = .readRequest → orderOk (s.qp q) p = true →
          (p.va.toNat < ctlBase → s.releasing = false → accessOk s false p.va.toNat p.rkey.toNat p.len = true →
            Answers (.roceReadRequest port p) s fun t =>
              t.outbox = s.outbox ++ [.roce (s.qp q).peer (.readResponse q p.psn.toNat (s.readOut p.va.toNat p.len))] ∧
              (t.qp q).epsn = ((s.qp q).epsn + max 1 (ceilDiv p.len (s.qp q).pmtu)) % 2 ^ 24 ∧ (∀ r, r ≠ q → t.qp r = s.qp r) ∧
              SameRegsBut [Reg.HOST_HPCNT0 port] s t ∧ SameWork s t) ∧
          (accessOk s false p.va.toNat p.rkey.toNat p.len = false → (s.qp q).ctx.length = 8 → s.fld Reg.RES_CK_STAT_PHASE ≠ 2 →
            Answers (.roceReadRequest port p) s fun t => (t.qp q).state = 4 ∧ .roce (s.qp q).peer (.nak q p.psn.toNat 2) ∈ t.outbox ∧
              t.fld (Reg.HOST_HPCNT2_DENIED port) = min (s.fld (Reg.HOST_HPCNT2_DENIED port) + 1) (2 ^ 16 - 1) ∧
              (∀ r, r ≠ q → t.qp r = s.qp r) ∧ SameWork s t))) ∧
      (∀ d, p.icrcOk = true → packetsWait s q = false → packetStalls s q p = false → p.ecn = true → s.flag (Reg.HOST_HPCFG_ECN_EN port) = true → qpOf s port p.qpn.toNat = some q →
        (∀ a, (s.qp q).cnpAt = some a → a + 391 ≤ s.pick) → d = (p.psn.toNat + 2 ^ 24 - (s.qp q).epsn) % 2 ^ 24 → d ≠ 0 → d < 2 ^ 23 →
        (s.qp q).gapNaked = true → Answers (.roceWriteReceive port p) s fun t =>
          t.outbox = s.outbox ++ [.roce (s.qp q).peer (.cnp q)] ∧ t.qp q = { s.qp q with cnpAt := some s.pick } ∧
          t.fld (Reg.HOST_HPCNT1_CNP_SENT port) = min (s.fld (Reg.HOST_HPCNT1_CNP_SENT port) + 1) (2 ^ 16 - 1) ∧ SameWork s t))

/-- A queue pair as requester: an ACK lets go of the packets up to its PSN, and one marked by congestion is answered by a CNP; a NAK of a
sequence error lets go of those before it and sends the others again; another NAK, and a timeout after RETRY attempts, move it to
ERROR; an earlier timeout sends everything unacknowledged again (R350, R351). A CNP sets its rate to what the configured parameters give, a
free function of the model (R351; log entry 14). Each new record of a mirrored ring goes out as an RDMA WRITE, or is counted as dropped when
its queue pair is not in RTS or has 256 records out, or when its ring no longer holds it (R360). A port answers for its own address,
drops and counts other frames, and pauses for priority flow control of its own priority, what waited going out when the pause ends;
HPSTAT LINK_UP follows the link (R345, R346). That NAK code 0 is a sequence error is presumed (log entry 39), and so is the length of a pause;
that a repeat after a NAK counts no try is the model's choice (log entry 58), and so is one record for each RECORD_MIRROR (log entry 40). -/
def Obligations.RequesterAndPortEvents : Prop :=
  ∀ (s : State), s.boot.on = true →
    (∀ (q : BitVec 14) (psn : BitVec 24) (a : RoceAck), (s.qp q.toNat).state = 3 → s.host.live = true →
      (a.nak = none → a.ecn = true → s.flag (Reg.HOST_HPCFG_ECN_EN (s.qp q.toNat).port) = true → pfcHolds s q.toNat = false →
        (∀ p, (s.qp q.toNat).cnpAt = some p → p + 391 ≤ s.pick) → (s.qp q.toNat).out = [] → Answers (.roceAckReceive q psn a) s fun t =>
          t.outbox = s.outbox ++ [.roce (s.qp q.toNat).peer (.cnp q.toNat)] ∧
          t.qp q.toNat = { s.qp q.toNat with cnpAt := some s.pick } ∧ SameWork s t) ∧
      (a.nak = none → a.ecn = false → (∀ r ∈ (s.qp q.toNat).out, r.kind ≠ .closing) → Answers (.roceAckReceive q psn a) s fun t =>
        t.qp q.toNat = { s.qp q.toNat with
          out := ((s.qp q.toNat).out.filter fun r => !r.covered psn.toNat).map (·.ackedTo psn.toNat) } ∧
        (∀ r ∈ (s.qp q.toNat).out, ∀ g, r.kind = .granule g → r.covered psn.toNat = true → smGet (fun _ => false) t.host.acked g = true) ∧
        (∀ r, r ≠ q.toNat → t.qp r = s.qp r) ∧ SameRegsBut [Reg.HOST_HPCNT0 (s.qp q.toNat).port] s t ∧ SameWork s t) ∧
      (∀ left m, a.nak = some 0 → a.ecn = false → (∀ r ∈ (s.qp q.toNat).out, r.kind ≠ .closing) → pfcHolds s q.toNat = false →
        m = (psn.toNat + 2 ^ 24 - 1) % 2 ^ 24 → left = ((s.qp q.toNat).out.filter fun r => !r.covered m).map (·.ackedTo m) →
        Answers (.roceAckReceive q psn a) s fun t =>
          (t.qp q.toNat).out = left.map (fun y => { y with sentAt := s.pick }) ∧ (t.qp q.toNat).state = 3 ∧
          t.outbox = s.outbox ++ left.map (fun y => .roce (s.qp q.toNat).peer (.resend q.toNat y.first)) ∧ SameWork s t) ∧
      (∀ k, a.nak = some k → k ≠ 0 → a.ecn = false → (s.qp q.toNat).ctx.length = 8 → s.fld Reg.RES_CK_STAT_PHASE ≠ 2 →
        Answers (.roceAckReceive q psn a) s fun t => (t.qp q.toNat).state = 4 ∧ (t.qp q.toNat).out = [] ∧ SameWork s t)) ∧
    (∀ (q : BitVec 14), s.host.live = true →
      Answers (.cnpReceive q) s fun t =>
        t.qp q.toNat = { s.qp q.toNat with rate := Config.cnpRate (s.qp q.toNat).rate s.host.rateParam } ∧
        t.fld (Reg.HOST_HPCNT1_CNP_RCVD (s.qp q.toNat).port) =
          min (s.fld (Reg.HOST_HPCNT1_CNP_RCVD (s.qp q.toNat).port) + 1) (2 ^ 16 - 1) ∧
        (∀ r, r ≠ q.toNat → t.qp r = s.qp r) ∧ SameWork s t) ∧
    (∀ (q : BitVec 14) r rest, (s.qp q.toNat).out = r :: rest → (s.qp q.toNat).state = 3 →
      r.sentAt + 32 * 2 ^ bitsOf ((s.qp q.toNat).ctx.getD 0 0).toNat 15 11 ≤ s.pick →
      (bitsOf ((s.qp q.toNat).ctx.getD 0 0).toNat 10 8 ≤ r.tries → (s.qp q.toNat).ctx.length = 8 → s.fld Reg.RES_CK_STAT_PHASE ≠ 2 →
        Answers (.roceAckTimeout q) s fun t => (t.qp q.toNat).state = 4 ∧ (t.qp q.toNat).out = [] ∧ SameWork s t) ∧
      (r.tries < bitsOf ((s.qp q.toNat).ctx.getD 0 0).toNat 10 8 → pfcHolds s q.toNat = false → Answers (.roceAckTimeout q) s fun t =>
        (t.qp q.toNat).out = { r with sentAt := s.pick, tries := r.tries + 1 } :: rest.map (fun y => { y with sentAt := s.pick }) ∧
        (t.qp q.toNat).state = 3 ∧ t.outbox = s.outbox ++ (r :: rest).map (fun y => .roce (s.qp q.toNat).peer (.resend q.toNat y.first)) ∧ SameWork s t)) ∧
    (∀ (m : BitVec 6) n q wptr base log2n size, mirrorSource s m.toNat = some (wptr, base, log2n, size) →
      q = s.fld (Reg.HOST_MIR_SRC_QP m.toNat) → n = smGet (fun _ => 0) s.host.mirNext m.toNat → n ≠ wptr →
      ((s.qp q).state = 3 → mirrorsOut (s.qp q) < 256 → (wptr + 2 ^ 32 - n) % 2 ^ 32 ≤ 2 ^ log2n → pfcHolds s q = false →
        Answers (.recordMirror m) s fun t =>
        t.outbox = s.outbox ++ [.roce (s.qp q).peer (.rdmaWrite q (s.qp q).spsn
          ((s.reg (Reg.HOST_MIR_ADDR m.toNat)).toNat + size * (n % 2 ^ s.fld (Reg.HOST_MIR_SRC_LOG2N m.toNat)))
          (s.fld (Reg.HOST_MIR_KEY_RKEY m.toNat)) (s.readOut (base + size * (n % 2 ^ log2n)) size))] ∧
        smGet (fun _ => 0) t.host.mirNext m.toNat = (n + 1) % 2 ^ 32 ∧ SameRegsBut [Reg.HOST_HPCNT0 (s.qp q).port] s t ∧ SameWork s t) ∧
      ((s.qp q).state ≠ 3 ∨ 256 ≤ mirrorsOut (s.qp q) ∨ 2 ^ log2n < (wptr + 2 ^ 32 - n) % 2 ^ 32 → Answers (.recordMirror m) s fun t =>
        t.fld (Reg.HOST_MIR_DROPS_DROPS m.toNat) = min (s.fld (Reg.HOST_MIR_DROPS_DROPS m.toNat) + 1) (2 ^ 32 - 1) ∧
        t.outbox = s.outbox ∧ smGet (fun _ => 0) t.host.mirNext m.toNat = (n + 1) % 2 ^ 32 ∧
        SameRegsBut [Reg.HOST_MIR_DROPS m.toNat] s t ∧ SameWork s t)) ∧
    (∀ port, port < 4 →
      (∀ target : BitVec 128, target.toNat = portGid s port → Answers (.neighbourSolicitation port target) s fun t =>
        t.outbox = s.outbox ++ [.neighbour port] ∧ NoFields s t) ∧
      (∀ target : BitVec 128, target.toNat ≠ portGid s port → Answers (.neighbourSolicitation port target) s
        (OnlyFields [(Reg.HOST_HPCNT2_DROPPED port, min (s.fld (Reg.HOST_HPCNT2_DROPPED port) + 1) (2 ^ 16 - 1))] s)) ∧
      (∀ f : OtherFrame, f.port = port →
        (∀ prio quanta, f.pause = some (prio, quanta) → s.flag (Reg.HOST_HPCFG_PFC_EN port) = true →
          s.fld (Reg.HOST_HPCFG_PFC_PRIO port) = prio.toNat →
          (s.host.paused = [] → Answers (.frameDrop f) s fun t =>
            smGet (fun _ => 0) t.host.pausedTo (8 * port + prio.toNat) = s.pick + ceilDiv quanta.toNat 200 ∧ t.host.qps = s.host.qps ∧
            NoFields s t) ∧
          (quanta = 0 → (∀ h ∈ s.host.paused, h.port = port ∧ h.prio = prio.toNat) → Answers (.frameDrop f) s fun t =>
            t.host.paused = [] ∧ t.outbox = s.outbox ++ s.host.paused.map (·.msg) ∧ t.host.qps = s.host.qps ∧ SameWork s t)) ∧
        (f.pause = none ∨ s.flag (Reg.HOST_HPCFG_PFC_EN port) = false ∨
            (∃ prio quanta, f.pause = some (prio, quanta) ∧ s.fld (Reg.HOST_HPCFG_PFC_PRIO port) ≠ prio.toNat) → Answers (.frameDrop f) s
          (OnlyFields [(Reg.HOST_HPCNT2_DROPPED port, min (s.fld (Reg.HOST_HPCNT2_DROPPED port) + 1) (2 ^ 16 - 1))] s))) ∧
      ∀ up, Answers (.hostPortLinkUp port up) s (OnlyFields [(Reg.HOST_HPSTAT_LINK_UP port, if up then 1 else 0)] s))

/-- QP_CMD and MR_CMD: MODIFY takes the staged context over when its fields are in range and its transition is one that R348 allows,
and is refused with its reason otherwise; QUERY copies the context out; RESET returns the queue pair to RESET and discards its requests, as
does ERROR; a region is committed
when it lies wholly in HBM or, in whole words, in the control window, and refused otherwise; INVALIDATE removes it at once where no
request uses it (R348, R349, R353, R365). The model's readings: the transitions at which RPSN and SPSN are taken, what QUERY returns and when
INVALIDATE is complete (log entry 40), and that RESET and ERROR drop the packets that wait and the messages that a pause holds (log entry
58). -/
def Obligations.QueuePairsAndRegions : Prop :=
  ∀ (s : State),
    (∀ (q : BitVec 14) ws next, Reaches s Reg.HOST_QP_CMD → ws = s.qpStage → next = bitsOf (ws.getD 0 0).toNat 2 0 →
      (qpFieldsOk ws = false → Answers (.qpModify q) s fun t => t.host = s.host ∧
        OnlyFields [(Reg.HOST_QP_STAT_INDEX, q.toNat), (Reg.HOST_QP_STAT_DONE, 1), (Reg.HOST_QP_STAT_REFUSED, 1),
          (Reg.HOST_QP_STAT_REASON, 1)] s t) ∧
      (qpFieldsOk ws = true → qpMoveOk (s.qp q.toNat).state next = false → Answers (.qpModify q) s fun t => t.host = s.host ∧
        OnlyFields [(Reg.HOST_QP_STAT_INDEX, q.toNat), (Reg.HOST_QP_STAT_DONE, 1), (Reg.HOST_QP_STAT_REFUSED, 1),
          (Reg.HOST_QP_STAT_REASON, 2)] s t) ∧
      (qpFieldsOk ws = true → qpMoveOk (s.qp q.toNat).state next = true → next ≠ 4 → Answers (.qpModify q) s fun t =>
        (t.qp q.toNat).ctx = ws ∧ (t.qp q.toNat).state = next ∧
        (next = 2 → (t.qp q.toNat).epsn = bitsOf (ws.getD 2 0).toNat 47 24) ∧
        (next = 3 → (s.qp q.toNat).state = 2 → (t.qp q.toNat).spsn = bitsOf (ws.getD 2 0).toNat 23 0) ∧
        (∀ r, r ≠ q.toNat → t.qp r = s.qp r) ∧
        OnlyFields [(Reg.HOST_QP_STAT_INDEX, q.toNat), (Reg.HOST_QP_STAT_DONE, 1), (Reg.HOST_QP_STAT_REFUSED, 0),
          (Reg.HOST_QP_STAT_REASON, 0)] s t) ∧
      (qpFieldsOk ws = true → next = 4 → s.fld Reg.RES_CK_STAT_PHASE ≠ 2 → Answers (.qpModify q) s fun t =>
        (t.qp q.toNat).state = 4 ∧ (t.qp q.toNat).out = [] ∧ (t.qp q.toNat).cur = none ∧ (∀ r, r ≠ q.toNat → t.qp r = s.qp r) ∧
        packetsWait t q.toNat = false ∧
        (∀ h ∈ t.host.paused, ∀ peer psn va key bs, h.qp = q.toNat → h.msg ≠ .roce peer (.rdmaWrite q.toNat psn va key bs)) ∧
        SameRegsBut [Reg.HOST_QP_STAT, Reg.HOST_MR_STAT] s t ∧ SameWork s t)) ∧
    (∀ (q : BitVec 14), Reaches s Reg.HOST_QP_CMD → (s.qp q.toNat).ctx.length = 8 →
      Answers (.qpQuery q) s (fun t => (∀ w, w < 8 → t.reg (Reg.HOST_QP_STAGE w) = (s.qp q.toNat).ctx.getD w 0) ∧ t.host = s.host ∧
        SameRegsBut (Reg.HOST_QP_STAT :: (List.range 8).map Reg.HOST_QP_STAGE) s t ∧ SameWork s t) ∧
      (s.fld Reg.RES_CK_STAT_PHASE ≠ 2 → Answers (.qpReset q) s fun t =>
        (t.qp q.toNat).state = 0 ∧ (t.qp q.toNat).out = [] ∧ (t.qp q.toNat).cur = none ∧ packetsWait t q.toNat = false ∧
        (∀ h ∈ t.host.paused, h.qp ≠ q.toNat) ∧
        (∀ r, r ≠ q.toNat → t.qp r = s.qp r) ∧ SameRegsBut [Reg.HOST_QP_STAT, Reg.HOST_MR_STAT] s t ∧ SameWork s t)) ∧
    (∀ (i : BitVec 8) base len, Reaches s Reg.HOST_MR_CMD → s.flag Reg.HOST_MR_STAT_DONE = true →
      base = (s.reg Reg.HOST_MR_STAGE0).toNat → len = s.fld Reg.HOST_MR_STAGE1_LEN →
      (len ≠ 0 → (base + len ≤ hbmEnd ∨ (ctlBase ≤ base ∧ base + len ≤ ctlBase + 2 ^ 28 ∧ base % 8 = 0 ∧ len % 8 = 0)) →
        Answers (.mrCommit i) s fun t =>
          t.region i.toNat = some { base := base, len := len, key := s.fld Reg.HOST_MR_STAGE2_KEY
                                    read := s.flag Reg.HOST_MR_STAGE2_RREAD, write := s.flag Reg.HOST_MR_STAGE2_RWRITE } ∧
          (∀ j, j ≠ i.toNat → t.region j = s.region j) ∧ t.host.qps = s.host.qps ∧
          OnlyFields [(Reg.HOST_MR_STAT_INDEX, i.toNat), (Reg.HOST_MR_STAT_DONE, 1), (Reg.HOST_MR_STAT_REFUSED, 0)] s t) ∧
      (len = 0 ∨ (hbmEnd < base + len ∧ base < ctlBase) → Answers (.mrCommit i) s fun t => t.host = s.host ∧
          OnlyFields [(Reg.HOST_MR_STAT_INDEX, i.toNat), (Reg.HOST_MR_STAT_DONE, 1), (Reg.HOST_MR_STAT_REFUSED, 1)] s t) ∧
      ((∀ x ∈ s.host.qps, ∀ a key n, x.2.cur = some (a, key, n) → key % 256 ≠ i.toNat) →
        (∀ q p, .packet q p true ∈ s.res.stalled → p.rkey.toNat % 256 ≠ i.toNat) → Answers (.mrInvalidate i) s fun t =>
          t.region i.toNat = none ∧ (∀ j, j ≠ i.toNat → t.region j = s.region j) ∧ t.flag Reg.HOST_MR_STAT_DONE = true ∧
          SameRegsBut [Reg.HOST_MR_STAT] s t ∧ SameWork s t) ∧
      ((∃ x ∈ s.host.qps, ∃ a key n, x.2.cur = some (a, key, n) ∧ key % 256 = i.toNat) ∨
          (∃ q p, .packet q p true ∈ s.res.stalled ∧ p.rkey.toNat % 256 = i.toNat) → Answers (.mrInvalidate i) s fun t =>
          t.region i.toNat = none ∧ t.flag Reg.HOST_MR_STAT_DONE = false ∧ SameRegsBut [Reg.HOST_MR_STAT] s t ∧ SameWork s t))

/-! ### Resilience -/

/-- Votes (R371 to R377): a VOTE at its pick latches the exclusive or of the dies' tallies and its step, clears the tallies and
counts; it is held before its pick, and rejected when an earlier command has not retired by then. A sole replica's vote is decided at
once; any other waits for its gather of the members' records, which starts 32 picks after its pick, and faults where REP_RANK is no rank of a
member (R332). Votes in flight of several streams are decided each by its own gather. No decision comes before its start; one
that agrees retires the VOTE, one that expels this member, or finds no majority, sets EXPELLED or VOTE_HOLD, one that expels another
leaves both, and an invalid record of this member gives RESULT 6; a failed gather, or one not over by its deadline, faults the VOTE.
REJOIN clears both after a restore, and is ignored otherwise. -/
def Obligations.VotesAreLatchedAndDecided : Prop :=
  ∀ (s : State),
    (∀ src f c i, c = .ckptVote f → i = directCtx src c s → Takes src c s →
      (s.pick < ckptPick i f → Answers (.ckptVote src f) s fun t =>
        (t.stream src.loom src.stream).state = .held ∧ (t.stream src.loom src.stream).queue ≠ [] ∧ t.cmds = s.cmds ∧ IssueFrame src s t) ∧
      (ckptPick i f ≤ s.pick → s.cmdsOf src.loom src.stream = [] → s.fld Reg.RES_CK_STAT_PHASE ≠ 1 →
        s.fld Reg.RES_VOTE_CFG_NREP = 1 → Answers (.ckptVote src f) s fun t =>
          (∀ x ∈ t.cmds, x ∈ s.cmds) ∧ (∀ v ∈ t.res.votes, v ∈ s.res.votes) ∧
          t.fld Reg.RES_VOTE_RES_RESULT = (if latchInvalid s (i.step s) (deviceTally s) then 6 else 1) ∧
          t.reg Reg.RES_VOTE_STEP = BitVec.ofNat 64 (i.step s) ∧ t.reg Reg.RES_VOTE_DT_LO = BitVec.ofNat 64 (deviceTally s).1 ∧
          t.reg Reg.RES_VOTE_DT_HI = BitVec.ofNat 64 (deviceTally s).2 ∧
          (∀ d, d < 4 → t.reg (Reg.FUL_TALLY_ACC_LO d) = 0 ∧ t.reg (Reg.FUL_TALLY_ACC_HI d) = 0) ∧
          t.fld Reg.RES_VOTES_COUNT = (s.fld Reg.RES_VOTES_COUNT + 1) % 2 ^ 32 ∧ SameMemory s t ∧ t.descs = s.descs) ∧
      (∀ d, ckptPick i f ≤ s.pick → s.cmdsOf src.loom src.stream = [] → s.fld Reg.RES_CK_STAT_PHASE ≠ 1 →
        s.fld Reg.RES_VOTE_CFG_NREP ≠ 1 → s.fld Reg.RES_VOTE_CFG_REP_RANK < s.fld Reg.RES_VOTE_CFG_NREP →
        voteDeadline s (ckptPick i f) = some d → s.pick ≤ ckptPick i f + 16 →
        Answers (.ckptVote src f) s fun t =>
          Issued src c s t (fun x => x.phase = .own ∧ x.plan = {} ∧ ∃ v, t.res.votes = s.res.votes ++ [v] ∧ v.cmd = x.id ∧
            v.gather.start = ckptPick i f + 32 ∧ v.gather.deadline = d ∧ v.gather.rank = s.fld Reg.RES_VOTE_CFG_REP_RANK ∧
            v.gather.record = voteBytes (v.vstep, v.lo, v.hi, v.invalid) ∧
            v.invalid = latchInvalid s (i.step s) (deviceTally s) ∧
            v.lo = (List.range 4).foldl (fun n d => n ^^^ (s.reg (Reg.FUL_TALLY_ACC_LO d)).toNat) 0 ∧
            v.hi = (List.range 4).foldl (fun n d => n ^^^ (s.reg (Reg.FUL_TALLY_ACC_HI d)).toNat) 0 ∧
            v.vstep = i.step s) ∧
          (∀ d, d < 4 → t.reg (Reg.FUL_TALLY_ACC_LO d) = 0 ∧ t.reg (Reg.FUL_TALLY_ACC_HI d) = 0) ∧
          t.fld Reg.RES_VOTES_COUNT = (s.fld Reg.RES_VOTES_COUNT + 1) % 2 ^ 32 ∧ SameMemory s t ∧ t.descs = s.descs ∧
          SameStreamsBut src.loom src.stream s t) ∧
      (ckptPick i f ≤ s.pick → s.cmdsOf src.loom src.stream = [] → s.fld Reg.RES_CK_STAT_PHASE ≠ 1 →
        s.fld Reg.RES_VOTE_CFG_NREP ≠ 1 → s.fld Reg.RES_VOTE_CFG_NREP ≤ s.fld Reg.RES_VOTE_CFG_REP_RANK → Answers (.ckptVote src f) s fun t =>
          (t.stream src.loom src.stream).state = .faulted ∧ t.fld (Reg.CTX_FAULT_INFO_CODE (ctxSlot src.loom src.stream)) = 0x0104 ∧
          t.fld Reg.RES_VOTE_RES_RESULT = 7 ∧ (∀ v ∈ t.res.votes, v ∈ s.res.votes) ∧ SameMemory s t)) ∧
    (∀ l k i f, HeldAt l k i (.ckptVote f) s → l < 80 → k < 16 → ckptPick i f ≤ s.pick → s.cmdsOf l k ≠ [] →
      Answers (.ckptLateReject l k) s fun t =>
        (t.stream l k).state = .faulted ∧ t.fld (Reg.CTX_FAULT_INFO_CODE (ctxSlot l k)) = 0x0103 ∧ (t.stream l k).queue = [] ∧
        SameMemory s t) ∧
    (∀ recs, s.boot.on = true → s.fpWait = none → s.res.cap = none → (∀ v ∈ s.res.votes, s.pick < v.gather.start) →
      Completes (.voteDecide recs none) s s) ∧
    (∀ x v recs, InFlight s x → v.cmd = x.id → (s.stream x.loom x.stream).state ≠ .faulted →
      (s.res.votes.find? (voteMeets s recs) = some v → v.gather.deadline < s.pick → Answers (.voteDecide recs none) s fun t =>
        FaultsWith s t x 0x0402 ∧ t.fld Reg.RES_VOTE_RES_RESULT = 7 ∧ t.res.votes = s.res.votes.filter (·.cmd != x.id)) ∧
      (s.res.votes.find? (fun w => w.cmd == x.id && decide (w.gather.deadline ≤ s.pick)) = some v → x.phase = .own → Answers (.collectiveDeadlineExpiry x.id) s fun t =>
        FaultsWith s t x 0x0402 ∧ t.fld Reg.RES_VOTE_RES_RESULT = 7 ∧ t.res.votes = s.res.votes.filter (·.cmd != x.id))) ∧
    (∀ x v recs, InFlight s x → s.res.votes.find? (voteMeets s recs) = some v → v.cmd = x.id → x.plan = {} → s.pick ≤ v.gather.deadline →
      (v.invalid = true → Answers (.voteDecide recs none) s fun t => t.fld Reg.RES_VOTE_RES_RESULT = 6 ∧
        t.res.votes = s.res.votes.filter (·.cmd != x.id) ∧ t.cmd? x.id = none ∧ SameMemory s t ∧ t.descs = s.descs ∧
        t.flag Reg.RES_RES_STAT_EXPELLED = s.flag Reg.RES_RES_STAT_EXPELLED) ∧
      (∀ odd, v.invalid = false → decideVote recs (s.fld Reg.RES_VOTE_CFG_NREP) = (2, odd) →
        s.fld Reg.RES_VOTE_CFG_REP_RANK ∉ odd → Answers (.voteDecide recs none) s fun t =>
          t.fld Reg.RES_VOTE_RES_RESULT = 2 ∧ t.flag Reg.RES_RES_STAT_EXPELLED = s.flag Reg.RES_RES_STAT_EXPELLED ∧
          t.flag Reg.RES_RES_STAT_VOTE_HOLD = s.flag Reg.RES_RES_STAT_VOTE_HOLD ∧ t.res.votes = s.res.votes.filter (·.cmd != x.id) ∧ t.cmd? x.id = none ∧
          SameMemory s t ∧ t.descs = s.descs) ∧
      (v.invalid = false → decideVote recs (s.fld Reg.RES_VOTE_CFG_NREP) = (1, []) →
        Answers (.voteDecide recs none) s fun t => t.fld Reg.RES_VOTE_RES_RESULT = 1 ∧ t.res.votes = s.res.votes.filter (·.cmd != x.id) ∧ t.cmd? x.id = none ∧
          SameMemory s t ∧ t.descs = s.descs ∧
          t.flag Reg.RES_RES_STAT_EXPELLED = s.flag Reg.RES_RES_STAT_EXPELLED) ∧
      (∀ odd, v.invalid = false → decideVote recs (s.fld Reg.RES_VOTE_CFG_NREP) = (2, odd) →
        s.fld Reg.RES_VOTE_CFG_REP_RANK ∈ odd → Answers (.voteDecide recs none) s fun t =>
          t.fld Reg.RES_VOTE_RES_RESULT = 3 ∧ t.flag Reg.RES_RES_STAT_EXPELLED = true ∧ t.res.restored = false ∧ t.res.votes = s.res.votes.filter (·.cmd != x.id) ∧
          t.cmd? x.id = none ∧ SameMemory s t ∧ t.descs = s.descs) ∧
      (∀ n, v.invalid = false → decideVote recs (s.fld Reg.RES_VOTE_CFG_NREP) = (n, []) → n = 4 ∨ n = 5 →
        Answers (.voteDecide recs none) s fun t => t.fld Reg.RES_VOTE_RES_RESULT = n ∧ t.flag Reg.RES_RES_STAT_VOTE_HOLD = true ∧
          t.res.votes = s.res.votes.filter (·.cmd != x.id) ∧ t.cmd? x.id = none)) ∧
    (∀ x v recs (code : BitVec 16) reason, InFlight s x → v.cmd = x.id → s.res.votes.find? (voteBreaks s code.toNat reason) = some v →
        (s.stream x.loom x.stream).state ≠ .faulted → Answers (.voteDecide recs (some (code, reason))) s fun t =>
          FaultsWith s t x code.toNat ∧ t.fld Reg.RES_VOTE_RES_RESULT = 7 ∧ t.res.votes = s.res.votes.filter (·.cmd != x.id)) ∧
    (Reaches s Reg.RES_VOTE_CTL →
      ((s.flag Reg.RES_RES_STAT_EXPELLED = true ∨ s.flag Reg.RES_RES_STAT_VOTE_HOLD = true) ∧ s.res.restored = true →
        Answers .rejoin s (OnlyFields [(Reg.RES_RES_STAT_EXPELLED, 0), (Reg.RES_RES_STAT_VOTE_HOLD, 0)] s)) ∧
      ((s.flag Reg.RES_RES_STAT_EXPELLED = false ∧ s.flag Reg.RES_RES_STAT_VOTE_HOLD = false) ∨ s.res.restored = false →
        Completes .rejoin s (s.advise 0x0103)))

/-- Checkpoints (R361, R378 to R388): a CUT is held before its pick; at it the CUT takes the next CK_SEQ and puts the header and the capture
copies into the shadow; its capture ends in the drain; a write to a granule not yet drained copies it into the shadow first, or the drain
fails where no shadow granule is free; granules go out in order, then the closing record, to storage as RDMA WRITEs and to a buddy as
throws of the engine's flow, held until the catcher's credits are there; the acknowledged closing record ends the drain; a failure
whose cause stands frees the shadow. What the engine has caught whole lands in the buddy region, and DELIVERED goes back;
SEND throws the held image, granule by granule, and its closing record, with SENDING set until the last is DELIVERED. A restore is
refused with the first reason that applies; when it completes, the streams it names are IDLE, every other one stands, no
descriptor is poisoned, and CK_SEQ and the input log are those of the image. The order of granules in the shadow, which granule a caught throw
is, and that a second SEND is refused are the model's choices (log entry 60). -/
def Obligations.CheckpointsCaptureDrainAndRestore : Prop :=
  ∀ (s : State),
    (∀ src f c i, c = .ckptCut f → i = directCtx src c s → Takes src c s → s.pick < ckptPick i f ∨ voteDue s (src.loom, src.stream) = true →
      Answers (.ckptCut src f) s fun t => (t.stream src.loom src.stream).state = .held ∧ (t.stream src.loom src.stream).queue ≠ [] ∧
        t.cmds = s.cmds ∧ t.res.ckpt = none ∧ IssueFrame src s t) ∧
    (∀ src f c i o os base, c = .ckptCut f → i = directCtx src c s → Takes src c s → ckptPick i f ≤ s.pick →
      voteDue s (src.loom, src.stream) = false → s.cmdsOf src.loom src.stream = [] → checkCut s i f.list = .ok (o, os) →
      s.enabledStreams.length ≤ 1280 → base = (s.reg Reg.RES_SHADOW_BASE).toNat → Answers (.ckptCut src f) s fun t =>
        Issued src c s t (fun x => x.phase = .own ∧ x.plan = {} ∧ ∃ run, t.res.ckpt = some run ∧ run.cmd = x.id ∧
          run.bufs.map (·.handle) = os.map (·.1) ∧ run.total = 1 + (run.bufs.map (·.count)).sum ∧
          t.fld Reg.RES_CK_STAT_USED = run.used % 2 ^ 17 ∧ SameMemoryBut base (run.used * 2 ^ 21) s t) ∧
        t.bytes base 8 = leBytes 8 ((s.fld Reg.RES_CK_SEQ_SEQ + 1) % 2 ^ 64) ∧
        t.fld Reg.RES_CK_STAT_PHASE = 1 ∧ t.fld Reg.RES_CK_STAT_OUTCOME = 0 ∧
        t.fld Reg.RES_CK_SEQ_SEQ = (s.fld Reg.RES_CK_SEQ_SEQ + 1) % 2 ^ 64 ∧
        t.reg Reg.RES_CK_PICK = BitVec.ofNat 64 (ckptPick i f) ∧ t.fld Reg.RES_CK_PROG_SENT = 0 ∧ t.descs = s.descs ∧
        SameStreamsBut src.loom src.stream s t) ∧
    (∀ x f, s.boot.on = true → s.fpWait = none → s.res.cap = none → x ∈ s.cmds → x.loom < 80 → x.c = .ckptCut f →
      (∀ y ∈ s.cmds, ∀ g, y.c = .ckptCut g → y = x) → x.draining = false → x.digest = none → x.plan = {} →
      s.fld Reg.RES_CK_STAT_PHASE = 1 → Answers .captureEnd s fun t =>
        t.fld Reg.RES_CK_STAT_PHASE = 2 ∧ x ∉ t.cmds ∧ SameMemory s t ∧ t.descs = s.descs ∧ t.res.ckpt = s.res.ckpt) ∧
    (∀ run buf granule b, s.boot.on = true → s.res.ckpt = some run → run.bufs[buf]? = some b →
      needsCopy run (s.fld Reg.RES_CK_PROG_SENT) b granule = true →
      (run.used < s.fld Reg.RES_SHADOW_LEN_GRANULES → Answers (.copyOnWrite buf granule) s fun t =>
        (∃ r', t.res.ckpt = some r' ∧ ∃ b', r'.bufs[buf]? = some b' ∧ smGet (fun _ => none) b'.copied granule = some run.used) ∧
        (∀ k, k < 2 ^ 21 → t.byte ((s.reg Reg.RES_SHADOW_BASE).toNat + run.used * 2 ^ 21 + k) =
          smGet (fun _ => 0) (granuleBytes s.servedMem b.w0 b.w1 granule) (granule * 2 ^ 21 + k)) ∧
        SameMemoryBut ((s.reg Reg.RES_SHADOW_BASE).toNat + run.used * 2 ^ 21) (2 ^ 21) s t ∧
        SameRegsBut [Reg.RES_CK_STAT] s t ∧ t.streams = s.streams ∧ t.cmds = s.cmds ∧ t.descs = s.descs) ∧
      (s.fld Reg.RES_SHADOW_LEN_GRANULES ≤ run.used → Answers (.copyOnWrite buf granule) s fun t =>
        t.res.ckpt = none ∧ t.fld Reg.RES_CK_STAT_PHASE = 0 ∧ t.fld Reg.RES_CK_STAT_OUTCOME = 2 ∧ t.fld Reg.RES_CK_STAT_REASON = 1 ∧
        t.flag Reg.RES_CK_EVENT_FAILED = true ∧ SameRegsBut [Reg.RES_CK_STAT, Reg.RES_CK_EVENT] s t ∧ SameWork s t)) ∧
    (∀ run g nt q, s.boot.on = true → s.res.ckpt = some run → s.fld Reg.RES_CK_STAT_PHASE = 2 → run.closing = false →
      g = s.fld Reg.RES_CK_PROG_SENT → g < run.total → s.flag Reg.RES_CK_TARGET_KIND = false → nt = s.fld Reg.RES_CK_TARGET_NTM1 + 1 →
      (g / nt + 1) * 2 ^ 21 ≤ s.fld (Reg.HOST_DR_LEN_LEN (g % nt)) → drainQp s (g % nt) = some q → pfcHolds s q = false →
      s.res.sending = none → Answers .drainGranuleSend s fun t =>
        t.outbox = s.outbox ++ [.roce (s.qp q).peer (.rdmaWrite q (s.qp q).spsn (s.fld (Reg.HOST_DR_ADDR_ADDR (g % nt)) + (g / nt) * 2 ^ 21)
          (s.fld (Reg.HOST_DR_KEY_RKEY (g % nt))) (imageGranule s run g))] ∧
        t.fld Reg.RES_CK_PROG_SENT = (g + 1) % 2 ^ 32 ∧ t.res.ckpt = s.res.ckpt ∧ SameWork s t) ∧
    (∀ run q, s.boot.on = true → s.res.ckpt = some run → s.fld Reg.RES_CK_STAT_PHASE = 2 → run.closing = false →
      run.total ≤ s.fld Reg.RES_CK_PROG_SENT → s.flag Reg.RES_CK_TARGET_KIND = false → s.res.sending = none →
      (allAcked s run.total = false → Completes .drainGranuleSend s s) ∧
      (allAcked s run.total = true → drainQp s 0 = some q → pfcHolds s q = false → Answers .drainGranuleSend s fun t =>
        t.outbox = s.outbox ++ [.roce (s.qp q).peer (.rdmaWrite q (s.qp q).spsn
          (s.fld (Reg.HOST_DR_ADDR_ADDR 0) + s.fld (Reg.HOST_DR_LEN_LEN 0) - 64) (s.fld (Reg.HOST_DR_KEY_RKEY 0)) (drainClosing s run))] ∧
        t.res.ckpt = some { run with closing := true } ∧ SameWork s t)) ∧
    (∀ run g (f : FlowEntry), s.boot.on = true → s.res.ckpt = some run → s.fld Reg.RES_CK_STAT_PHASE = 2 → run.closing = false →
      g = s.fld Reg.RES_CK_PROG_SENT → s.flag Reg.RES_CK_TARGET_KIND = true → f.flow = s.fld Reg.RES_CK_TARGET_BFLOW → s.res.sending = none →
      (g < run.total → EngineMay s f false (2 ^ 21) run.since → Answers .drainGranuleSend s fun t =>
        EngineThrows s t f false false (2 ^ 21) (imageData s run g) ∧ t.res.ckpt = some { run with since := none } ∧
        OnlyFields [(Reg.RES_CK_PROG_SENT, g + 1),
          (Reg.WVN_THROW_CNT_ADMITTED, min (s.fld Reg.WVN_THROW_CNT_ADMITTED + 1) (2 ^ 32 - 1))] s t) ∧
      (run.total ≤ g → EngineMay s f false 64 run.since → Answers .drainGranuleSend s fun t =>
        EngineThrows s t f false true 64 (sparseOf (drainClosing s run)) ∧ t.res.ckpt = some { run with closing := true, since := none } ∧
        OnlyFields [(Reg.WVN_THROW_CNT_ADMITTED, min (s.fld Reg.WVN_THROW_CNT_ADMITTED + 1) (2 ^ 32 - 1))] s t) ∧
      (flowEntry s f.flow = some f → f.source = true → f.srcLoom = 127 → f.collective = false → s.sync ≠ 4 → windowShut s = false →
        engineSending s false = false → (∀ p, run.since = some p → s.pick ≤ p + f.creditLife) →
        creditsReady (s.flowSt f.flow) f s.pick = false → Answers .drainGranuleSend s fun t =>
          t.res.ckpt = some { run with since := some (run.since.getD s.pick) } ∧ t.wvn = s.wvn ∧ NoFields s t) ∧
      (flowEntry s f.flow = some f → f.source = true → f.srcLoom = 127 → f.collective = false → s.sync = 4 →
        Answers .drainGranuleSend s fun t => t.res.ckpt = none ∧ t.fld Reg.RES_CK_STAT_PHASE = 0 ∧ t.fld Reg.RES_CK_STAT_OUTCOME = 2 ∧
          t.fld Reg.RES_CK_STAT_REASON = 4 ∧
          t.fld Reg.WVN_THROW_CNT_REJECTED = min (s.fld Reg.WVN_THROW_CNT_REJECTED + 1) (2 ^ 32 - 1) ∧ SameWork s t)) ∧
    (∀ run, s.boot.on = true → s.res.ckpt = some run → run.closing = true → Answers .closingRecordAck s fun t =>
      t.res.ckpt = none ∧ OnlyFields [(Reg.RES_CK_STAT_PHASE, 0), (Reg.RES_CK_STAT_OUTCOME, 1), (Reg.RES_CK_STAT_USED, 0),
        (Reg.RES_CK_EVENT_DONE, 1)] s t) ∧
    (∀ (reason : BitVec 4) run, s.boot.on = true → s.fld Reg.RES_CK_STAT_PHASE = 2 → s.res.ckpt = some run →
      (drainCause s run reason.toNat = true → Answers (.drainFail reason) s fun t =>
        t.res.ckpt = none ∧ OnlyFields [(Reg.RES_CK_STAT_PHASE, 0), (Reg.RES_CK_STAT_OUTCOME, 2), (Reg.RES_CK_STAT_REASON, reason.toNat),
          (Reg.RES_CK_STAT_USED, 0), (Reg.RES_CK_EVENT_FAILED, 1)] s t) ∧
      (drainCause s run reason.toNat = false → Completes (.drainFail reason) s s)) ∧
    (∀ (flow : BitVec 20) (cidx : BitVec 8) (tseq : W32) r e, s.boot.on = true → s.fpWait = none → s.res.cap = none →
      (∀ x ∈ s.cmds, ∀ d need, x.phase ≠ .throwing flow.toNat tseq.toNat d need) →
      (s.flowSt flow.toNat).throws.find? (fun r => r.tseq == tseq.toNat) = some r → r.engine = some e → s.pick ≤ e.deadline →
      e.need.filter (· != cidx.toNat) = [] → e.closing = true →
      (e.send = true → Answers (.delivered flow cidx tseq) s fun t => t.res.sending = none ∧ t.res.ckpt = s.res.ckpt ∧
        OnlyFields [(Reg.RES_BUDDY_STAT_SENDING, 0)] s t) ∧
      (e.send = false → Answers (.delivered flow cidx tseq) s fun t => t.res.ckpt = none ∧ t.res.sending = s.res.sending ∧
        OnlyFields [(Reg.RES_CK_STAT_PHASE, 0), (Reg.RES_CK_STAT_OUTCOME, 1), (Reg.RES_CK_STAT_USED, 0), (Reg.RES_CK_EVENT_DONE, 1)] s t)) ∧
    (∀ granule closing bytes, s.boot.on = true → caughtFlow s bytes = none → Completes (.buddyGranuleReceive granule closing bytes) s s) ∧
    (∀ granule bytes f e base held, s.boot.on = true → s.res.ckpt = none → caughtFlow s bytes = some f → (s.flowSt f.flow).eng = some e →
      f.revPort < s.nPorts → held = s.fld Reg.RES_BUDDY_STAT_GRANULES →
      (base = (s.reg Reg.RES_BUDDY_BASE).toNat + granule * 2 ^ 21 → bytes.length = 2 ^ 21 →
        (granule + 1) * 2 ^ 21 ≤ s.fld Reg.RES_BUDDY_LEN_LEN - 64 → base + 2 ^ 21 ≤ hbmEnd → granule + 1 < 2 ^ 16 →
        granule = 0 ∨ (granule = held ∧ s.flag Reg.RES_BUDDY_STAT_RECEIVING = true) →
        Answers (.buddyGranuleReceive granule false bytes) s fun t =>
          (∀ k, k < 2 ^ 21 → t.byte (base + k) = bytes.getD k 0) ∧ SameMemoryBut base (2 ^ 21) s t ∧
          t.flag Reg.RES_BUDDY_STAT_RECEIVING = true ∧ t.fld Reg.RES_BUDDY_STAT_GRANULES = granule + 1 ∧
          (granule = 0 → t.flag Reg.RES_BUDDY_STAT_IMAGE = false) ∧ (t.flowSt f.flow).eng = none ∧
          mkRec 2 f.cidx f.flow e.tseq 0 ∈ (t.port f.revPort).recs ∧ SameRegsBut [Reg.RES_BUDDY_STAT] s t) ∧
      (base = (s.reg Reg.RES_BUDDY_BASE).toNat + held * 2 ^ 21 → bytes.length = 64 → s.flag Reg.RES_BUDDY_STAT_RECEIVING = true →
        base + 64 ≤ hbmEnd → Answers (.buddyGranuleReceive granule true bytes) s fun t =>
          t.bytes base 64 = bytes ∧ SameMemoryBut base 64 s t ∧ t.flag Reg.RES_BUDDY_STAT_RECEIVING = false ∧
          t.flag Reg.RES_BUDDY_STAT_IMAGE = true ∧ (t.flowSt f.flow).eng = none ∧
          mkRec 2 f.cidx f.flow e.tseq 0 ∈ (t.port f.revPort).recs ∧ SameRegsBut [Reg.RES_BUDDY_STAT] s t)) ∧
    (∀ (flow : BitVec 20) (f : FlowEntry) base n len, Reaches s Reg.RES_BUDDY_CTL → s.flag Reg.RES_BUDDY_STAT_IMAGE = true →
      s.res.sending = none → f.flow = flow.toNat → base = (s.reg Reg.RES_BUDDY_BASE).toNat → n = s.fld Reg.RES_BUDDY_STAT_GRANULES →
      len = (if n = 0 then 64 else 2 ^ 21) →
      (EngineMay s f true len none → Answers (.buddySend flow) s fun t =>
        EngineThrows s t f true (n == 0) len (sparseOf (s.readOut base len)) ∧ t.res.sending = some { flow := flow.toNat, next := 1 } ∧
        OnlyFields [(Reg.RES_BUDDY_STAT_SENDING, 1),
          (Reg.WVN_THROW_CNT_ADMITTED, min (s.fld Reg.WVN_THROW_CNT_ADMITTED + 1) (2 ^ 32 - 1))] s t) ∧
      (flowEntry s f.flow = some f → f.source = true → f.srcLoom = 127 → f.collective = false → s.sync ≠ 4 → windowShut s = false →
        engineSending s true = false → creditsReady (s.flowSt f.flow) f s.pick = false → Answers (.buddySend flow) s fun t =>
          t.wvn = s.wvn ∧ t.res.sending = some { flow := flow.toNat, since := some s.pick } ∧
          OnlyFields [(Reg.RES_BUDDY_STAT_SENDING, 1)] s t)) ∧
    (∀ flow : BitVec 20, Reaches s Reg.RES_BUDDY_CTL → s.flag Reg.RES_BUDDY_STAT_IMAGE = false ∨ s.res.sending.isSome = true →
      Completes (.buddySend flow) s (s.advise 0x0103)) ∧
    (∀ x (f : FlowEntry) n base, s.boot.on = true → s.res.ckpt = none → s.res.sending = some x → f.flow = x.flow →
      n = s.fld Reg.RES_BUDDY_STAT_GRANULES → base = (s.reg Reg.RES_BUDDY_BASE).toNat + x.next * 2 ^ 21 →
      (x.next < n → EngineMay s f true (2 ^ 21) x.since → Answers .drainGranuleSend s fun t =>
        EngineThrows s t f true false (2 ^ 21) (sparseOf (s.readOut base (2 ^ 21))) ∧
        t.res.sending = some { x with next := x.next + 1, since := none } ∧ SameWork s t) ∧
      (x.next = n → EngineMay s f true 64 x.since → Answers .drainGranuleSend s fun t =>
        EngineThrows s t f true true 64 (sparseOf (s.readOut base 64)) ∧
        t.res.sending = some { x with next := x.next + 1, since := none } ∧ SameWork s t) ∧
      (n < x.next → Completes .drainGranuleSend s s)) ∧
    (Reaches s Reg.RES_RST_CTL →
      (∀ r p, (restoreRules s).find? (·.2) = some (r, p) → Answers .restoreGo s
        (OnlyFields [(Reg.RES_RST_STAT_REFUSED, 1), (Reg.RES_RST_STAT_REASON, r)] s)) ∧
      (s.jobActive = false → Answers .restoreGo s (OnlyFields [(Reg.RES_RST_STAT_REFUSED, 1), (Reg.RES_RST_STAT_REASON, 1)] s)) ∧
      ((∀ p ∈ restoreRules s, p.2 = false) → Answers .restoreGo s
        (OnlyFields [(Reg.RES_RST_STAT_BUSY, 1), (Reg.RES_RST_STAT_REASON, 0)] s))) ∧
    (s.boot.on = true → s.nLooms ≤ 80 → s.flag Reg.RES_RST_STAT_BUSY = true → Answers .restoreComplete s fun t =>
      t.flag Reg.RES_RST_STAT_BUSY = false ∧ t.flag Reg.RES_RST_STAT_DONE = true ∧ t.res.restored = true ∧ t.res.invalidSeen = false ∧
      t.reg Reg.RES_CK_SEQ = BitVec.ofNat 64 (imgField s 0 8) ∧
      (∀ k, k < 16 → t.reg (Reg.RES_INLOG k) = BitVec.ofNat 64 (imgField s (64 + 8 * k) 8)) ∧
      (∀ i, dPoison (t.desc i) = false) ∧
      (∀ l n, (∀ k, k < imgField s 50 2 → streamKey l n ≠ streamKey (imgField s (256 + 384 * k) 1) (imgField s (256 + 384 * k + 1) 1)) →
        t.stream l n = s.stream l n) ∧
      (∀ k l n, k < imgField s 50 2 → l = imgField s (256 + 384 * k) 1 → n = imgField s (256 + 384 * k + 1) 1 →
        (t.stream l n).state = .idle ∧ (t.stream l n).pending = 0 ∧ (t.stream l n).queue = [] ∧ (t.stream l n).prog = none) ∧
      t.cmds = s.cmds ∧ t.imem = s.imem ∧ t.looms = s.looms)

/-- Spares, swatches and captured ranges: SPARE_CMD is refused for a loom that does not exist or is busy and for want of a spare,
which raises SPARE_EXHAUSTED whatever else refuses it (of several reasons the lowest shows: the model's choice, log entry 52), and
otherwise leaves a substitution pending until the next shed boundary, which maps the position onto the lowest available spare
with an empty bobbin and instruction memory (R22, R23, R403, R404). SUSPECT sets, and passes count from then on; ARM arms a capture
where none is armed or active; QUARANTINE puts a store entry in STATE 3 (R392, R397, R402). A
SWATCH waits for quiet contexts, claims the arrays and copies its data to OUT when it starts, and at its end writes its record,
counts PASS or FAIL by its digest, and gives the context's registers back (R398 to R400). That an ARM while a range is armed or active is
ignored, and that a substituted position keeps its rings, are the model's choices (log entry 42). -/
def Obligations.SparesAndSwatches : Prop :=
  ∀ (s : State),
    (∀ loom : BitVec 7, Reaches s Reg.RES_SPARE_CMD →
      (s.nLooms ≤ loom.toNat → Answers (.spareCmd loom) s
        (OnlyFields [(Reg.RES_SPARE_RES_LOOM, loom.toNat), (Reg.RES_SPARE_RES_REFUSED, 1), (Reg.RES_SPARE_RES_REASON, 1)] s)) ∧
      (loom.toNat < s.nLooms → (∀ k, k < 16 → (s.stream loom.toNat k).atRest = true) → (∀ x ∈ s.cmds, x.loom ≠ loom.toNat) →
        s.ckptBusy = false →
        ((freeSpare s (s.dieOf loom.toNat)).isSome = true → Answers (.spareCmd loom) s fun t => t.res.remap = some loom.toNat ∧
          OnlyFields [(Reg.RES_SPARE_RES_LOOM, loom.toNat), (Reg.RES_SPARE_RES_PENDING, 1), (Reg.RES_SPARE_RES_REASON, 0)] s t) ∧
        (freeSpare s (s.dieOf loom.toNat) = none → Answers (.spareCmd loom) s fun t => t.res.remap = none ∧
          t.flag Reg.RES_SPARE_RES_REFUSED = true ∧ t.fld Reg.RES_SPARE_RES_REASON = 2 ∧ SameWork s t)) ∧
      (loom.toNat < s.nLooms → (∃ k, k < 16 ∧ (s.stream loom.toNat k).atRest = false) → Answers (.spareCmd loom) s fun t =>
        t.res.remap = none ∧ t.flag Reg.RES_SPARE_RES_REFUSED = true ∧ t.fld Reg.RES_SPARE_RES_REASON = 1 ∧ SameWork s t ∧
        (freeSpare s (s.dieOf loom.toNat) = none → s.ringOn = true →
          ∃ r, t.queue (s.dieOf loom.toNat) = s.queue (s.dieOf loom.toNat) ++ [r] ∧ r.code = 0x0605 ∧ r.sev = .device ∧ r.pick = s.pick))) ∧
    (∀ loom j, s.boot.on = true → s.atShed = true → s.res.remap = some loom → loom < 80 → s.dieOf loom < 4 → s.res.stalled = [] →
      freeSpare s (s.dieOf loom) = some j → Answers .spareRemap s fun t =>
        t.res.remap = none ∧ t.flag Reg.RES_SPARE_RES_DONE = true ∧ t.flag Reg.RES_SPARE_RES_PENDING = false ∧
        lmapByte t loom = sparePhys s (s.dieOf loom) j + 0xC0 ∧ spareState t (s.dieOf loom) j = 1 ∧
        t.fld (Reg.LOOM_LOOM_ID_PHYS loom) = sparePhys s (s.dieOf loom) j ∧
        (∀ a, bobbinBase + 0x400000 * loom ≤ a → a < bobbinBase + 0x400000 * (loom + 1) → t.byte a = 0) ∧
        SameMemoryBut (bobbinBase + 0x400000 * loom) 0x400000 s t ∧ (∀ w, w < 32768 → t.imWord loom w = 0) ∧
        t.streams = s.streams ∧ t.descs = s.descs ∧ t.cmds = s.cmds) ∧
    (Reaches s Reg.RES_HEALTH → s.flag Reg.RES_HEALTH_SUSPECT = false → Answers .healthSuspect s fun t =>
      t.res.passed = [] ∧ OnlyFields [(Reg.RES_HEALTH_SUSPECT, 1)] s t) ∧
    (Reaches s Reg.RES_CAP_START →
      (s.flag Reg.RES_CAP_STAT_ARMED = false → s.flag Reg.RES_CAP_STAT_ACTIVE = false →
        Answers .capArm s (OnlyFields [(Reg.RES_CAP_STAT_ARMED, 1)] s)) ∧
      (s.flag Reg.RES_CAP_STAT_ARMED = true ∨ s.flag Reg.RES_CAP_STAT_ACTIVE = true → Completes .capArm s s)) ∧
    (∀ entry : BitVec 8, Reaches s (Reg.RES_SWS_CTL entry.toNat) → Answers (.quarantine entry) s fun t =>
      t.fld (Reg.RES_SWS_CTL_STATE entry.toNat) = 3 ∧
      SameRegsBut [Reg.RES_SWS_CTL entry.toNat, Reg.RES_HEALTH, Reg.FAULT_FR_STAT] s t ∧ SameWork s t) ∧
    (∀ src sw out c i, c = .swatch sw out → i = directCtx src c s → src.loom < 80 → Takes src c s → HandlesFree src c s → windowLeft s 1 ≠ 0 →
      (othersQuiet s src.loom (src.stream % 4) = false → Answers (.swatch src sw out) s fun t =>
        (t.stream src.loom src.stream).state = .held ∧ (t.stream src.loom src.stream).queue ≠ [] ∧
        (∃ r ∈ t.res.swatches, r.loom = src.loom ∧ r.stream = src.stream) ∧ t.cmds = s.cmds ∧ IssueFrame src s t) ∧
      (∀ o, othersQuiet s src.loom (src.stream % 4) = true → checkSwatch s i sw.toNat out = .ok o → Answers (.swatch src sw out) s fun t =>
        Issued src c s t (fun x => x.phase = .own ∧ x.plan = {} ∧ ∃ r ∈ t.res.swatches, r.running = true ∧ r.cmd = x.id ∧ r.loom = src.loom ∧
          r.stream = src.stream ∧ r.entry = sw.toNat) ∧
        (t.loom src.loom).own0 = some (src.stream % 4) ∧ (t.loom src.loom).own1 = some (src.stream % 4) ∧ t.descs = s.descs ∧
        SameStreamsBut src.loom src.stream s t)) ∧
    (∀ l k i sw out o, HeldAt l k i (.swatch sw out) s → l < 80 → windowLeft s 1 ≠ 0 → othersQuiet s l (k % 4) = true →
      checkSwatch s i sw.toNat out = .ok o → Answers (.swatchStart l k) s fun t =>
        (∃ x, t.cmds = s.cmds ++ [x] ∧ x.id = s.nextId ∧ x.c = .swatch sw out) ∧ (t.stream l k).queue = [] ∧
        (∃ r ∈ t.res.swatches, r.running = true ∧ r.cmd = s.nextId ∧ r.loom = l ∧ r.stream = k) ∧ t.descs = s.descs) ∧
    (∀ loom stream r x (v : Nat → W64) w n, InFlight s x → s.swRun loom = some r → loom < 80 → r.stream = stream → r.cmd = x.id → r.ended s = true →
      r.st.fault = none → x.plan = {} → r.saved = (swatchRegs loom (stream % 4)).map (fun o => (o, v o)) →
      w = s.fld Reg.RES_SWR_CTL_WPTR → n = s.fld Reg.RES_SWR_CTL_LOG2N → (s.reg Reg.RES_SWR_BASE).toNat + 64 * 2 ^ n ≤ hbmEnd → Answers (.swatchComplete loom stream) s fun t =>
        (∀ pass d, d = gdigest r.skey 0 (orderedWords r.words) → pass = (d == r.expect) →
          t.bytes ((s.reg Reg.RES_SWR_BASE).toNat + 64 * (w % 2 ^ n)) 64 = swatchRecord s r x.tag (if pass then 0 else 1) d 0 ∧
          t.fld (Reg.RES_LSW_PASS loom) = min (s.fld (Reg.RES_LSW_PASS loom) + if pass then 1 else 0) (2 ^ 32 - 1) ∧
          t.fld (Reg.RES_LSW_FAIL loom) = min (s.fld (Reg.RES_LSW_FAIL loom) + if pass then 0 else 1) (2 ^ 32 - 1)) ∧
        SameMemoryBut ((s.reg Reg.RES_SWR_BASE).toNat + 64 * (w % 2 ^ n)) 64 s t ∧ t.fld Reg.RES_SWR_CTL_WPTR = (w + 1) % 2 ^ 32 ∧
        (∀ o ∈ swatchRegs loom (stream % 4), t.reg o = v o) ∧ t.swRun loom = none ∧ t.cmd? x.id = none ∧ t.descs = s.descs)

/-! ### Records, the event log, counters and traces -/

/-- The fault ring (R503, R505, R506, R509): the ring writer writes the oldest record of a queue whole at the next slot, advances
WPTR, and sets the summary of its severity; a stream reads FAULTED once the record of its first fault is in the ring. An FR_CTL
write enables the ring at an aligned base in HBM, and is denied at another; the held records are then written, once HBM is trained; with
EN set a change of LOG2N is denied, and EN clears only while no job is active (R413). -/
def Obligations.FaultRecordsReachTheRing : Prop :=
  ∀ s : State, s.boot.on = true → s.res.ckpt = none →
    (∀ q r rest, s.ringOn = true → s.queue q = r :: rest → s.faults.written < 8 → s.ringSlot + 64 ≤ hbmEnd → Answers (.faultRecordWrite q) s fun t =>
      t.queue q = rest ∧ t.bytes s.ringSlot 64 = recordBytes r (s.fld Reg.FAULT_FR_CTL_WPTR) (s.fld Reg.FAULT_FR_CTL_LOG2N) ∧
      SameMemoryBut s.ringSlot 64 s t ∧ t.fld Reg.FAULT_FR_CTL_WPTR = (s.fld Reg.FAULT_FR_CTL_WPTR + 1) % 2 ^ 32 ∧
      t.faults.written = s.faults.written + 1 ∧
      (r.sev = .advisory → t.flag Reg.FAULT_SEV_SUM_ADVISORY = true) ∧ (r.sev = .context → t.flag Reg.FAULT_SEV_SUM_CONTEXT = true) ∧
      (r.sev = .device → t.flag Reg.FAULT_SEV_SUM_DEVICE = true) ∧ (r.sev = .bolt → t.flag Reg.FAULT_SEV_SUM_BOLT = true) ∧
      (∀ c, r.cmd = some c → r.sev = .context → r.sec = false → rest.any (·.firstOf c) = false →
        (t.stream c.loom c.stream).faultShown = true) ∧
      SameRegsBut [Reg.FAULT_FR_CTL, Reg.FAULT_SEV_SUM, Reg.FAULT_SEV_CNT0, Reg.FAULT_SEV_CNT1, Reg.FAULT_LAST_DEV,
        Reg.FAULT_LAST_DEV_PICK, Reg.CNT_TR_DROPS] s t ∧
      t.cmds = s.cmds ∧ t.descs = s.descs ∧ t.imem = s.imem ∧ t.looms = s.looms) ∧
    (∀ log2n : BitVec 5, Reaches s Reg.FAULT_FR_CTL →
      (s.flag Reg.FAULT_FR_CTL_EN = false → (s.reg Reg.FAULT_FR_BASE).toNat % 64 ≠ 0 ∨
          hbmEnd < (s.reg Reg.FAULT_FR_BASE).toNat + 64 * 2 ^ log2n.toNat →
        Completes (.frCtlWrite log2n true) s (s.denied (ctlBase + Reg.FAULT_FR_CTL))) ∧
      (s.flag Reg.FAULT_FR_CTL_EN = false → s.boot.trainDone = false → (s.reg Reg.FAULT_FR_BASE).toNat % 64 = 0 →
        (s.reg Reg.FAULT_FR_BASE).toNat + 64 * 2 ^ log2n.toNat ≤ hbmEnd → Answers (.frCtlWrite log2n true) s fun t =>
          t.ringOn = false ∧ t.faults = s.faults ∧ OnlyFields [(Reg.FAULT_FR_CTL_LOG2N, log2n.toNat), (Reg.FAULT_FR_CTL_EN, 1)] s t) ∧
      (s.flag Reg.FAULT_FR_CTL_EN = false → s.boot.trainDone = true → (s.reg Reg.FAULT_FR_BASE).toNat % 64 = 0 →
        (s.reg Reg.FAULT_FR_BASE).toNat + 64 * 2 ^ log2n.toNat ≤ hbmEnd → Answers (.frCtlWrite log2n true) s fun t =>
          t.ringOn = true ∧ t.fld Reg.FAULT_FR_CTL_LOG2N = log2n.toNat ∧ t.faults.held = [] ∧
          t.fld Reg.FAULT_FR_CTL_WPTR = (s.fld Reg.FAULT_FR_CTL_WPTR + s.faults.held.length) % 2 ^ 32 ∧
          SameMemoryBut (s.reg Reg.FAULT_FR_BASE).toNat (64 * 2 ^ log2n.toNat) s t ∧
          (s.faults.held = [] → OnlyFields [(Reg.FAULT_FR_CTL_LOG2N, log2n.toNat), (Reg.FAULT_FR_CTL_EN, 1)] s t) ∧
          t.streams = s.streams ∧ t.cmds = s.cmds ∧ t.descs = s.descs ∧ t.imem = s.imem ∧ t.looms = s.looms) ∧
      (s.flag Reg.FAULT_FR_CTL_EN = false → Completes (.frCtlWrite log2n false) s (s.setFld Reg.FAULT_FR_CTL_LOG2N log2n.toNat)) ∧
      (s.flag Reg.FAULT_FR_CTL_EN = true → log2n.toNat ≠ s.fld Reg.FAULT_FR_CTL_LOG2N →
        Completes (.frCtlWrite log2n true) s (s.denied (ctlBase + Reg.FAULT_FR_CTL))) ∧
      (s.flag Reg.FAULT_FR_CTL_EN = true → log2n.toNat = s.fld Reg.FAULT_FR_CTL_LOG2N → Completes (.frCtlWrite log2n true) s s ∧
        (s.jobActive = false → Completes (.frCtlWrite log2n false) s (s.setFld Reg.FAULT_FR_CTL_EN 0)) ∧
        (s.jobActive = true → Completes (.frCtlWrite log2n false) s (s.denied (ctlBase + Reg.FAULT_FR_CTL)))))

/-- The event log (R465, R466, R467): the oldest entry formed goes into the ring slot of its SEQ, its 224 bytes followed by the
chain value that hashes them after the entry before; SEQ advances by one, and the flash outside its slot stands but for the sector
erased before its first entry. The first entry ever continues the hash of "BRODYAR-LOG" and the UID, and an attestation report carries
the newest SEQ and chain value. -/
def Obligations.LogEntriesAreChained : Prop :=
  (∀ s : State, s.mgmt.logSeq = none → s.chainBefore =
    shake256 32 (([66, 82, 79, 68, 89, 65, 82, 45, 76, 79, 71] : List Byte) ++ leBytes 16 ((s.fuses.uid.value?).getD 0))) ∧
  (∀ (s : State) nonce n, s.mgmt.logSeq = some n →
    ∃ before after, reportBody s nonce = before ++ (leBytes 8 n ++ s.mgmt.logChain) ++ after) ∧
  ∀ (s : State) (e : LogEntry) (rest : List LogEntry), s.boot.on = true → s.boot.configEnded = true → s.mgmt.heldReset = false →
    s.mgmt.logBuf = e :: rest → Answers .logEntryWrite s fun t =>
      t.flashBytes (logAt s.nextSeq) 224 = logHeadBytes e s.nextSeq ∧
      t.flashBytes (logAt s.nextSeq + 224) 32 = shake256 32 (s.chainBefore ++ logHeadBytes e s.nextSeq) ∧
      t.nextSeq = s.nextSeq + 1 ∧ t.chainBefore = shake256 32 (s.chainBefore ++ logHeadBytes e s.nextSeq) ∧
      (s.mgmt.logLost = 0 → t.mgmt.logBuf = rest) ∧
      (s.mgmt.logLost ≠ 0 → t.mgmt.logLost = 0 ∧ ∃ x, t.mgmt.logBuf = rest ++ [x] ∧ x.code = 0x0008 ∧ x.data = leBytes 4 s.mgmt.logLost) ∧
      (∀ a, ¬ (logAt s.nextSeq ≤ a ∧ a < logAt s.nextSeq + (if s.nextSeq % 256 = 0 then 65536 else 256)) → t.flashByte a = s.flashByte a) ∧
      SameRegsBut [] s t ∧ SameWork s t

/-- Counters and traces (R59, R478 to R482, R485, R486): a shed boundary, at the first pick that the counter shows in its shed, latches every counter and then applies the configuration
written before it; the entry is written whole into its slot of the snapshot ring, or abandoned and counted when the next boundary
comes first. A CFG write waits for that boundary, and one of an event its block has not is denied; CLEAR_ALL zeroes every counter
there. The oldest trace record of a die goes into the trace ring. CNT_ACCESS is a privileged register, and access to the rings is not
granted while an entry or region overlaps them; a write of a CFG of slot 0, which has none, is denied. The model's readings: that a boundary
latches and a later event writes the entry, and when an entry is abandoned (log entry 48), and that CFG reads what was written last (log
entry 25). -/
def Obligations.CountersSnapshotsAndTraces : Prop :=
  ∀ s : State, s.boot.on = true → s.res.ckpt = none →
    (s.atShed = true → s.cnt.lastShed ≠ some (shedOf s.pick) → s.snapshotsOn = true → Answers (.counterSnapshot []) s fun t =>
      (∃ ws, t.cnt.latched = some (s.cnt.seq, shedOf s.pick, ws) ∧ ws.length = 2048 ∧ ws.getD 0 0 = s.pick ∧ ws.getD 1 0 = s.cnt.seq ∧
        ∀ k i, 1 ≤ k → k ≤ 255 → i < 8 → ws.getD (8 * k + i) 0 = if s.slotPresent k then snapWord s k i else 0) ∧
      t.cnt.seq = s.cnt.seq + 1 ∧ t.cnt.lastShed = some (shedOf s.pick) ∧ t.cnt.pend = [] ∧ t.cnt.zeroAll = false ∧
      (∀ k i, s.cnt.zeroAll = true ∨ 8 * k + i ∈ s.cnt.zero → t.counter k i = 0) ∧
      (∀ k i, s.cnt.zeroAll = false → 8 * k + i ∉ s.cnt.zero → t.counter k i = s.counter k i) ∧
      (∀ k i v, 1 ≤ k → k ≤ 255 → i < 8 → s.cnt.pend = [(8 * k + i, some v)] → t.reg (Reg.CNT_CFG (k - 1) i) = v) ∧ SameWork s t) ∧
    (∀ seq ws w n base, (s.atShed = false ∨ s.cnt.lastShed = some (shedOf s.pick)) → s.cnt.latched = some (seq, shedOf s.pick, ws) →
      ws.length = 2048 → n = 2 ^ s.fld Reg.CNT_SNAP_CTL_LOG2N → base = (s.reg Reg.CNT_SNAP_BASE).toNat → base + 0x4000 * n ≤ hbmEnd →
      w = base + 0x4000 * (seq % n) → Answers (.counterSnapshot []) s fun t =>
        t.bytes w 0x4000 = ws.flatMap (leBytes 8) ∧ SameMemoryBut w 0x4000 s t ∧ t.fld Reg.CNT_SNAP_CTL_WPTR = (seq + 1) % 2 ^ 32 ∧
        t.cnt.latched = none ∧ SameRegsBut [Reg.CNT_SNAP_CTL] s t ∧ t.streams = s.streams ∧ t.cmds = s.cmds ∧ t.descs = s.descs) ∧
    (∀ k i, 1 ≤ k → k ≤ 255 → i < 8 → liveReg s (Reg.CNT_VAL (k - 1) i) = s.counter k i) ∧
    (∀ seq sh ws, s.cnt.latched = some (seq, sh, ws) → sh < shedOf s.pick → Answers .snapshotAbandoned s fun t =>
      t.cnt.latched = none ∧ t.cnt.skipped = s.cnt.skipped + 1 ∧ OnlyFields [(Reg.CNT_SNAP_STAT_LOST,
        min (s.fld Reg.CNT_SNAP_STAT_LOST + 1) (2 ^ 32 - 1)), (Reg.CNT_SNAP_CTL_WPTR, seq + 1)] s t) ∧
    (∀ (slot : BitVec 8) (counter : BitVec 3) (v : W64), 1 ≤ slot.toNat → Reaches s (Reg.CNT_CFG (slot.toNat - 1) counter.toNat) →
      (bitsOf v.toNat 7 0 ≤ maxEvent slot.toNat → Answers (.counterCfgWrite slot counter v) s fun t => NoFields s t ∧
        smGet (fun _ => none) t.cnt.pend (8 * slot.toNat + counter.toNat) = some (BitVec.ofNat 64 (v.toNat % 2 ^ 12)) ∧
        (bitAt v.toNat 63 = true → 8 * slot.toNat + counter.toNat ∈ t.cnt.zero) ∧ t.cnt.vals = s.cnt.vals) ∧
      (maxEvent slot.toNat < bitsOf v.toNat 7 0 → Completes (.counterCfgWrite slot counter v) s
        (s.denied (ctlBase + Reg.CNT_CFG (slot.toNat - 1) counter.toNat)))) ∧
    (∀ (counter : BitVec 3) (v : W64), s.boot.on = true → Completes (.counterCfgWrite 0 counter v) s
      (s.denied (ctlBase + (Reg.CNT_CFG 0 0 - 0x40 + 8 * counter.toNat)))) ∧
    (Reaches s Reg.CNT_CNT_CTL → Completes .clearAll s { s with cnt := { s.cnt with zeroAll := true } }) ∧
    (∀ die r rest n a, smGet (fun _ => []) s.cnt.traces die = r :: rest → s.flag Reg.CNT_TR_CTL_EN = true →
      n = 2 ^ s.fld Reg.CNT_TR_RING_LOG2N → (s.reg Reg.CNT_TR_BASE).toNat + 64 * n ≤ hbmEnd →
      a = (s.reg Reg.CNT_TR_BASE).toNat + 64 * (s.cnt.traceSeq % n) → Answers (.traceRecordWrite die) s fun t =>
        smGet (fun _ => []) t.cnt.traces die = rest ∧ t.bytes a 64 = traceBytes r s.cnt.traceSeq ∧ SameMemoryBut a 64 s t ∧
        t.cnt.traceSeq = s.cnt.traceSeq + 1 ∧ t.fld Reg.CNT_TR_RING_WPTR = (s.fld Reg.CNT_TR_RING_WPTR + 1) % 2 ^ 32 ∧
        SameRegsBut [Reg.CNT_TR_RING] s t ∧ t.streams = s.streams ∧ t.cmds = s.cmds ∧ t.descs = s.descs) ∧
    (∀ user, Reaches s Reg.CNT_CNT_ACCESS →
      (user = true ∨ s.flag Reg.CNT_CNT_ACCESS_USER = false ∨ ringsMapped s = false →
        Completes (.cntAccessWrite true user) s (s.setFld Reg.CNT_CNT_ACCESS_USER (bit user))) ∧
      (s.flag Reg.CNT_CNT_ACCESS_USER = true → ringsMapped s = true →
        Completes (.cntAccessWrite true false) s (s.denied (ctlBase + Reg.CNT_CNT_ACCESS))) ∧
      Completes (.cntAccessWrite false user) s (s.denied (ctlBase + Reg.CNT_CNT_ACCESS)))

/-! ### Power and bring-up -/

/-- Power-good and bring-up (R410, R412, R417, R419, R423 to R431, R491, R492): with PWR_GOOD high and the rails in range FUSE starts;
PWR_GOOD falling loses everything but the fuses and the flash. Each phase, as the one that DEV_STATE shows, hands over to the next:
FUSE sets grade, looms and identity, with the fused trims or the ROM's in force; VERIFY records the version, the key and the identity key of
the firmware that it accepts, and keeps Grembedun's part; CONFIG loads the image's values; TRAIN zero-fills memory and applies
HBM_REPAIR; SOAK sets the thresholds that it finds, or CAL_LIGHT with the fused trims and 20 mV more; LINK and TIME end when their
conditions hold; WEAVE installs the boot schedule and checks the ports whose partner's hash has arrived; RELEASE reports READY. FUSE and
CONFIG stop with CONFIG_INVALID, VERIFY with IMAGE_INVALID, TRAIN with MEM_UNCORRECTABLE. As TRAIN starts, the compute and link dies leave
power-down: their registers hold what the Reset column gives and their counters are 0 (R15, R477). Without power no output pin is driven
(R496). That memory which has lost its power reads 0, that a register with no Reset value is 0, how fuses spell trims, and the section that a
detail word of CONFIG_INVALID names where the image alone tells are the model's choices (log entries 2, 4 and 61). -/
def Obligations.BringUpRunsItsPhases : Prop :=
  ∀ s : State,
    (s.boot.on = false →
      (s.boot.railsOk = true → Answers .powerGoodRise s fun t => t.boot = { s.boot with pwrGood := true, on := true, running := true } ∧
        t.fuses = s.fuses ∧ t.flash = s.flash ∧ NoFields s t) ∧
      (s.boot.railsOk = false → Completes .powerGoodRise s { s with boot := { s.boot with pwrGood := true } }) ∧
      (s.boot.pwrGood = true → Answers .railsInRange s fun t => t.boot = { s.boot with railsOk := true, on := true, running := true } ∧
        t.fuses = s.fuses ∧ t.flash = s.flash ∧ NoFields s t) ∧
      (s.boot.pwrGood = false → Completes .railsInRange s { s with boot := { s.boot with railsOk := true } })) ∧
    (Answers .powerGoodFall s fun t => t.boot.on = false ∧ t.fuses = s.fuses ∧ t.flash = s.flash ∧
      (∀ o, t.reg o = regReset o) ∧ (∀ a, t.byte a = 0) ∧ t.streams = [] ∧ t.cmds = [] ∧ t.descs = [] ∧ t.imem = [] ∧ t.cnt = {} ∧
      t.ppsPin = .undriven ∧ t.shutdownPin = .undriven ∧ t.thermTripPin = .undriven) ∧
    (∀ g roles uid, s.inPhase 0 = true → s.fuses.grade.value? = some g → s.fuses.roles.value? = some roles →
      s.fuses.uid.value? = some uid →
      (g ≤ 1 → rolesMatch g roles = true → s.fuses.seed.value?.isSome = true → Answers .fusePhase s fun t =>
        t.fld Reg.GCTL_DEV_STATE_PHASE = 1 ∧ t.nLooms = gradeLooms g ∧ t.nPorts = gradePorts g ∧ t.fld Reg.GCTL_GRADE_SPARES = 8 ∧
        t.reg Reg.GCTL_UID0 = BitVec.ofNat 64 uid ∧ t.reg Reg.GCTL_UID1 = BitVec.ofNat 64 (uid / 2 ^ 64) ∧
        (∀ l, l < gradeLooms g → lmapByte t l =
          (physWith roles (l / (gradeLooms g / 4)) 0).getD (l % (gradeLooms g / 4)) 0 + 0x80) ∧
        t.boot.droop = ((s.fuses.trim.value?).map Config.trimDroop).getD Config.romDroop ∧ t.boot.droopGuard = 0 ∧ SameWork s t) ∧
      (1 < g ∨ rolesMatch g roles = false → Answers .fusePhase s fun t => t.boot.running = false ∧
        (s.ringOn = false → ∃ r ∈ t.faults.held, r.code = 0x0802 ∧ r.sev = .device ∧ r.dw0 = 16) ∧
        t.fld Reg.GCTL_DEV_STATE_PHASE = 0 ∧ t.nLooms = s.nLooms ∧ SameWork s t)) ∧
    (∀ sigOk, s.inPhase 1 = true →
      (fwHeaderFault s.fuses (s.flashBytes 0 64) = none → sigOk = true → 1 ∉ s.mgmt.badRegion → Answers (.verifyPhase sigOk) s fun t =>
        t.fld Reg.GCTL_DEV_STATE_PHASE = 2 ∧ t.boot.svn = s.flashVal 12 4 ∧ t.boot.keyIdx = s.flashVal 16 1 ∧ t.boot.recovery = s.boot.recovery ∧
        t.mgmt.sram = s.grembedunImage ∧ t.boot.sramDigest = leValue (shake256 32 s.grembedunImage) ∧
        t.boot.identity = some (identityPair ((s.fuses.seed.value?).getD 0)) ∧
        SameRegsBut [Reg.GCTL_DEV_STATE] s t ∧ SameWork s t) ∧
      ((fwHeaderFault s.fuses (s.flashBytes 0 64)).isSome = true ∨ sigOk = false → Answers (.verifyPhase sigOk) s fun t =>
        t.boot.recovery = true ∧ t.boot.running = false ∧ t.fld Reg.GCTL_DEV_STATE_PHASE = 1 ∧
        (s.ringOn = false → ∃ r ∈ t.faults.held, r.code = 0x0801 ∧ r.sev = .device) ∧ SameWork s t)) ∧
    (∀ image c sigOk sect off, s.inPhase 2 = true → s.boot.configEnded = false → s.nLooms ≤ 80 → s.nPorts ≤ 18 → c = seated s image →
      (cfgFault s c sigOk = none → Answers (.configPhase image sigOk sect off) s fun t =>
        t.boot.configEnded = true ∧ t.boot.cfg = some c ∧ t.fld Reg.PWR_CAP_CAP_W = c.capW ∧
        t.fld Reg.TIME_PRIO_OWN_PRIORITY = c.ownPriority ∧ t.fld Reg.TIME_HOLDOVER_LIMIT_LIMIT = c.holdoverLimit ∧
        (∀ i, i < 32 → t.reg (Reg.HOST_ALLOW i) = c.allow.getD i 0) ∧
        (c.bootHold = true → t.fld Reg.GCTL_DEV_STATE_PHASE = 2 ∧ t.boot.running = false ∧ SameWork s t) ∧
        (c.bootHold = false → t.fld Reg.GCTL_DEV_STATE_PHASE = 3 ∧ t.fld Reg.GCTL_DEV_STATE_STATE = 2 ∧ DiesAfresh t)) ∧
      (∀ d, cfgFault s c sigOk = some d → Answers (.configPhase image sigOk sect off) s fun t =>
        t.boot.running = false ∧ t.boot.configEnded = false ∧
        (s.ringOn = false → ∃ r ∈ t.faults.held, r.code = 0x0802 ∧ r.sev = .device ∧ r.dw0 = d ∧
          r.dw1 = (cfgDetail s c d sect off).1 ∧ r.dw2 = (cfgDetail s c d sect off).2) ∧ SameRegsBut [Reg.FAULT_FR_STAT] s t ∧ SameWork s t)) ∧
    (s.inPhase 3 = true → s.nLooms ≤ 80 →
      (∀ r, s.flag Reg.FAULT_FR_CTL_EN = false ∨ s.faults.held = [] → Answers (.trainPhase [] r) s fun t =>
        (∀ a, t.byte a = 0) ∧ (∀ l w, t.imWord l w = 0) ∧ t.boot.trainDone = true ∧ t.boot.repair = s.fuses.repair.value? ∧
        t.boot.treadle = some s.boot.fwDigest ∧
        t.fld Reg.GCTL_DEV_STATE_PHASE = 4 ∧ t.streams = s.streams ∧ t.cmds = s.cmds ∧ t.descs = s.descs) ∧
      (∀ failed r, (∃ k ∈ failed, k < 12) → Answers (.trainPhase failed r) s fun t => t.boot.running = false ∧
        (s.ringOn = false → ∃ y ∈ t.faults.held, y.code = 0x0301 ∧ y.sev = .device ∧ y.dw0 ∈ failed ∧ y.dw1 = 1) ∧
        t.fld Reg.GCTL_DEV_STATE_PHASE = 3 ∧ SameRegsBut [Reg.FAULT_FR_STAT] s t ∧ SameWork s t)) ∧
    (∀ failed r, s.inPhase 4 = true → s.nPorts ≤ 18 → Answers (.soakPhase failed r) s fun t =>
      t.fld Reg.GCTL_DEV_STATE_PHASE = 5 ∧
      (s.boot.soakSkip = true ∨ failed.isSome = true → t.flag Reg.GCTL_DEV_STATE_CAL_LIGHT = true ∧
        t.boot.droop = ((s.fuses.trim.value?).map Config.trimDroop).getD Config.romDroop ∧ t.boot.droopGuard = 20) ∧
      (s.boot.soakSkip = false → failed = none → t.boot.droop = r.droop ∧ t.boot.droopGuard = 0 ∧ t.boot.laneEq = r.eq ∧
        t.flag Reg.GCTL_DEV_STATE_CAL_LIGHT = false) ∧
      (∀ p, p < s.nPorts → hasNeighbour s p = true → t.portState p = 1 ∧ (t.port p).eq = t.boot.laneEq.getD p []) ∧ SameWork s t) ∧
    (s.inPhase 5 = true → (∀ p, p < s.nPorts → linkSettled s p = true) → Completes .linkPhase s (s.setPhase 6)) ∧
    (s.inPhase 6 = true → s.sync = 2 ∨ s.sync = 5 → Completes .timePhase s (s.setPhase 7)) ∧
    (∀ sc c, s.inPhase 7 = true → s.boot.cfg = some c → s.wvn.schedules.find? (·.index == c.selBoot) = some sc →
      s.nPorts ≤ 18 → Answers .weavePhase s fun t => t.wvn.active = some sc ∧ t.fld Reg.GCTL_DEV_STATE_PHASE = 8 ∧
        (∀ p h, p < s.nPorts → s.portState p = 2 → (s.port p).keyed = true → (s.port p).pendingCheck = true →
          (s.port p).partnerHash = some h →
          (h ≠ sc.hash → t.portState p = 7) ∧
          (h = sc.hash → neighbourOk s sc p = true → hopoffOk s sc p = true → (t.port p).passed = some (shedOf s.pick))) ∧
        (∀ w, w < 4 → t.reg (Reg.WVN_BOLT_HASH w) = BitVec.ofNat 64 (sc.hash.toNat >>> (64 * w))) ∧ SameWork s t) ∧
    (∀ durations, s.inPhase 8 = true → Answers (.releasePhase durations) s fun t => t.fld Reg.GCTL_DEV_STATE_STATE = 3 ∧
      t.boot.running = false ∧ SameRegsBut [Reg.GCTL_DEV_STATE] s t ∧ SameWork s t)

/-- Power commands (R436 to R440): a PWR_CMD write while a command runs is denied; one that some target refuses writes the REASON and
the index of the first target refused and changes no state; an accepted one clears DONE and waits, a loom that goes to GATED or DARK
first stopping its streams. A quiet loom takes its new state, and DONE sets with the last target; a timed return to ON (with its memory 0
where it was DARK), SHUTDOWN and
the way to MGMT complete by themselves. A device command that its state does not allow is refused with REASON 2; one to MGMT takes the device
there, and one to PARKED from MGMT powers the dies up afresh (R15, R477). Cores held in reset execute no power command (R451). That memory which
has lost its power reads 0 is the model's choice (log entry 4); that the device is in MGMT as soon as the command is accepted, with DONE set
when the dies have lost power, and the order of the reasons are its readings (log entries 37 and 45). -/
def Obligations.PowerCommandsMoveTheirTargets : Prop :=
  ∀ s : State,
    (∀ (index count : BitVec 9) i, Reaches s Reg.PWR_PWR_CMD → s.mgmt.heldReset = true →
      i = .pwrLoomOn index count ∨ i = .pwrLoomGated index count ∨ i = .pwrLoomDark index count ∨ i = .pwrBankOn index count ∨
        i = .pwrBankRetain index count ∨ i = .pwrBankDark index count ∨ i = .pwrDeviceMgmt count ∨ i = .pwrDeviceParked count ∨
        i = .pwrDeviceReady count ∨ i = .pwrDeviceShutdown count → Completes i s s) ∧
    (∀ (index count : BitVec 9), Reaches s Reg.PWR_PWR_CMD → s.mgmt.heldReset = false → s.flag Reg.PWR_PWR_STAT_DONE = true →
      s.releasing = false → count ≠ 0 → index.toNat + count.toNat ≤ 512 → ∀ i kind st,
      (i = .pwrLoomOn index count ∧ kind = 1 ∧ st = 0) ∨ (i = .pwrLoomGated index count ∧ kind = 1 ∧ st = 1) ∨
      (i = .pwrLoomDark index count ∧ kind = 1 ∧ st = 2) ∨ (i = .pwrBankOn index count ∧ kind = 2 ∧ st = 0) ∨
      (i = .pwrBankRetain index count ∧ kind = 2 ∧ st = 1) ∨ (i = .pwrBankDark index count ∧ kind = 2 ∧ st = 2) →
      (∀ x r, firstRefused s kind st index.toNat count.toNat = some (x, r) → Answers i s fun t =>
        t.flag Reg.PWR_PWR_STAT_DONE = true ∧ t.flag Reg.PWR_PWR_STAT_REFUSED = true ∧ t.fld Reg.PWR_PWR_STAT_REASON = r ∧
        t.fld Reg.PWR_PWR_STAT_FAILIDX = x ∧ t.pwr = s.pwr ∧ SameRegsBut [Reg.PWR_PWR_STAT, Reg.FAULT_FR_STAT] s t ∧ SameWork s t) ∧
      (∀ todo, firstRefused s kind st index.toNat count.toNat = none →
        todo = ((List.range count.toNat).map (· + index.toNat)).filter (fun k => (if kind = 1 then s.loomPower k else s.bank k) != st) →
        (todo = [] → Answers i s fun t => t.flag Reg.PWR_PWR_STAT_DONE = true ∧ t.flag Reg.PWR_PWR_STAT_REFUSED = false ∧
          t.pwr = s.pwr ∧ SameRegsBut [Reg.PWR_PWR_STAT] s t ∧ SameWork s t) ∧
        (todo ≠ [] → Answers i s fun t => t.flag Reg.PWR_PWR_STAT_DONE = false ∧ t.flag Reg.PWR_PWR_STAT_REFUSED = false ∧
          t.pwr.run = some { kind := kind, state := st, todo := todo, word := pwrWord kind st index.toNat count.toNat } ∧ SameMemory s t ∧ t.cmds = s.cmds ∧ t.descs = s.descs ∧
          (kind = 2 ∨ st = 0 → SameRegsBut [Reg.PWR_PWR_STAT] s t ∧ SameWork s t) ∧
          (kind = 1 → st ≠ 0 → s.nLooms ≤ 80 → ∀ l ∈ todo, t.flag (Reg.PWR_LPWR_PENDING l) = true ∧ t.loomPower l = s.loomPower l ∧
            ∀ k, k < 16 → (s.stream l k).state = .running ∨ (s.stream l k).state = .held →
              (t.stream l k).state = .stopped ∨ (t.stream l k).stopReq = true)))) ∧
    (∀ (count : BitVec 9), Reaches s Reg.PWR_PWR_CMD → s.mgmt.heldReset = false → s.flag Reg.PWR_PWR_STAT_DONE = true →
      s.releasing = false → count ≠ 0 →
      (s.fld Reg.GCTL_DEV_STATE_STATE = 1 → s.boot.configEnded = true → Answers (.pwrDeviceParked count) s fun t =>
        t.fld Reg.GCTL_DEV_STATE_STATE = 2 ∧ t.fld Reg.GCTL_DEV_STATE_PHASE = 3 ∧ t.boot.running = true ∧
        t.flag Reg.PWR_PWR_STAT_DONE = true ∧ t.flag Reg.PWR_PWR_STAT_REFUSED = false ∧ DiesAfresh t) ∧
      (s.fld Reg.GCTL_DEV_STATE_STATE = 3 → s.jobActive = false → s.nLooms ≤ 80 → Answers (.pwrDeviceParked count) s fun t =>
        t.fld Reg.GCTL_DEV_STATE_STATE = 2 ∧ t.pwr.servicePark = true ∧
        (∀ l, l < s.nLooms → s.loomPower l = 0 → t.loomPower l = 1 ∧ t.flag (Reg.PWR_LPWR_PARKED l) = true) ∧
        (∀ l, l < s.nLooms → s.loomPower l ≠ 0 → t.loomPower l = s.loomPower l) ∧ SameWork s t) ∧
      (s.fld Reg.GCTL_DEV_STATE_STATE = 2 → s.pwr.servicePark = true → s.nLooms ≤ 80 → Answers (.pwrDeviceReady count) s fun t =>
        t.fld Reg.GCTL_DEV_STATE_STATE = 3 ∧ t.pwr.servicePark = false ∧
        (∀ l, l < s.nLooms → s.flag (Reg.PWR_LPWR_PARKED l) = true → t.loomPower l = 0 ∧ t.flag (Reg.PWR_LPWR_PARKED l) = false) ∧ SameWork s t) ∧
      (s.fld Reg.GCTL_DEV_STATE_STATE = 2 ∨ s.fld Reg.GCTL_DEV_STATE_STATE = 3 → s.jobActive = false →
        Answers (.pwrDeviceMgmt count) s fun t => t.flag Reg.PWR_PWR_STAT_DONE = false ∧
          t.pwr.run = some { kind := 0, state := 0, todo := [], word := pwrWord 0 0 0 count.toNat } ∧
          t.fld Reg.GCTL_DEV_STATE_STATE = 1 ∧ t.jobActive = false ∧ t.boot.running = false ∧ (∀ a, t.byte a = 0) ∧ t.streams = [] ∧
          t.cmds = [] ∧ t.imem = [] ∧ (∀ i, dValid (t.desc i) = false) ∧ t.wvn.active = none ∧ t.boot.trainDone = false) ∧
      (s.fld Reg.GCTL_DEV_STATE_STATE = 1 → Answers (.pwrDeviceShutdown count) s fun t => t.flag Reg.PWR_PWR_STAT_DONE = false ∧
          t.pwr.run = some { kind := 0, state := 3, todo := [], word := pwrWord 0 3 0 count.toNat } ∧ SameRegsBut [Reg.PWR_PWR_STAT] s t ∧ SameWork s t) ∧
      (∀ i st, (i = .pwrDeviceMgmt count ∧ st = 0) ∨ (i = .pwrDeviceParked count ∧ st = 1) ∨ (i = .pwrDeviceReady count ∧ st = 2) ∨
        (i = .pwrDeviceShutdown count ∧ st = 3) → deviceCmdOk s st = false → Answers i s fun t =>
          t.flag Reg.PWR_PWR_STAT_REFUSED = true ∧ t.fld Reg.PWR_PWR_STAT_REASON = 2 ∧ t.pwr = s.pwr ∧
          SameRegsBut [Reg.PWR_PWR_STAT] s t ∧ SameWork s t)) ∧
    (∀ l st todo w, s.boot.on = true → l < 80 → s.pwr.run = some { kind := 1, state := st, todo := todo, word := w } → st ≠ 0 → st ≤ 2 → l ∈ todo →
      (∀ x ∈ s.cmds, x.loom ≠ l) → (∀ k, k < 16 → (s.stream l k).stopReq = false) → Answers (.loomQuiet l) s fun t =>
        t.loomPower l = st ∧ t.flag (Reg.PWR_LPWR_PENDING l) = false ∧
        (∀ k ∈ todo, k ≠ l → t.pwr.run = some { kind := 1, state := st, todo := todo.filter (· != l), word := w }) ∧
        ((∀ k ∈ todo, k = l) → t.pwr.run = none ∧ t.flag Reg.PWR_PWR_STAT_DONE = true) ∧
        (st = 2 → (∀ a, bobbinBase + 0x400000 * l ≤ a → a < bobbinBase + 0x400000 * (l + 1) → t.byte a = 0) ∧
          (∀ w, w < 32768 → t.imWord l w = 0)) ∧
        SameMemoryBut (bobbinBase + 0x400000 * l) 0x400000 s t ∧ t.streams = s.streams ∧ t.cmds = s.cmds ∧ t.descs = s.descs) ∧
    (s.boot.on = true →
      (∀ todo w, s.pwr.run = some { kind := 1, state := 0, todo := todo, word := w } → (∀ l ∈ todo, l < 80) → Answers .powerTransitionComplete s fun t =>
        (∀ l ∈ todo, t.loomPower l = 0) ∧ t.flag Reg.PWR_PWR_STAT_DONE = true ∧ t.pwr.run = none ∧
        (∀ l ∈ todo, s.loomPower l = 2 → (∀ a, bobbinBase + 0x400000 * l ≤ a → a < bobbinBase + 0x400000 * (l + 1) → t.byte a = 0) ∧
          ∀ w, w < 32768 → t.imWord l w = 0) ∧
        ((∀ l ∈ todo, s.loomPower l ≠ 2) → SameWork s t) ∧ t.streams = s.streams ∧ t.cmds = s.cmds ∧ t.descs = s.descs) ∧
      (∀ todo w, s.pwr.run = some { kind := 2, state := 0, todo := todo, word := w } → (∀ b ∈ todo, b < 384) → Answers .powerTransitionComplete s fun t =>
        (∀ b ∈ todo, t.bank b = 0 ∧ b ∉ t.pwr.closed) ∧ t.flag Reg.PWR_PWR_STAT_DONE = true ∧ t.pwr.run = none ∧
        (∀ b ∈ todo, s.bank b = 2 → ∀ a, (bankRange b).1 ≤ a → a < (bankRange b).2 → t.byte a = 0) ∧
        ((∀ b ∈ todo, s.bank b ≠ 2) → SameWork s t) ∧ t.streams = s.streams ∧ t.cmds = s.cmds ∧ t.descs = s.descs) ∧
      (∀ w, s.pwr.run = some { kind := 0, state := 3, todo := [], word := w } → s.mgmt.logBuf = [] → s.mgmt.logLost = 0 →
        Answers .powerTransitionComplete s fun t => t.pwr.run = none ∧
          OnlyFields [(Reg.PWR_PWR_STAT_SHUTDOWN_OK, 1), (Reg.PWR_PWR_STAT_DONE, 1)] s t) ∧
      (∀ w, s.pwr.run = some { kind := 0, state := 0, todo := [], word := w } → Answers .powerTransitionComplete s fun t =>
        t.pwr.run = none ∧ OnlyFields [(Reg.PWR_PWR_STAT_DONE, 1)] s t))

/-- Caps, droop and heat (R442 to R447, R451, R499), the cap and the ceilings once at each shed boundary: power above the cap lowers the cap ceiling by 50 MHz, to 800 at the least; a droop
counts, and a share below 75% of the reference raises DROOP_EXCESS once a shed; sensor readings set TEMP, LEVEL and MAX, and one that
reaches TRIP takes the device to MGMT, one of a host die also asserts THERMTRIP_N; a die with a sensor at THROTTLE has its thermal ceiling
lowered by 100 MHz, to 800 at the least, with an event when it falls; the backstop cuts every core rail and asserts THERMTRIP_N. A lockstep
mismatch resets the cores, which restart from the SRAM copy while its digest stands, else from a flash image that is still the one
accepted; the third within 60 s, or neither, holds them in reset and cuts the rails. That memory which has lost its power reads 0, and that a
sensor still at TRIP trips again only once the device has left MGMT, are the model's choices (log entries 4 and 37); so are that the backstop
and the third mismatch leave looms and banks DARK and end the commands in flight and the power command that runs, and that there is no cap to
compare with before CONFIG has ended (log entry 45). -/
def Obligations.CapsDroopAndHeat : Prop :=
  ∀ s : State, s.boot.on = true → s.nLooms ≤ 80 →
    (∀ watts, s.boot.configEnded = true → s.mgmt.heldReset = false → s.boundaryDue s.pwr.capAt = true →
      Answers (.capControl watts) s fun t =>
      t.fld Reg.PWR_POWER_NOW_W = min watts 4095 ∧
      (s.fld Reg.PWR_CAP_CAP_W < watts → t.pwr.capMhz = max 800 (min s.clockLimit s.pwr.capMhz - 50) ∧
        (s.pwr.said = false → t.flag Reg.PWR_EVENTS_CAPPED = true) ∧ ∀ d, d < 4 → t.fld (Reg.PWR_CEIL_MHZ d) ≤ t.pwr.capMhz) ∧
      (∀ o, o ≠ Reg.FAULT_FR_STAT → ¬ (0x20000 ≤ o ∧ o < 0x30000) → t.reg o = s.reg o) ∧ SameWork s t) ∧
    (∀ watts, s.boundaryDue s.pwr.capAt = false ∨ s.boot.configEnded = false ∨ s.mgmt.heldReset = true → Completes (.capControl watts) s s) ∧
    (s.boundaryDue s.pwr.thermAt = false → Completes .thermalCeilingUpdate s s) ∧
    (∀ loom, loom < s.nLooms → Completes (.droopDetect loom) s (s.addSat (Reg.PWR_DROOP_EVENTS loom) 1)) ∧
    (∀ loom share, loom < s.nLooms → share ≤ 1023 →
      (768 ≤ share ∨ smGet (fun _ => 0) s.pwr.excessShed loom = shedOf s.pick + 1 → Completes (.droopExcess loom share) s
        (s.setFld (Reg.PWR_DROOP_MIN_SHARE loom) (min (s.fld (Reg.PWR_DROOP_MIN_SHARE loom)) share))) ∧
      (share < 768 → smGet (fun _ => 0) s.pwr.excessShed loom ≠ shedOf s.pick + 1 → Answers (.droopExcess loom share) s fun t =>
        t.fld (Reg.PWR_DROOP_EXCESS loom) = min (s.fld (Reg.PWR_DROOP_EXCESS loom) + 1) 65535 ∧
        t.fld (Reg.PWR_DROOP_MIN_SHARE loom) = min (s.fld (Reg.PWR_DROOP_MIN_SHARE loom)) share ∧
        t.flag Reg.PWR_EVENTS_DROOP_EXCESS = true ∧ SameWork s t)) ∧
    (∀ temps, s.mgmt.heldReset = false → temps.length = 96 → (∀ x ∈ temps, -2 ^ 15 ≤ x ∧ x < 2 ^ 15) →
      ((∀ n x, temps[n]? = some x → x < 16 * (sensorLimits n).2.2) → Answers (.sensorRead temps) s fun t =>
        (∀ n x, temps[n]? = some x → t.temp n = x ∧ t.fld (Reg.PWR_TEMP_LEVEL n) = levelOf n x ∧
          s.fld (Reg.PWR_TEMP_MAX n) ≤ t.fld (Reg.PWR_TEMP_MAX n)) ∧
        (∀ k x, k < 12 → temps[80 + k]? = some x → t.fld (Reg.HTAB_HBM_STAT_TEMP_NOW (k / 3) (k % 3)) = ofSigned 8 (Int.fdiv x 16)) ∧
        t.boot.thermTrip = [] ∧ t.boot.thermTripN = s.boot.thermTripN ∧
        (∀ o, ¬ (0x20000 ≤ o ∧ o < 0x30000) → (∀ k, k < 12 → o ≠ Reg.HTAB_HBM_STAT (k / 3) (k % 3)) → t.reg o = s.reg o) ∧ SameWork s t) ∧
      (∀ n x, temps[n]? = some x → 16 * (sensorLimits n).2.2 ≤ x → n ∉ s.boot.thermTrip ∨ 2 ≤ s.fld Reg.GCTL_DEV_STATE_STATE →
        Answers (.sensorRead temps) s fun t =>
          t.fld Reg.GCTL_DEV_STATE_STATE = 1 ∧ t.jobActive = false ∧ t.boot.running = false ∧ (∀ a, t.byte a = 0) ∧ t.cmds = [] ∧
          n ∈ t.boot.thermTrip ∧ t.reg Reg.GCTL_JOB_SEED = 0 ∧ t.pwr.run = none ∧
          (s.pwr.run.isSome = true ∨ s.flag Reg.PWR_PWR_STAT_DONE = true → t.flag Reg.PWR_PWR_STAT_DONE = true)) ∧
      ((∃ n x, (n = 70 ∨ n = 71) ∧ temps[n]? = some x ∧ 16 * (sensorLimits n).2.2 ≤ x) → Answers (.sensorRead temps) s fun t =>
        t.boot.thermTripN = true ∧ t.flag Reg.PWR_PWR_STAT_SHUTDOWN_OK = true ∧ t.shutdownPin = .high ∧ t.thermTripPin = .low)) ∧
    (∀ d n, s.mgmt.heldReset = false → s.boundaryDue s.pwr.thermAt = true → d < 4 → n < 96 → sensorOf n d = true →
      s.fld (Reg.PWR_TEMP_LEVEL n) = 2 → Answers .thermalCeilingUpdate s fun t =>
        t.thermalMhz d = max 800 (min s.clockLimit (s.thermalMhz d) - 100) ∧
        (800 < min s.clockLimit (s.thermalMhz d) → t.flag Reg.PWR_EVENTS_THERM_THROTTLE = true) ∧
        t.fld (Reg.PWR_CEIL_MHZ d) ≤ max 800 (min s.clockLimit (s.thermalMhz d) - 100) ∧ SameWork s t) ∧
    (∀ n, n < 96 → n ≠ 70 → n ≠ 71 → Answers (.thermalBackstop n) s fun t => t.boot.thermTripN = true ∧ t.pwr.run = none ∧
      (s.pwr.run.isSome = true → t.flag Reg.PWR_PWR_STAT_DONE = true) ∧
      (∀ l, l < s.nLooms → t.loomPower l = 2) ∧ (∀ b, b < 384 → t.bank b = 2) ∧ t.cmds = [] ∧
      (∀ a, beamBase ≤ a → a < beamEnd → t.byte a = 0) ∧ (∀ a, a < hbmEnd → t.byte a = s.byte a) ∧ t.streams = s.streams ∧ t.descs = s.descs) ∧
    (∀ (pc : W64) (sram : List (Nat × Byte)) sigOk recent copy, s.service ≠ .silent → s.boot.identity.isSome = true →
      recent = (s.mgmt.mismatches.filter fun p => decide (s.pick < p + 468750000)).length →
      copy = sram.foldl (fun (bs : List Byte) p => bs.set p.1 p.2) s.mgmt.sram →
      (recent < 2 → leValue (shake256 32 copy) = s.boot.sramDigest ∨ flashSame s sigOk = true →
        Answers (.lockstepMismatch pc sram sigOk) s fun t => t.mgmt.heldReset = false ∧ t.mgmt.xfer = none ∧
          t.mgmt.attests = [] ∧ t.mgmt.update = none ∧ t.mgmt.mismatches.getLast? = some s.pick ∧
          (leValue (shake256 32 copy) = s.boot.sramDigest → t.mgmt.sram = copy) ∧
          (leValue (shake256 32 copy) ≠ s.boot.sramDigest → t.mgmt.sram = s.grembedunImage) ∧ NoFields s t) ∧
      (2 ≤ recent ∨ (leValue (shake256 32 copy) ≠ s.boot.sramDigest ∧ flashSame s sigOk = false) →
        Answers (.lockstepMismatch pc sram sigOk) s fun t => t.mgmt.heldReset = true ∧ t.cmds = [] ∧
          ∀ l, l < s.nLooms → t.loomPower l = 2))

/-! ### Management -/

/-- Management requests (R453 to R459, R472, R473, R475). The sideband port drops every frame but a UDP datagram to its own addresses, to
or from port 8013, whose header has VERSION 1 and the packet's LENGTH; it sends a reply in datagrams of that form, and the I3C port
puts one out in packets of 64 bytes and raises the in-band interrupt (the form of a packet is open, and the unit a choice, log entry
59). Once CONFIG serves every type, an address or
endpoint identity is taken, ENTDAA showing the provisional ID; base, sensor and log requests are answered; REG_WRITE writes with Grembedun's rights but refuses the registers of the swatch store;
TOD_ARM arms; ATTEST queues a report, whose body is formed when it is signed; OWNER_BURN burns OWNER_HASH once; a store entry is
installed from a candidate, removed, restored or quarantined. The code numbers of the replies and of the commands that
GetPLDMCommands shows are presumed (log entry 46), and the TID and the versions open values (log entry 15); so are the bytes of a
platform descriptor record, while how the records are numbered and read is presumed (log entry 15). A read clears the RC fields of its register and
nothing else (R12). While a release runs, a command that would write the swatch store writes nothing, raises HOST_ACCESS_DENIED and is
refused (R510; its reply code is the model's reading, log entry 46). -/
def Obligations.ManagementAnswersItsRequests : Prop :=
  (∀ (i : Instr) (f : SidebandFrame) (s : State), viaOf i = some (.sideband f) →
    f.udp = false ∨ f.mac ≠ s.sidebandMac ∨ f.ip ≠ linkLocal s.sidebandMac ∨ (f.toPort ≠ 8013 ∧ f.fromPort ≠ 8013) ∨ f.version ≠ 1 ∨
      f.length.toNat ≠ f.packet → Completes i s s) ∧
  (∀ (s : State) code data, s.sidebandMac = BitVec.ofNat 48 (0x02 * 2 ^ 40 + s.fuseUid % 2 ^ 40) ∧
    (s.reply .i3c code data).outbox = s.outbox ++ .reply .i3c code data ::
      (msgUnits 64 data).map (fun u => .i3cPacket (Config.mctpPacket code u)) ++ [.inBand] ∧
    (s.reply .sideband code data).outbox = s.outbox ++ .reply .sideband code data :: (msgUnits 1024 data).map (fun u =>
      .datagram s.sidebandMac (linkLocal s.sidebandMac) 8013
        ([1, 0] ++ leBytes 2 (Config.mctpPacket code u).length ++ Config.mctpPacket code u))) ∧
  ∀ (s : State) (via : Channel), s.service = .full → s.takes via = true →
    (∀ a : BitVec 7, (Answers (.entdaa a) s fun t => t.mgmt = { s.mgmt with i3cAddr := some a.toNat } ∧
        t.outbox = s.outbox ++ [.provisionalId (BitVec.ofNat 48 (0x2A3 * 2 ^ 33 + 2 ^ 32 + s.fuseUid % 2 ^ 32))] ∧ NoFields s t) ∧
      Completes (.setdasa 0x3A a) s { s with mgmt := { s.mgmt with i3cAddr := some a.toNat } } ∧
      ∀ st : BitVec 7, st ≠ 0x3A → Completes (.setdasa st a) s s) ∧
    (∀ eid : BitVec 8, (eid ≠ 0 → eid ≠ 255 → Answers (.setEndpointId via eid) s fun t =>
        smGet (fun _ => 0) t.mgmt.eids (epKey via.ep) = eid.toNat ∧ Replied via 0 (leBytes 1 eid.toNat) s t ∧ NoFields s t) ∧
      (eid = 0 ∨ eid = 255 → Completes (.setEndpointId via eid) s (s.reply via.ep 2)) ∧
      Answers (.setEventReceiver via eid) s fun t => t.mgmt.receiver = some (via.ep, eid.toNat) ∧ Replied via 0 [] s t ∧ NoFields s t) ∧
    (Completes (.pldmBaseCommand via .getTypes) s (s.reply via.ep 0 (leBytes 8 (2 ^ 63 + 0x25))) ∧
      (Answers (.pldmBaseCommand via .getTid) s fun t => (∃ b, Replied via 0 [b] s t) ∧ NoFields s t) ∧
      Completes (.pldmBaseCommand via .getPdrInfo) s (s.reply via.ep 0 (leBytes 4 109)) ∧
      (∀ (r : BitVec 32) k p, k = r.toNat - 1 → pdrRepository[k]? = some p → Completes (.pldmBaseCommand via (.getPdr r)) s
        (s.reply via.ep 0 (leBytes 4 (if k + 1 < 109 then k + 2 else 0) ++ Config.pdrBytes p.id p.numeric p.limits))) ∧
      (∀ r : BitVec 32, 109 < r.toNat → Completes (.pldmBaseCommand via (.getPdr r)) s (s.reply via.ep 0x82)) ∧
      (∀ ty : BitVec 6, ty ∈ [0, 2, 5, 63] →
        Completes (.pldmBaseCommand via (.getCommands ty)) s (s.reply via.ep 0 (leBytes 32 (commandMask ty.toNat))) ∧
        (Answers (.pldmBaseCommand via (.getVersion ty)) s fun t => (∃ bs, bs.length = 4 ∧ Replied via 0 bs s t) ∧ NoFields s t)) ∧
      (∀ ty : BitVec 6, ty ∉ [0, 2, 5, 63] → Completes (.pldmBaseCommand via (.getCommands ty)) s (s.reply via.ep 0x83) ∧
        Completes (.pldmBaseCommand via (.getVersion ty)) s (s.reply via.ep 0x83))) ∧
    (∀ id : BitVec 16, (∀ bs, sensorValue s id.toNat = some bs → Completes (.sensorReadingRequest via id) s (s.reply via.ep 0 bs)) ∧
      (sensorValue s id.toNat = none → Completes (.sensorReadingRequest via id) s (s.reply via.ep 0x80))) ∧
    (∀ off : BitVec 28, unpoweredReg s off.toNat = true → Completes (.regRead via off) s (s.reply via.ep 0x83) ∧
      ∀ v, Completes (.regWrite via off v) s (s.reply via.ep 0x83)) ∧
    (∀ off : BitVec 28, Reaches s off.toNat → unpoweredReg s off.toNat = false →
      (Answers (.regRead via off) s fun t => Replied via 0 (leBytes 8 (liveReg s off.toNat % 2 ^ 64)) s t ∧
        (∀ b i l r f, rowOf off.toNat = some (b, i, l, r) → f ∈ r.fields → ∀ k, f.lo ≤ k → k ≤ f.hi →
          (t.reg off.toNat).getLsbD k = (f.acc != .rc && (s.reg off.toNat).getLsbD k)) ∧
        SameRegsBut [off.toNat] s t ∧ SameWork s t) ∧
      (∀ v, storeReg off.toNat = false → Completes (.regWrite via off v) s { (writeReg s true off.toNat v.toNat).reply via.ep 0 with pending := s.pending }) ∧
      (∀ v, storeReg off.toNat = true → Completes (.regWrite via off v) s (s.reply via.ep 0x81)) ∧
      (∀ v, off.toNat = Reg.GCTL_JOB_SEED → s.jobActive = false → Completes (.regWrite via off v) s ((s.setReg Reg.GCTL_JOB_SEED v).reply via.ep 0))) ∧
    (∀ sec : BitVec 48, Answers (.todArmCommand via sec) s fun t => t.time.armed = true ∧ Replied via 0 [] s t ∧
      OnlyFields [(Reg.TIME_TOD_SEC_SEC, sec.toNat)] s t) ∧
    (∀ seq : W64, (s.logHeld seq.toNat = none → Completes (.logRead via seq 1) s (s.reply via.ep 0x83)) ∧
      ∀ e, s.logHeld seq.toNat = some e → Completes (.logRead via seq 1) s (s.reply via.ep 0 e)) ∧
    (∀ n, s.mgmt.logSeq = some n → Completes (.logHead via) s (s.reply via.ep 0 (leBytes 8 n ++ s.mgmt.logChain))) ∧
    (∀ nonce : BitVec 256, s.readyOrRun = true →
      ((s.mgmt.attests.filter (·.report.isNone)).length < 4 → Answers (.attest via nonce) s fun t =>
        t.mgmt.attests = s.mgmt.attests ++ [{ handle := s.mgmt.nextHandle, nonce := nonce.toNat }] ∧
        t.mgmt.nextHandle = s.mgmt.nextHandle + 1 ∧ Replied via 0 (leBytes 4 s.mgmt.nextHandle) s t ∧ NoFields s t) ∧
      (4 ≤ (s.mgmt.attests.filter (·.report.isNone)).length → Completes (.attest via nonce) s (s.reply via.ep 0x80))) ∧
    (∀ a, s.mgmt.attests.find? (·.report.isNone) = some a → Answers .attestSigned s fun t =>
      (∃ sig : List Byte, sig.length = 49856 ∧ ∀ x ∈ s.mgmt.attests, x.handle = a.handle →
        { x with report := some (reportBody s a.nonce ++ sig) } ∈ t.mgmt.attests) ∧ t.outbox = s.outbox ∧ NoFields s t) ∧
    (∀ h off a, s.mgmt.attests.find? (·.handle == h) = some a →
      (a.report = none → Completes (.attestGet via h off) s (s.reply via.ep 0x80)) ∧
      ∀ r, a.report = some r → off < reportBytes → Completes (.attestGet via h off) s (s.reply via.ep 0 ((r.drop off).take 1024))) ∧
    (∀ hash : BitVec 256, s.fld Reg.GCTL_DEV_STATE_STATE = 1 →
      (s.fuses.ownerHash = 0 → Answers (.ownerBurn via hash) s fun t => t.fuses.ownerHash = hash.toNat ∧
        Replied via 0 [] s t ∧ NoFields s t) ∧
      (s.fuses.ownerHash ≠ 0 → Completes (.ownerBurn via hash) s (s.reply via.ep 0x84))) ∧
    (∀ (swid : W64) e, s.storeFree = some e → s.readyOrRun = true → s.flag Reg.RES_CAP_STAT_DONE = true → s.releasing = false →
      Answers (.swatchCandidate via swid) s fun t => t.reg (Reg.RES_SWS_ADDR e) = s.reg Reg.RES_CAP_ADDR ∧ t.reg (Reg.RES_SWS_ID e) = swid ∧
        t.fld (Reg.RES_SWS_CTL_UNIT e) = 0 ∧ t.fld (Reg.RES_SWS_CTL_STATE e) = 2 ∧ Replied via 0 (leBytes 1 e) s t ∧
        SameRegsBut [Reg.RES_SWS_ADDR e, Reg.RES_SWS_LEN e, Reg.RES_SWS_ID e, Reg.RES_SWS_CTL e] s t ∧ SameWork s t) ∧
    (∀ (i : Instr) (swid : W64) (entry : BitVec 8) st, s.releasing = true → s.readyOrRun = true →
      i = .swatchCandidate via swid ∨ (i = .swatchState via entry st ∧ (st = 0 ∨ st = 1 ∨ st = 3)) → Answers i s fun t =>
        Replied via 0x81 [] s t ∧ SameRegsBut [Reg.FAULT_FR_STAT] s t ∧ SameWork s t ∧ t.mgmt.logSeq = s.mgmt.logSeq) ∧
    (∀ entry : BitVec 8, s.readyOrRun = true → s.releasing = false →
      (Answers (.swatchState via entry 0) s fun t => Replied via 0 [] s t ∧ t.fld (Reg.RES_SWS_CTL_STATE entry.toNat) = 0 ∧
        (t.flag Reg.RES_HEALTH_SUSPECT = true → s.flag Reg.RES_HEALTH_SUSPECT = true) ∧
        SameRegsBut [Reg.RES_SWS_CTL entry.toNat, Reg.RES_HEALTH] s t ∧ SameWork s t ∧
        (s.flag Reg.RES_HEALTH_SUSPECT = false → OnlyFields [(Reg.RES_SWS_CTL_STATE entry.toNat, 0)] s t)) ∧
      (s.fld (Reg.RES_SWS_CTL_STATE entry.toNat) = 3 → s.fld (Reg.RES_SWS_CTL_UNIT entry.toNat) ≠ 0 → Answers (.swatchState via entry 1) s
        fun t => Replied via 0 [] s t ∧ OnlyFields [(Reg.RES_SWS_CTL_STATE entry.toNat, 1)] s t) ∧
      (s.fld (Reg.RES_SWS_CTL_STATE entry.toNat) ≠ 3 → Completes (.swatchState via entry 1) s (s.reply via.ep 0x81)) ∧
      (Answers (.swatchState via entry 3) s fun t => t.fld (Reg.RES_SWS_CTL_STATE entry.toNat) = 3 ∧
        (s.ringOn = true → Replied via 0 [] s t) ∧
        SameRegsBut [Reg.RES_SWS_CTL entry.toNat, Reg.FAULT_FR_STAT, Reg.RES_HEALTH] s t ∧ SameWork s t))

/-- Staged transfers and updates (R460 to R464, R471, R474): one transfer is open at a time; its data is staged where it says; ten
idle seconds discard it; its close ends it and installs a certificate chain, a signed swatch in the lowest empty store entry, or burns
the fuses that a signed command names. One update session is open at a time; its header is checked before its region is erased and
programmed, VerifyComplete makes the region valid, ActivateFirmware ends a session whose image has verified and in recovery goes on with
CONFIG, and a cancelled session leaves its erased region invalid. A swatch is installed when its signature verifies under a key of the
trust list, over every byte of the image before it, and refused when it does not (R396, R474). The code numbers of the replies are presumed
(log entry 46), and so is the form of a key (log entry 11). -/
def Obligations.TransfersAndUpdates : Prop :=
  (∀ (s : State) via u, s.service = .recovery → s.takes via = true → s.mgmt.update = some u → u.ep = via.ep →
    (u.verified = false ∨ u.component.isSome = true ∨ 1 ∈ s.mgmt.badRegion → Completes (.activateFirmware via) s (s.reply via.ep 0x85)) ∧
    (u.verified = true → u.component = none → 1 ∉ s.mgmt.badRegion → s.fld Reg.GCTL_DEV_STATE_PHASE = 1 → Answers (.activateFirmware via) s fun t => t.mgmt.update = none ∧
      t.boot.recovery = false ∧ t.boot.running = true ∧ t.fld Reg.GCTL_DEV_STATE_PHASE = 2 ∧ t.fuses = s.fuses ∧
      SameRegsBut [Reg.GCTL_DEV_STATE] s t ∧ SameWork s t)) ∧
  ∀ (s : State) (via : Channel), s.service = .full → s.takes via = true →
    (∀ kind len, (s.mgmt.xfer = none → len ≤ 0x800000 → Answers (.xferOpen via kind len) s fun t =>
        t.mgmt.xfer = some { kind := kind, len := len, handle := s.mgmt.nextHandle, at_ := s.pick } ∧
        Replied via 0 (leBytes 4 s.mgmt.nextHandle) s t ∧ NoFields s t) ∧
      (s.mgmt.xfer.isSome = true → Completes (.xferOpen via kind len) s (s.reply via.ep 0x80))) ∧
    (∀ x, s.mgmt.xfer = some x →
      (∀ off bytes, bytes.length ≤ 1024 → off + bytes.length ≤ x.len → Answers (.xferData via x.handle off bytes) s fun t =>
        (∃ y, t.mgmt.xfer = some y ∧ y.kind = x.kind ∧ y.len = x.len ∧ y.handle = x.handle ∧ y.at_ = s.pick ∧
          ∀ k, y.byte k = if off ≤ k ∧ k < off + bytes.length then bytes.getD (k - off) 0 else x.byte k) ∧
        Replied via 0 [] s t ∧ NoFields s t) ∧
      (x.at_ + 78125000 ≤ s.pick → Completes .xferIdleTimeout s { s with mgmt := { s.mgmt with xfer := none } }) ∧
      (∀ ok, x.kind = .cert → x.len = 30048 ∨ x.len = 60096 →
        (chainGood s x ok = true → Answers (.xferCloseCert via x.handle ok) s fun t => t.mgmt.xfer = none ∧ t.mgmt.certNew = x.slice 0 x.len ∧
          t.mgmt.certQ = certParts (x.len / 192 + 1) (x.slice 0 x.len) ∧ Replied via 0 [] s t ∧ NoFields s t) ∧
        (chainGood s x ok = false → Answers (.xferCloseCert via x.handle ok) s fun t => t.mgmt.xfer = none ∧
          t.mgmt.certNew = s.mgmt.certNew ∧ Replied via 0x82 [] s t ∧ NoFields s t)) ∧
      (∀ (a : W64) e key, x.kind = .swatch a → swatchForm x = true → key ∈ s.boot.swatchKeys →
        slhVerifies key (x.slice 0 (x.len - sigBytes)) (x.slice (x.len - sigBytes) sigBytes) = true → s.storeFree = some e →
        storeFits s a.toNat x.len (x.val 0 8) = true → s.releasing = false → Answers (.xferCloseSwatch via x.handle (some key)) s fun t => t.mgmt.xfer = none ∧
          t.reg (Reg.RES_SWS_ADDR e) = a ∧ t.reg (Reg.RES_SWS_ID e) = BitVec.ofNat 64 (x.val 0 8) ∧
          t.fld (Reg.RES_SWS_CTL_UNIT e) = x.val 10 1 ∧ t.fld (Reg.RES_SWS_CTL_STATE e) = 1 ∧
          Replied via 0 (leBytes 1 e) s t ∧
          SameRegsBut [Reg.RES_SWS_ADDR e, Reg.RES_SWS_LEN e, Reg.RES_SWS_ID e, Reg.RES_SWS_CTL e] s t ∧ SameWork s t) ∧
      (∀ a key, x.kind = .swatch a → swatchForm x = true → (∀ k, key = some k → k ∉ s.boot.swatchKeys ∨
          slhVerifies k (x.slice 0 (x.len - sigBytes)) (x.slice (x.len - sigBytes) sigBytes) = false) →
        Answers (.xferCloseSwatch via x.handle key) s fun t => t.mgmt.xfer = none ∧
        Replied via 0x82 [] s t ∧ NoFields s t) ∧
      (x.kind = .auth → x.len = 64 + sigBytes → s.boot.configEnded = true → x.val 0 16 = (s.fuses.uid.value?).getD 0 → x.val 32 32 = 0 →
        (x.val 16 8 = 1 → s.fuses.svnCount ≤ x.val 24 8 → x.val 24 8 ≤ s.boot.svn → x.val 24 8 ≤ 64 →
          Answers (.xferCloseAuth via x.handle true) s fun t => t.mgmt.xfer = none ∧
            t.fuses.svnMin = burnCount (s.fuses.svnMin ||| s.fuses.svnMinB) (x.val 24 8) ∧ t.fuses.svnMinB = t.fuses.svnMin ∧
            Replied via 0 [] s t ∧ NoFields s t) ∧
        (x.val 16 8 = 2 → x.val 24 8 < 4 → x.val 24 8 ≠ s.boot.keyIdx → s.fuses.revoked ||| 2 ^ x.val 24 8 ≠ 15 →
          Answers (.xferCloseAuth via x.handle true) s fun t => t.mgmt.xfer = none ∧
            t.fuses.revoked = s.fuses.revoked ||| 2 ^ x.val 24 8 ∧ Replied via 0 [] s t ∧ NoFields s t))) ∧
    (s.verifying = true → Completes (.requestUpdate via) s (s.reply via.ep 0x8E)) ∧
    (s.verifying = false → s.mgmt.update.isSome = true → Completes (.requestUpdate via) s (s.reply via.ep 0x81)) ∧
    (s.verifying = false → s.mgmt.update = none → Answers (.requestUpdate via) s fun t =>
      t.mgmt.update = some { ep := via.ep } ∧ Replied via 0 [] s t ∧ NoFields s t) ∧
    (∀ u, s.mgmt.update = some u → u.ep = via.ep →
      (∀ (c : BitVec 16) bytes r, c = 1 ∨ c = 2 → u.component = some c.toNat → u.failed = false → r = regionOf c.toNat →
        (u.erased = true → u.got + bytes.length ≤ r.2 → Answers (.requestFirmwareData via c bytes) s fun t =>
          t.flashBytes (r.1 + u.got) bytes.length = bytes ∧ t.mgmt.update = some { u with got := u.got + bytes.length } ∧
          (∀ a, ¬ (r.1 + u.got ≤ a ∧ a < r.1 + u.got + bytes.length) → t.flashByte a = s.flashByte a) ∧ NoFields s t) ∧
        (u.erased = false → u.got = 0 → u.head = [] → headSize c.toNat ≤ bytes.length →
          (headOk s.fuses c.toNat (bytes.take (headSize c.toNat)) = true → bytes.length ≤ r.2 → Answers (.requestFirmwareData via c bytes) s fun t =>
            t.flashBytes r.1 bytes.length = bytes ∧ (∀ a, r.1 + bytes.length ≤ a → a < r.1 + r.2 → t.flashByte a = 0xFF) ∧
            c.toNat ∈ t.mgmt.badRegion ∧ NoFields s t) ∧
          (headOk s.fuses c.toNat (bytes.take (headSize c.toNat)) = false → Answers (.requestFirmwareData via c bytes) s fun t =>
            t.flash = s.flash ∧ t.mgmt.badRegion = s.mgmt.badRegion ∧ (∃ w, t.mgmt.update = some w ∧ w.failed = true) ∧ NoFields s t))) ∧
      (∀ c ok, u.component = some c → ok = (u.erased && !u.failed &&
          decide (leValue ((u.head.drop (if c = 1 then 8 else 12)).take 4) ≤ u.got)) → Answers (.verifyComplete via true) s fun t =>
        t.mgmt.update = some { ep := via.ep, verified := u.verified || ok } ∧ (ok = true → c ∉ t.mgmt.badRegion) ∧
        (ok = false → t.mgmt.badRegion = s.mgmt.badRegion) ∧ Replied via (bit !ok) [] s t ∧ t.flash = s.flash ∧ NoFields s t) ∧
      (u.verified = false ∨ u.component.isSome = true ∨
        (s.fld Reg.GCTL_DEV_STATE_PHASE = 2 ∧ s.boot.configEnded = false ∧ 2 ∈ s.mgmt.badRegion) →
        Completes (.activateFirmware via) s (s.reply via.ep 0x85)) ∧
      (u.verified = true → u.component = none → 2 ∉ s.mgmt.badRegion → s.fld Reg.GCTL_DEV_STATE_PHASE = 2 → s.boot.configEnded = false → Answers (.activateFirmware via) s fun t =>
        t.mgmt.update = none ∧ t.boot = { s.boot with running := true } ∧ t.fuses = s.fuses ∧ Replied via 0 [] s t ∧
        NoFields s t) ∧
      (u.verified = true → u.component = none → s.fld Reg.GCTL_DEV_STATE_PHASE ≠ 2 ∨ s.boot.configEnded = true → Answers (.activateFirmware via) s fun t =>
        t.mgmt.update = none ∧ t.boot = s.boot ∧ t.fuses = s.fuses ∧ Replied via 0 (leBytes 2 0x20) s t ∧ NoFields s t) ∧
      (Answers (.cancelUpdate via) s fun t => t.mgmt.update = none ∧ t.mgmt.badRegion = s.mgmt.badRegion ∧
        Replied via 0 [] s t ∧ NoFields s t))

/-! ### Whole-machine statements -/

/-- Slot words and slot commands are the same thing: every legal slot command is decoded from its word in its slot, and a word that
decodes, decodes to a legal command of that slot whose word it is, so no two words spell one command and no bit is dropped (R207 to
R209). -/
def Obligations.SlotWordsRoundTrip : Prop :=
  (∀ c, slotIllegal c = false → decodeSlot (slotOf c) (slotWord c) = some c) ∧
  ∀ k w c, decodeSlot k w = some c → slotIllegal c = false ∧ slotOf c = k ∧ slotWord c = w

/-- Every step keeps memory and registers in their canonical form: keys strictly rising, and no entry equal to what an unlisted key reads
as. So equal contents are equal data, whatever has run. -/
def Obligations.EveryStepKeepsTheCanonicalForm : Prop := ∀ s t : State, s.canonical → step s = .next t → t.canonical
end

