-- ==== Sys2Proof/Laws/SMap.lean ====
section
/-! SUPPORT. Laws of sparse tables: a read after a write, what a write leaves alone, and the canonical form; and of bit
fields. -/
namespace Sys2Proof.Machine

section Tables
variable {α : Type} (d : Nat → α)

theorem smGet_filter_ne (m : SMap α) (k j : Nat) :
    smGet d (m.filter fun p => p.1 != k) j = if j = k then d j else smGet d m j := by
  induction m with
  | nil => simp [smGet]
  | cons p rest ih =>
    obtain ⟨a, x⟩ := p
    by_cases hak : a = k
    · subst hak
      simp only [List.filter_cons, bne_self_eq_false, Bool.false_eq_true, if_false, ih, smGet]
      by_cases hj : j = a
      · simp [hj]
      · simp [hj, Ne.symm hj]
    · have : (a != k) = true := by simpa using hak
      simp only [List.filter_cons, this, if_true, smGet, ih]
      by_cases haj : a = j
      · subst haj; simp [hak]
      · simp [haj]

theorem smGet_smPut (m : SMap α) (k j : Nat) (v : α) : smGet d (smPut m k v) j = if j = k then v else smGet d m j := by
  induction m with
  | nil => simp only [smPut, smGet, eq_comm]
  | cons p rest ih =>
    obtain ⟨a, x⟩ := p
    simp only [smPut]
    split
    · rename_i h; subst h
      by_cases hj : j = a
      · simp [smGet, hj]
      · simp [smGet, hj, Ne.symm hj]
    · rename_i h
      split
      · by_cases hj : j = k
        · simp [smGet, hj]
        · simp [smGet, hj, Ne.symm hj]
      · by_cases haj : a = j
        · subst haj; simp [smGet, h]
        · simp [smGet, haj, ih]

/-- A read after a write. -/
theorem smGet_smSet [DecidableEq α] (m : SMap α) (k j : Nat) (v : α) :
    smGet d (smSet d m k v) j = if j = k then v else smGet d m j := by
  unfold smSet
  split
  · rename_i h; subst h; rw [smGet_filter_ne]; split
    · rename_i h; subst h; rfl
    · rfl
  · rw [smGet_smPut]

@[simp] theorem smGet_smSet_same [DecidableEq α] (m : SMap α) (k : Nat) (v : α) : smGet d (smSet d m k v) k = v := by
  simp [smGet_smSet]

theorem smGet_smSet_ne [DecidableEq α] (m : SMap α) {k j : Nat} (v : α) (h : j ≠ k) :
    smGet d (smSet d m k v) j = smGet d m j := by
  simp [smGet_smSet, h]

/-! The canonical form. -/

theorem smWfFrom_weaken [DecidableEq α] {d : Nat → α} {m : SMap α} {lo lo' : Option Nat} (h : smWfFrom d lo m = true)
    (hl : ∀ l', lo' = some l' → ∃ l, lo = some l ∧ l' ≤ l) : smWfFrom d lo' m = true := by
  cases m with
  | nil => rfl
  | cons p rest =>
    simp only [smWfFrom, Bool.and_eq_true] at h ⊢
    refine ⟨⟨?_, h.1.2⟩, h.2⟩
    cases lo' with
    | none => rfl
    | some l' =>
      obtain ⟨l, rfl, hle⟩ := hl l' rfl
      have := h.1.1
      simp only [decide_eq_true_eq] at this ⊢
      omega

theorem smWfFrom_filter [DecidableEq α] {d : Nat → α} (q : Nat × α → Bool) {m : SMap α} :
    ∀ {lo : Option Nat}, smWfFrom d lo m = true → smWfFrom d lo (m.filter q) = true := by
  induction m with
  | nil => intro lo _; rfl
  | cons p rest ih =>
    intro lo h
    simp only [List.filter_cons]
    simp only [smWfFrom, Bool.and_eq_true] at h
    split
    · simp only [smWfFrom, Bool.and_eq_true]
      exact ⟨h.1, ih h.2⟩
    · have := ih h.2
      refine smWfFrom_weaken this fun l' hl' => ?_
      subst hl'
      have := h.1.1
      simp only [decide_eq_true_eq] at this
      exact ⟨p.1, rfl, by omega⟩

theorem smWfFrom_smPut [DecidableEq α] {d : Nat → α} (k : Nat) (v : α) (hv : v ≠ d k) {m : SMap α} :
    ∀ {lo : Option Nat}, (∀ l, lo = some l → l < k) → smWfFrom d lo m = true → smWfFrom d lo (smPut m k v) = true := by
  induction m with
  | nil =>
    intro lo hlo _
    cases lo with
    | none => simp [smPut, smWfFrom, hv]
    | some l => simp [smPut, smWfFrom, hv, hlo l rfl]
  | cons p rest ih =>
    intro lo hlo h
    obtain ⟨a, x⟩ := p
    simp only [smWfFrom, Bool.and_eq_true] at h
    simp only [smPut]
    split
    · rename_i hk; subst hk
      simp only [smWfFrom, Bool.and_eq_true, decide_eq_true_eq]
      exact ⟨⟨h.1.1, hv⟩, h.2⟩
    · rename_i hk
      split
      · rename_i hlt
        simp only [smWfFrom, Bool.and_eq_true, decide_eq_true_eq]
        refine ⟨⟨?_, hv⟩, ⟨hlt, ?_⟩, h.2⟩
        · cases lo with
          | none => rfl
          | some l => simpa using hlo l rfl
        · simpa using h.1.2
      · simp only [smWfFrom, Bool.and_eq_true]
        refine ⟨h.1, ih (fun l hl => ?_) h.2⟩
        simp only [Option.some.injEq] at hl
        omega

/-- A write keeps the canonical form. -/
theorem smWf_smSet [DecidableEq α] {d : Nat → α} {m : SMap α} (k : Nat) (v : α) (h : smWf d m = true) :
    smWf d (smSet d m k v) = true := by
  unfold smSet
  split
  · exact smWfFrom_filter _ h
  · rename_i hv; exact smWfFrom_smPut k v hv (fun l hl => by simp at hl) h

/-- Entries dropped keep the canonical form. -/
theorem smWf_filter [DecidableEq α] {d : Nat → α} {m : SMap α} (q : Nat × α → Bool) (h : smWf d m = true) :
    smWf d (m.filter q) = true := smWfFrom_filter q h

end Tables

/-! Bit fields. -/

theorem bitsOf_split (w hi lo : Nat) (h : lo ≤ hi) :
    w = w / 2 ^ (hi + 1) * 2 ^ (hi + 1) + bitsOf w hi lo * 2 ^ lo + w % 2 ^ lo := by
  unfold bitsOf
  rw [Nat.shiftRight_eq_div_pow]
  have e : (2 : Nat) ^ (hi + 1) = 2 ^ lo * 2 ^ (hi + 1 - lo) := by rw [← Nat.pow_add]; congr 1; omega
  rw [e]
  have h1 := Nat.div_add_mod w (2 ^ lo)
  have h2 := Nat.div_add_mod (w / 2 ^ lo) (2 ^ (hi + 1 - lo))
  rw [Nat.div_div_eq_div_mul] at h2
  generalize w / (2 ^ lo * 2 ^ (hi + 1 - lo)) = q at *
  generalize w / 2 ^ lo % 2 ^ (hi + 1 - lo) = b at *
  generalize w % 2 ^ lo = c at *
  generalize 2 ^ lo = p at *
  generalize 2 ^ (hi + 1 - lo) = r at *
  generalize w / p = z at *
  subst h2
  rw [← h1, Nat.mul_add]
  simp only [Nat.mul_comm, Nat.mul_left_comm]

theorem setBits_eq (w hi lo v : Nat) (h : lo ≤ hi) :
    setBits w hi lo v = w / 2 ^ (hi + 1) * 2 ^ (hi + 1) + v % 2 ^ (hi + 1 - lo) * 2 ^ lo + w % 2 ^ lo := by
  have hs := bitsOf_split w hi lo h
  unfold setBits
  generalize bitsOf w hi lo * 2 ^ lo = b at *
  generalize w / 2 ^ (hi + 1) * 2 ^ (hi + 1) = a at *
  generalize w % 2 ^ lo = c at *
  omega

theorem setBits_testBit (w hi lo v i : Nat) (h : lo ≤ hi) :
    (setBits w hi lo v).testBit i = if lo ≤ i ∧ i ≤ hi then v.testBit (i - lo) else w.testBit i := by
  rw [setBits_eq w hi lo v h]
  have hc : w % 2 ^ lo < 2 ^ lo := Nat.mod_lt _ (Nat.two_pow_pos _)
  have hv : v % 2 ^ (hi + 1 - lo) < 2 ^ (hi + 1 - lo) := Nat.mod_lt _ (Nat.two_pow_pos _)
  have e : (2 : Nat) ^ (hi + 1) = 2 ^ (hi + 1 - lo) * 2 ^ lo := by rw [← Nat.pow_add]; congr 1; omega
  have : w / 2 ^ (hi + 1) * 2 ^ (hi + 1) + v % 2 ^ (hi + 1 - lo) * 2 ^ lo + w % 2 ^ lo =
      2 ^ lo * (2 ^ (hi + 1 - lo) * (w / 2 ^ (hi + 1)) + v % 2 ^ (hi + 1 - lo)) + w % 2 ^ lo := by
    rw [Nat.mul_add, ← Nat.mul_assoc, Nat.mul_comm (2 ^ lo) (2 ^ (hi + 1 - lo)), ← e, Nat.mul_comm (2 ^ (hi + 1)), Nat.mul_comm (2 ^ lo)]
  rw [this, Nat.testBit_two_pow_mul_add _ hc]
  by_cases h1 : i < lo
  · rw [if_pos h1, if_neg (by omega), Nat.testBit_mod_two_pow]; simp [h1]
  · rw [if_neg h1, Nat.testBit_two_pow_mul_add _ hv]
    by_cases h2 : i ≤ hi
    · rw [if_pos (by omega), if_pos (by omega), Nat.testBit_mod_two_pow]
      have : i - lo < hi + 1 - lo := by omega
      simp [this]
    · rw [if_neg (by omega), if_neg (by omega), Nat.testBit_div_two_pow]
      congr 1; omega

theorem bitsOf_testBit (w hi lo i : Nat) : (bitsOf w hi lo).testBit i = (decide (i < hi + 1 - lo) && w.testBit (lo + i)) := by
  unfold bitsOf
  rw [Nat.testBit_mod_two_pow, Nat.testBit_shiftRight]

theorem bitsOf_setBits_same (w hi lo v : Nat) (h : lo ≤ hi) : bitsOf (setBits w hi lo v) hi lo = v % 2 ^ (hi + 1 - lo) := by
  apply Nat.eq_of_testBit_eq
  intro i
  rw [bitsOf_testBit, setBits_testBit _ _ _ _ _ h, Nat.testBit_mod_two_pow]
  by_cases hi' : i < hi + 1 - lo
  · have : lo ≤ lo + i ∧ lo + i ≤ hi := by omega
    simp [hi', this]
  · simp [hi']

theorem bitsOf_setBits_other (w hi lo v hi' lo' : Nat) (h : lo ≤ hi) (hd : hi' < lo ∨ hi < lo') :
    bitsOf (setBits w hi lo v) hi' lo' = bitsOf w hi' lo' := by
  apply Nat.eq_of_testBit_eq
  intro i
  rw [bitsOf_testBit, bitsOf_testBit, setBits_testBit _ _ _ _ _ h]
  by_cases hi2 : i < hi' + 1 - lo'
  · have : ¬ (lo ≤ lo' + i ∧ lo' + i ≤ hi) := by omega
    simp [hi2, this]
  · simp [hi2]

theorem bitsOf_mod64 (w hi lo : Nat) (h : hi < 64) : bitsOf (w % 2 ^ 64) hi lo = bitsOf w hi lo := by
  apply Nat.eq_of_testBit_eq
  intro i
  rw [bitsOf_testBit, bitsOf_testBit, Nat.testBit_mod_two_pow]
  by_cases hi2 : i < hi + 1 - lo
  · have : lo + i < 64 := by omega
    simp [this]
  · simp [hi2]

end Sys2Proof.Machine
end

