-- ==== Sys2Proof/Laws/State.lean ====
section
/-! SUPPORT. Laws of State: what each update leaves alone, one lemma for each field. -/
namespace Sys2Proof.Machine

variable (s : State)

@[simp] theorem setReg_pending (off : Nat) (v : W64) : (s.setReg off v).pending = s.pending := rfl
@[simp] theorem setReg_mem (off : Nat) (v : W64) : (s.setReg off v).mem = s.mem := rfl
@[simp] theorem setReg_imem (off : Nat) (v : W64) : (s.setReg off v).imem = s.imem := rfl
@[simp] theorem setReg_badWords (off : Nat) (v : W64) : (s.setReg off v).badWords = s.badWords := rfl
@[simp] theorem setReg_rowErrs (off : Nat) (v : W64) : (s.setReg off v).rowErrs = s.rowErrs := rfl
@[simp] theorem setReg_chanErrs (off : Nat) (v : W64) : (s.setReg off v).chanErrs = s.chanErrs := rfl
@[simp] theorem setReg_sparing (off : Nat) (v : W64) : (s.setReg off v).sparing = s.sparing := rfl
@[simp] theorem setReg_trainedTo (off : Nat) (v : W64) : (s.setReg off v).trainedTo = s.trainedTo := rfl
@[simp] theorem setReg_time (off : Nat) (v : W64) : (s.setReg off v).time = s.time := rfl
@[simp] theorem setReg_streams (off : Nat) (v : W64) : (s.setReg off v).streams = s.streams := rfl
@[simp] theorem setReg_resident (off : Nat) (v : W64) : (s.setReg off v).resident = s.resident := rfl
@[simp] theorem setReg_cmds (off : Nat) (v : W64) : (s.setReg off v).cmds = s.cmds := rfl
@[simp] theorem setReg_nextId (off : Nat) (v : W64) : (s.setReg off v).nextId = s.nextId := rfl
@[simp] theorem setReg_descs (off : Nat) (v : W64) : (s.setReg off v).descs = s.descs := rfl
@[simp] theorem setReg_descWait (off : Nat) (v : W64) : (s.setReg off v).descWait = s.descWait := rfl
@[simp] theorem setReg_htWait (off : Nat) (v : W64) : (s.setReg off v).htWait = s.htWait := rfl
@[simp] theorem setReg_fprogs (off : Nat) (v : W64) : (s.setReg off v).fprogs = s.fprogs := rfl
@[simp] theorem setReg_fpWait (off : Nat) (v : W64) : (s.setReg off v).fpWait = s.fpWait := rfl
@[simp] theorem setReg_fullEng (off : Nat) (v : W64) : (s.setReg off v).fullEng = s.fullEng := rfl
@[simp] theorem setReg_looms (off : Nat) (v : W64) : (s.setReg off v).looms = s.looms := rfl
@[simp] theorem setReg_faults (off : Nat) (v : W64) : (s.setReg off v).faults = s.faults := rfl
@[simp] theorem setReg_res (off : Nat) (v : W64) : (s.setReg off v).res = s.res := rfl
@[simp] theorem setReg_wvn (off : Nat) (v : W64) : (s.setReg off v).wvn = s.wvn := rfl
@[simp] theorem setReg_host (off : Nat) (v : W64) : (s.setReg off v).host = s.host := rfl
@[simp] theorem setReg_pwr (off : Nat) (v : W64) : (s.setReg off v).pwr = s.pwr := rfl
@[simp] theorem setReg_boot (off : Nat) (v : W64) : (s.setReg off v).boot = s.boot := rfl
@[simp] theorem setReg_fuses (off : Nat) (v : W64) : (s.setReg off v).fuses = s.fuses := rfl
@[simp] theorem setReg_flash (off : Nat) (v : W64) : (s.setReg off v).flash = s.flash := rfl
@[simp] theorem setReg_mgmt (off : Nat) (v : W64) : (s.setReg off v).mgmt = s.mgmt := rfl
@[simp] theorem setReg_cnt (off : Nat) (v : W64) : (s.setReg off v).cnt = s.cnt := rfl
@[simp] theorem setReg_outbox (off : Nat) (v : W64) : (s.setReg off v).outbox = s.outbox := rfl
@[simp] theorem setReg_swMode (off : Nat) (v : W64) : (s.setReg off v).swMode = s.swMode := rfl
@[simp] theorem setReg_freeCtr (off : Nat) (v : W64) : (s.setReg off v).freeCtr = s.freeCtr := rfl

@[simp] theorem setFld_pending (f : Fld) (v : Nat) : (s.setFld f v).pending = s.pending := rfl
@[simp] theorem setFld_mem (f : Fld) (v : Nat) : (s.setFld f v).mem = s.mem := rfl
@[simp] theorem setFld_imem (f : Fld) (v : Nat) : (s.setFld f v).imem = s.imem := rfl
@[simp] theorem setFld_badWords (f : Fld) (v : Nat) : (s.setFld f v).badWords = s.badWords := rfl
@[simp] theorem setFld_rowErrs (f : Fld) (v : Nat) : (s.setFld f v).rowErrs = s.rowErrs := rfl
@[simp] theorem setFld_chanErrs (f : Fld) (v : Nat) : (s.setFld f v).chanErrs = s.chanErrs := rfl
@[simp] theorem setFld_sparing (f : Fld) (v : Nat) : (s.setFld f v).sparing = s.sparing := rfl
@[simp] theorem setFld_trainedTo (f : Fld) (v : Nat) : (s.setFld f v).trainedTo = s.trainedTo := rfl
@[simp] theorem setFld_time (f : Fld) (v : Nat) : (s.setFld f v).time = s.time := rfl
@[simp] theorem setFld_streams (f : Fld) (v : Nat) : (s.setFld f v).streams = s.streams := rfl
@[simp] theorem setFld_resident (f : Fld) (v : Nat) : (s.setFld f v).resident = s.resident := rfl
@[simp] theorem setFld_cmds (f : Fld) (v : Nat) : (s.setFld f v).cmds = s.cmds := rfl
@[simp] theorem setFld_nextId (f : Fld) (v : Nat) : (s.setFld f v).nextId = s.nextId := rfl
@[simp] theorem setFld_descs (f : Fld) (v : Nat) : (s.setFld f v).descs = s.descs := rfl
@[simp] theorem setFld_descWait (f : Fld) (v : Nat) : (s.setFld f v).descWait = s.descWait := rfl
@[simp] theorem setFld_htWait (f : Fld) (v : Nat) : (s.setFld f v).htWait = s.htWait := rfl
@[simp] theorem setFld_fprogs (f : Fld) (v : Nat) : (s.setFld f v).fprogs = s.fprogs := rfl
@[simp] theorem setFld_fpWait (f : Fld) (v : Nat) : (s.setFld f v).fpWait = s.fpWait := rfl
@[simp] theorem setFld_fullEng (f : Fld) (v : Nat) : (s.setFld f v).fullEng = s.fullEng := rfl
@[simp] theorem setFld_looms (f : Fld) (v : Nat) : (s.setFld f v).looms = s.looms := rfl
@[simp] theorem setFld_faults (f : Fld) (v : Nat) : (s.setFld f v).faults = s.faults := rfl
@[simp] theorem setFld_res (f : Fld) (v : Nat) : (s.setFld f v).res = s.res := rfl
@[simp] theorem setFld_wvn (f : Fld) (v : Nat) : (s.setFld f v).wvn = s.wvn := rfl
@[simp] theorem setFld_host (f : Fld) (v : Nat) : (s.setFld f v).host = s.host := rfl
@[simp] theorem setFld_pwr (f : Fld) (v : Nat) : (s.setFld f v).pwr = s.pwr := rfl
@[simp] theorem setFld_boot (f : Fld) (v : Nat) : (s.setFld f v).boot = s.boot := rfl
@[simp] theorem setFld_fuses (f : Fld) (v : Nat) : (s.setFld f v).fuses = s.fuses := rfl
@[simp] theorem setFld_flash (f : Fld) (v : Nat) : (s.setFld f v).flash = s.flash := rfl
@[simp] theorem setFld_mgmt (f : Fld) (v : Nat) : (s.setFld f v).mgmt = s.mgmt := rfl
@[simp] theorem setFld_cnt (f : Fld) (v : Nat) : (s.setFld f v).cnt = s.cnt := rfl
@[simp] theorem setFld_outbox (f : Fld) (v : Nat) : (s.setFld f v).outbox = s.outbox := rfl
@[simp] theorem setFld_swMode (f : Fld) (v : Nat) : (s.setFld f v).swMode = s.swMode := rfl
@[simp] theorem setFld_freeCtr (f : Fld) (v : Nat) : (s.setFld f v).freeCtr = s.freeCtr := rfl

@[simp] theorem setStream_pending (l k : Nat) (t : StreamSt) : (s.setStream l k t).pending = s.pending := rfl
@[simp] theorem setStream_regs (l k : Nat) (t : StreamSt) : (s.setStream l k t).regs = s.regs := rfl
@[simp] theorem setStream_mem (l k : Nat) (t : StreamSt) : (s.setStream l k t).mem = s.mem := rfl
@[simp] theorem setStream_imem (l k : Nat) (t : StreamSt) : (s.setStream l k t).imem = s.imem := rfl
@[simp] theorem setStream_badWords (l k : Nat) (t : StreamSt) : (s.setStream l k t).badWords = s.badWords := rfl
@[simp] theorem setStream_rowErrs (l k : Nat) (t : StreamSt) : (s.setStream l k t).rowErrs = s.rowErrs := rfl
@[simp] theorem setStream_chanErrs (l k : Nat) (t : StreamSt) : (s.setStream l k t).chanErrs = s.chanErrs := rfl
@[simp] theorem setStream_sparing (l k : Nat) (t : StreamSt) : (s.setStream l k t).sparing = s.sparing := rfl
@[simp] theorem setStream_trainedTo (l k : Nat) (t : StreamSt) : (s.setStream l k t).trainedTo = s.trainedTo := rfl
@[simp] theorem setStream_time (l k : Nat) (t : StreamSt) : (s.setStream l k t).time = s.time := rfl
@[simp] theorem setStream_resident (l k : Nat) (t : StreamSt) : (s.setStream l k t).resident = s.resident := rfl
@[simp] theorem setStream_cmds (l k : Nat) (t : StreamSt) : (s.setStream l k t).cmds = s.cmds := rfl
@[simp] theorem setStream_nextId (l k : Nat) (t : StreamSt) : (s.setStream l k t).nextId = s.nextId := rfl
@[simp] theorem setStream_descs (l k : Nat) (t : StreamSt) : (s.setStream l k t).descs = s.descs := rfl
@[simp] theorem setStream_descWait (l k : Nat) (t : StreamSt) : (s.setStream l k t).descWait = s.descWait := rfl
@[simp] theorem setStream_htWait (l k : Nat) (t : StreamSt) : (s.setStream l k t).htWait = s.htWait := rfl
@[simp] theorem setStream_fprogs (l k : Nat) (t : StreamSt) : (s.setStream l k t).fprogs = s.fprogs := rfl
@[simp] theorem setStream_fpWait (l k : Nat) (t : StreamSt) : (s.setStream l k t).fpWait = s.fpWait := rfl
@[simp] theorem setStream_fullEng (l k : Nat) (t : StreamSt) : (s.setStream l k t).fullEng = s.fullEng := rfl
@[simp] theorem setStream_looms (l k : Nat) (t : StreamSt) : (s.setStream l k t).looms = s.looms := rfl
@[simp] theorem setStream_faults (l k : Nat) (t : StreamSt) : (s.setStream l k t).faults = s.faults := rfl
@[simp] theorem setStream_res (l k : Nat) (t : StreamSt) : (s.setStream l k t).res = s.res := rfl
@[simp] theorem setStream_wvn (l k : Nat) (t : StreamSt) : (s.setStream l k t).wvn = s.wvn := rfl
@[simp] theorem setStream_host (l k : Nat) (t : StreamSt) : (s.setStream l k t).host = s.host := rfl
@[simp] theorem setStream_pwr (l k : Nat) (t : StreamSt) : (s.setStream l k t).pwr = s.pwr := rfl
@[simp] theorem setStream_boot (l k : Nat) (t : StreamSt) : (s.setStream l k t).boot = s.boot := rfl
@[simp] theorem setStream_fuses (l k : Nat) (t : StreamSt) : (s.setStream l k t).fuses = s.fuses := rfl
@[simp] theorem setStream_flash (l k : Nat) (t : StreamSt) : (s.setStream l k t).flash = s.flash := rfl
@[simp] theorem setStream_mgmt (l k : Nat) (t : StreamSt) : (s.setStream l k t).mgmt = s.mgmt := rfl
@[simp] theorem setStream_cnt (l k : Nat) (t : StreamSt) : (s.setStream l k t).cnt = s.cnt := rfl
@[simp] theorem setStream_outbox (l k : Nat) (t : StreamSt) : (s.setStream l k t).outbox = s.outbox := rfl
@[simp] theorem setStream_swMode (l k : Nat) (t : StreamSt) : (s.setStream l k t).swMode = s.swMode := rfl
@[simp] theorem setStream_freeCtr (l k : Nat) (t : StreamSt) : (s.setStream l k t).freeCtr = s.freeCtr := rfl

@[simp] theorem setLoom_pending (l : Nat) (t : LoomSt) : (s.setLoom l t).pending = s.pending := rfl
@[simp] theorem setLoom_regs (l : Nat) (t : LoomSt) : (s.setLoom l t).regs = s.regs := rfl
@[simp] theorem setLoom_mem (l : Nat) (t : LoomSt) : (s.setLoom l t).mem = s.mem := rfl
@[simp] theorem setLoom_imem (l : Nat) (t : LoomSt) : (s.setLoom l t).imem = s.imem := rfl
@[simp] theorem setLoom_badWords (l : Nat) (t : LoomSt) : (s.setLoom l t).badWords = s.badWords := rfl
@[simp] theorem setLoom_rowErrs (l : Nat) (t : LoomSt) : (s.setLoom l t).rowErrs = s.rowErrs := rfl
@[simp] theorem setLoom_chanErrs (l : Nat) (t : LoomSt) : (s.setLoom l t).chanErrs = s.chanErrs := rfl
@[simp] theorem setLoom_sparing (l : Nat) (t : LoomSt) : (s.setLoom l t).sparing = s.sparing := rfl
@[simp] theorem setLoom_trainedTo (l : Nat) (t : LoomSt) : (s.setLoom l t).trainedTo = s.trainedTo := rfl
@[simp] theorem setLoom_time (l : Nat) (t : LoomSt) : (s.setLoom l t).time = s.time := rfl
@[simp] theorem setLoom_streams (l : Nat) (t : LoomSt) : (s.setLoom l t).streams = s.streams := rfl
@[simp] theorem setLoom_resident (l : Nat) (t : LoomSt) : (s.setLoom l t).resident = s.resident := rfl
@[simp] theorem setLoom_cmds (l : Nat) (t : LoomSt) : (s.setLoom l t).cmds = s.cmds := rfl
@[simp] theorem setLoom_nextId (l : Nat) (t : LoomSt) : (s.setLoom l t).nextId = s.nextId := rfl
@[simp] theorem setLoom_descs (l : Nat) (t : LoomSt) : (s.setLoom l t).descs = s.descs := rfl
@[simp] theorem setLoom_descWait (l : Nat) (t : LoomSt) : (s.setLoom l t).descWait = s.descWait := rfl
@[simp] theorem setLoom_htWait (l : Nat) (t : LoomSt) : (s.setLoom l t).htWait = s.htWait := rfl
@[simp] theorem setLoom_fprogs (l : Nat) (t : LoomSt) : (s.setLoom l t).fprogs = s.fprogs := rfl
@[simp] theorem setLoom_fpWait (l : Nat) (t : LoomSt) : (s.setLoom l t).fpWait = s.fpWait := rfl
@[simp] theorem setLoom_fullEng (l : Nat) (t : LoomSt) : (s.setLoom l t).fullEng = s.fullEng := rfl
@[simp] theorem setLoom_faults (l : Nat) (t : LoomSt) : (s.setLoom l t).faults = s.faults := rfl
@[simp] theorem setLoom_res (l : Nat) (t : LoomSt) : (s.setLoom l t).res = s.res := rfl
@[simp] theorem setLoom_wvn (l : Nat) (t : LoomSt) : (s.setLoom l t).wvn = s.wvn := rfl
@[simp] theorem setLoom_host (l : Nat) (t : LoomSt) : (s.setLoom l t).host = s.host := rfl
@[simp] theorem setLoom_pwr (l : Nat) (t : LoomSt) : (s.setLoom l t).pwr = s.pwr := rfl
@[simp] theorem setLoom_boot (l : Nat) (t : LoomSt) : (s.setLoom l t).boot = s.boot := rfl
@[simp] theorem setLoom_fuses (l : Nat) (t : LoomSt) : (s.setLoom l t).fuses = s.fuses := rfl
@[simp] theorem setLoom_flash (l : Nat) (t : LoomSt) : (s.setLoom l t).flash = s.flash := rfl
@[simp] theorem setLoom_mgmt (l : Nat) (t : LoomSt) : (s.setLoom l t).mgmt = s.mgmt := rfl
@[simp] theorem setLoom_cnt (l : Nat) (t : LoomSt) : (s.setLoom l t).cnt = s.cnt := rfl
@[simp] theorem setLoom_outbox (l : Nat) (t : LoomSt) : (s.setLoom l t).outbox = s.outbox := rfl
@[simp] theorem setLoom_swMode (l : Nat) (t : LoomSt) : (s.setLoom l t).swMode = s.swMode := rfl
@[simp] theorem setLoom_freeCtr (l : Nat) (t : LoomSt) : (s.setLoom l t).freeCtr = s.freeCtr := rfl

@[simp] theorem setFull_pending (d : Nat) (t : FullEng) : (s.setFull d t).pending = s.pending := rfl
@[simp] theorem setFull_regs (d : Nat) (t : FullEng) : (s.setFull d t).regs = s.regs := rfl
@[simp] theorem setFull_mem (d : Nat) (t : FullEng) : (s.setFull d t).mem = s.mem := rfl
@[simp] theorem setFull_imem (d : Nat) (t : FullEng) : (s.setFull d t).imem = s.imem := rfl
@[simp] theorem setFull_badWords (d : Nat) (t : FullEng) : (s.setFull d t).badWords = s.badWords := rfl
@[simp] theorem setFull_rowErrs (d : Nat) (t : FullEng) : (s.setFull d t).rowErrs = s.rowErrs := rfl
@[simp] theorem setFull_chanErrs (d : Nat) (t : FullEng) : (s.setFull d t).chanErrs = s.chanErrs := rfl
@[simp] theorem setFull_sparing (d : Nat) (t : FullEng) : (s.setFull d t).sparing = s.sparing := rfl
@[simp] theorem setFull_trainedTo (d : Nat) (t : FullEng) : (s.setFull d t).trainedTo = s.trainedTo := rfl
@[simp] theorem setFull_time (d : Nat) (t : FullEng) : (s.setFull d t).time = s.time := rfl
@[simp] theorem setFull_streams (d : Nat) (t : FullEng) : (s.setFull d t).streams = s.streams := rfl
@[simp] theorem setFull_resident (d : Nat) (t : FullEng) : (s.setFull d t).resident = s.resident := rfl
@[simp] theorem setFull_cmds (d : Nat) (t : FullEng) : (s.setFull d t).cmds = s.cmds := rfl
@[simp] theorem setFull_nextId (d : Nat) (t : FullEng) : (s.setFull d t).nextId = s.nextId := rfl
@[simp] theorem setFull_descs (d : Nat) (t : FullEng) : (s.setFull d t).descs = s.descs := rfl
@[simp] theorem setFull_descWait (d : Nat) (t : FullEng) : (s.setFull d t).descWait = s.descWait := rfl
@[simp] theorem setFull_htWait (d : Nat) (t : FullEng) : (s.setFull d t).htWait = s.htWait := rfl
@[simp] theorem setFull_fprogs (d : Nat) (t : FullEng) : (s.setFull d t).fprogs = s.fprogs := rfl
@[simp] theorem setFull_fpWait (d : Nat) (t : FullEng) : (s.setFull d t).fpWait = s.fpWait := rfl
@[simp] theorem setFull_looms (d : Nat) (t : FullEng) : (s.setFull d t).looms = s.looms := rfl
@[simp] theorem setFull_faults (d : Nat) (t : FullEng) : (s.setFull d t).faults = s.faults := rfl
@[simp] theorem setFull_res (d : Nat) (t : FullEng) : (s.setFull d t).res = s.res := rfl
@[simp] theorem setFull_wvn (d : Nat) (t : FullEng) : (s.setFull d t).wvn = s.wvn := rfl
@[simp] theorem setFull_host (d : Nat) (t : FullEng) : (s.setFull d t).host = s.host := rfl
@[simp] theorem setFull_pwr (d : Nat) (t : FullEng) : (s.setFull d t).pwr = s.pwr := rfl
@[simp] theorem setFull_boot (d : Nat) (t : FullEng) : (s.setFull d t).boot = s.boot := rfl
@[simp] theorem setFull_fuses (d : Nat) (t : FullEng) : (s.setFull d t).fuses = s.fuses := rfl
@[simp] theorem setFull_flash (d : Nat) (t : FullEng) : (s.setFull d t).flash = s.flash := rfl
@[simp] theorem setFull_mgmt (d : Nat) (t : FullEng) : (s.setFull d t).mgmt = s.mgmt := rfl
@[simp] theorem setFull_cnt (d : Nat) (t : FullEng) : (s.setFull d t).cnt = s.cnt := rfl
@[simp] theorem setFull_outbox (d : Nat) (t : FullEng) : (s.setFull d t).outbox = s.outbox := rfl
@[simp] theorem setFull_swMode (d : Nat) (t : FullEng) : (s.setFull d t).swMode = s.swMode := rfl
@[simp] theorem setFull_freeCtr (d : Nat) (t : FullEng) : (s.setFull d t).freeCtr = s.freeCtr := rfl

@[simp] theorem setCmd_pending (c : Cmd) : (s.setCmd c).pending = s.pending := rfl
@[simp] theorem setCmd_regs (c : Cmd) : (s.setCmd c).regs = s.regs := rfl
@[simp] theorem setCmd_mem (c : Cmd) : (s.setCmd c).mem = s.mem := rfl
@[simp] theorem setCmd_imem (c : Cmd) : (s.setCmd c).imem = s.imem := rfl
@[simp] theorem setCmd_badWords (c : Cmd) : (s.setCmd c).badWords = s.badWords := rfl
@[simp] theorem setCmd_rowErrs (c : Cmd) : (s.setCmd c).rowErrs = s.rowErrs := rfl
@[simp] theorem setCmd_chanErrs (c : Cmd) : (s.setCmd c).chanErrs = s.chanErrs := rfl
@[simp] theorem setCmd_sparing (c : Cmd) : (s.setCmd c).sparing = s.sparing := rfl
@[simp] theorem setCmd_trainedTo (c : Cmd) : (s.setCmd c).trainedTo = s.trainedTo := rfl
@[simp] theorem setCmd_time (c : Cmd) : (s.setCmd c).time = s.time := rfl
@[simp] theorem setCmd_streams (c : Cmd) : (s.setCmd c).streams = s.streams := rfl
@[simp] theorem setCmd_resident (c : Cmd) : (s.setCmd c).resident = s.resident := rfl
@[simp] theorem setCmd_nextId (c : Cmd) : (s.setCmd c).nextId = s.nextId := rfl
@[simp] theorem setCmd_descs (c : Cmd) : (s.setCmd c).descs = s.descs := rfl
@[simp] theorem setCmd_descWait (c : Cmd) : (s.setCmd c).descWait = s.descWait := rfl
@[simp] theorem setCmd_htWait (c : Cmd) : (s.setCmd c).htWait = s.htWait := rfl
@[simp] theorem setCmd_fprogs (c : Cmd) : (s.setCmd c).fprogs = s.fprogs := rfl
@[simp] theorem setCmd_fpWait (c : Cmd) : (s.setCmd c).fpWait = s.fpWait := rfl
@[simp] theorem setCmd_fullEng (c : Cmd) : (s.setCmd c).fullEng = s.fullEng := rfl
@[simp] theorem setCmd_looms (c : Cmd) : (s.setCmd c).looms = s.looms := rfl
@[simp] theorem setCmd_faults (c : Cmd) : (s.setCmd c).faults = s.faults := rfl
@[simp] theorem setCmd_res (c : Cmd) : (s.setCmd c).res = s.res := rfl
@[simp] theorem setCmd_wvn (c : Cmd) : (s.setCmd c).wvn = s.wvn := rfl
@[simp] theorem setCmd_host (c : Cmd) : (s.setCmd c).host = s.host := rfl
@[simp] theorem setCmd_pwr (c : Cmd) : (s.setCmd c).pwr = s.pwr := rfl
@[simp] theorem setCmd_boot (c : Cmd) : (s.setCmd c).boot = s.boot := rfl
@[simp] theorem setCmd_fuses (c : Cmd) : (s.setCmd c).fuses = s.fuses := rfl
@[simp] theorem setCmd_flash (c : Cmd) : (s.setCmd c).flash = s.flash := rfl
@[simp] theorem setCmd_mgmt (c : Cmd) : (s.setCmd c).mgmt = s.mgmt := rfl
@[simp] theorem setCmd_cnt (c : Cmd) : (s.setCmd c).cnt = s.cnt := rfl
@[simp] theorem setCmd_outbox (c : Cmd) : (s.setCmd c).outbox = s.outbox := rfl
@[simp] theorem setCmd_swMode (c : Cmd) : (s.setCmd c).swMode = s.swMode := rfl
@[simp] theorem setCmd_freeCtr (c : Cmd) : (s.setCmd c).freeCtr = s.freeCtr := rfl

@[simp] theorem dropCmd_pending (id : Nat) : (s.dropCmd id).pending = s.pending := rfl
@[simp] theorem dropCmd_regs (id : Nat) : (s.dropCmd id).regs = s.regs := rfl
@[simp] theorem dropCmd_mem (id : Nat) : (s.dropCmd id).mem = s.mem := rfl
@[simp] theorem dropCmd_imem (id : Nat) : (s.dropCmd id).imem = s.imem := rfl
@[simp] theorem dropCmd_badWords (id : Nat) : (s.dropCmd id).badWords = s.badWords := rfl
@[simp] theorem dropCmd_rowErrs (id : Nat) : (s.dropCmd id).rowErrs = s.rowErrs := rfl
@[simp] theorem dropCmd_chanErrs (id : Nat) : (s.dropCmd id).chanErrs = s.chanErrs := rfl
@[simp] theorem dropCmd_sparing (id : Nat) : (s.dropCmd id).sparing = s.sparing := rfl
@[simp] theorem dropCmd_trainedTo (id : Nat) : (s.dropCmd id).trainedTo = s.trainedTo := rfl
@[simp] theorem dropCmd_time (id : Nat) : (s.dropCmd id).time = s.time := rfl
@[simp] theorem dropCmd_streams (id : Nat) : (s.dropCmd id).streams = s.streams := rfl
@[simp] theorem dropCmd_resident (id : Nat) : (s.dropCmd id).resident = s.resident := rfl
@[simp] theorem dropCmd_nextId (id : Nat) : (s.dropCmd id).nextId = s.nextId := rfl
@[simp] theorem dropCmd_descs (id : Nat) : (s.dropCmd id).descs = s.descs := rfl
@[simp] theorem dropCmd_descWait (id : Nat) : (s.dropCmd id).descWait = s.descWait := rfl
@[simp] theorem dropCmd_htWait (id : Nat) : (s.dropCmd id).htWait = s.htWait := rfl
@[simp] theorem dropCmd_fprogs (id : Nat) : (s.dropCmd id).fprogs = s.fprogs := rfl
@[simp] theorem dropCmd_fpWait (id : Nat) : (s.dropCmd id).fpWait = s.fpWait := rfl
@[simp] theorem dropCmd_fullEng (id : Nat) : (s.dropCmd id).fullEng = s.fullEng := rfl
@[simp] theorem dropCmd_looms (id : Nat) : (s.dropCmd id).looms = s.looms := rfl
@[simp] theorem dropCmd_faults (id : Nat) : (s.dropCmd id).faults = s.faults := rfl
@[simp] theorem dropCmd_res (id : Nat) : (s.dropCmd id).res = s.res := rfl
@[simp] theorem dropCmd_wvn (id : Nat) : (s.dropCmd id).wvn = s.wvn := rfl
@[simp] theorem dropCmd_host (id : Nat) : (s.dropCmd id).host = s.host := rfl
@[simp] theorem dropCmd_pwr (id : Nat) : (s.dropCmd id).pwr = s.pwr := rfl
@[simp] theorem dropCmd_boot (id : Nat) : (s.dropCmd id).boot = s.boot := rfl
@[simp] theorem dropCmd_fuses (id : Nat) : (s.dropCmd id).fuses = s.fuses := rfl
@[simp] theorem dropCmd_flash (id : Nat) : (s.dropCmd id).flash = s.flash := rfl
@[simp] theorem dropCmd_mgmt (id : Nat) : (s.dropCmd id).mgmt = s.mgmt := rfl
@[simp] theorem dropCmd_cnt (id : Nat) : (s.dropCmd id).cnt = s.cnt := rfl
@[simp] theorem dropCmd_outbox (id : Nat) : (s.dropCmd id).outbox = s.outbox := rfl
@[simp] theorem dropCmd_swMode (id : Nat) : (s.dropCmd id).swMode = s.swMode := rfl
@[simp] theorem dropCmd_freeCtr (id : Nat) : (s.dropCmd id).freeCtr = s.freeCtr := rfl

@[simp] theorem setDesc_pending (i : Nat) (d : List W64) : (s.setDesc i d).pending = s.pending := rfl
@[simp] theorem setDesc_regs (i : Nat) (d : List W64) : (s.setDesc i d).regs = s.regs := rfl
@[simp] theorem setDesc_mem (i : Nat) (d : List W64) : (s.setDesc i d).mem = s.mem := rfl
@[simp] theorem setDesc_imem (i : Nat) (d : List W64) : (s.setDesc i d).imem = s.imem := rfl
@[simp] theorem setDesc_badWords (i : Nat) (d : List W64) : (s.setDesc i d).badWords = s.badWords := rfl
@[simp] theorem setDesc_rowErrs (i : Nat) (d : List W64) : (s.setDesc i d).rowErrs = s.rowErrs := rfl
@[simp] theorem setDesc_chanErrs (i : Nat) (d : List W64) : (s.setDesc i d).chanErrs = s.chanErrs := rfl
@[simp] theorem setDesc_sparing (i : Nat) (d : List W64) : (s.setDesc i d).sparing = s.sparing := rfl
@[simp] theorem setDesc_trainedTo (i : Nat) (d : List W64) : (s.setDesc i d).trainedTo = s.trainedTo := rfl
@[simp] theorem setDesc_time (i : Nat) (d : List W64) : (s.setDesc i d).time = s.time := rfl
@[simp] theorem setDesc_streams (i : Nat) (d : List W64) : (s.setDesc i d).streams = s.streams := rfl
@[simp] theorem setDesc_resident (i : Nat) (d : List W64) : (s.setDesc i d).resident = s.resident := rfl
@[simp] theorem setDesc_cmds (i : Nat) (d : List W64) : (s.setDesc i d).cmds = s.cmds := rfl
@[simp] theorem setDesc_nextId (i : Nat) (d : List W64) : (s.setDesc i d).nextId = s.nextId := rfl
@[simp] theorem setDesc_descWait (i : Nat) (d : List W64) : (s.setDesc i d).descWait = s.descWait := rfl
@[simp] theorem setDesc_htWait (i : Nat) (d : List W64) : (s.setDesc i d).htWait = s.htWait := rfl
@[simp] theorem setDesc_fprogs (i : Nat) (d : List W64) : (s.setDesc i d).fprogs = s.fprogs := rfl
@[simp] theorem setDesc_fpWait (i : Nat) (d : List W64) : (s.setDesc i d).fpWait = s.fpWait := rfl
@[simp] theorem setDesc_fullEng (i : Nat) (d : List W64) : (s.setDesc i d).fullEng = s.fullEng := rfl
@[simp] theorem setDesc_looms (i : Nat) (d : List W64) : (s.setDesc i d).looms = s.looms := rfl
@[simp] theorem setDesc_faults (i : Nat) (d : List W64) : (s.setDesc i d).faults = s.faults := rfl
@[simp] theorem setDesc_res (i : Nat) (d : List W64) : (s.setDesc i d).res = s.res := rfl
@[simp] theorem setDesc_wvn (i : Nat) (d : List W64) : (s.setDesc i d).wvn = s.wvn := rfl
@[simp] theorem setDesc_host (i : Nat) (d : List W64) : (s.setDesc i d).host = s.host := rfl
@[simp] theorem setDesc_pwr (i : Nat) (d : List W64) : (s.setDesc i d).pwr = s.pwr := rfl
@[simp] theorem setDesc_boot (i : Nat) (d : List W64) : (s.setDesc i d).boot = s.boot := rfl
@[simp] theorem setDesc_fuses (i : Nat) (d : List W64) : (s.setDesc i d).fuses = s.fuses := rfl
@[simp] theorem setDesc_flash (i : Nat) (d : List W64) : (s.setDesc i d).flash = s.flash := rfl
@[simp] theorem setDesc_mgmt (i : Nat) (d : List W64) : (s.setDesc i d).mgmt = s.mgmt := rfl
@[simp] theorem setDesc_cnt (i : Nat) (d : List W64) : (s.setDesc i d).cnt = s.cnt := rfl
@[simp] theorem setDesc_outbox (i : Nat) (d : List W64) : (s.setDesc i d).outbox = s.outbox := rfl
@[simp] theorem setDesc_swMode (i : Nat) (d : List W64) : (s.setDesc i d).swMode = s.swMode := rfl
@[simp] theorem setDesc_freeCtr (i : Nat) (d : List W64) : (s.setDesc i d).freeCtr = s.freeCtr := rfl

@[simp] theorem out_pending (m : OutMsg) : (s.out m).pending = s.pending := rfl
@[simp] theorem out_regs (m : OutMsg) : (s.out m).regs = s.regs := rfl
@[simp] theorem out_mem (m : OutMsg) : (s.out m).mem = s.mem := rfl
@[simp] theorem out_imem (m : OutMsg) : (s.out m).imem = s.imem := rfl
@[simp] theorem out_badWords (m : OutMsg) : (s.out m).badWords = s.badWords := rfl
@[simp] theorem out_rowErrs (m : OutMsg) : (s.out m).rowErrs = s.rowErrs := rfl
@[simp] theorem out_chanErrs (m : OutMsg) : (s.out m).chanErrs = s.chanErrs := rfl
@[simp] theorem out_sparing (m : OutMsg) : (s.out m).sparing = s.sparing := rfl
@[simp] theorem out_trainedTo (m : OutMsg) : (s.out m).trainedTo = s.trainedTo := rfl
@[simp] theorem out_time (m : OutMsg) : (s.out m).time = s.time := rfl
@[simp] theorem out_streams (m : OutMsg) : (s.out m).streams = s.streams := rfl
@[simp] theorem out_resident (m : OutMsg) : (s.out m).resident = s.resident := rfl
@[simp] theorem out_cmds (m : OutMsg) : (s.out m).cmds = s.cmds := rfl
@[simp] theorem out_nextId (m : OutMsg) : (s.out m).nextId = s.nextId := rfl
@[simp] theorem out_descs (m : OutMsg) : (s.out m).descs = s.descs := rfl
@[simp] theorem out_descWait (m : OutMsg) : (s.out m).descWait = s.descWait := rfl
@[simp] theorem out_htWait (m : OutMsg) : (s.out m).htWait = s.htWait := rfl
@[simp] theorem out_fprogs (m : OutMsg) : (s.out m).fprogs = s.fprogs := rfl
@[simp] theorem out_fpWait (m : OutMsg) : (s.out m).fpWait = s.fpWait := rfl
@[simp] theorem out_fullEng (m : OutMsg) : (s.out m).fullEng = s.fullEng := rfl
@[simp] theorem out_looms (m : OutMsg) : (s.out m).looms = s.looms := rfl
@[simp] theorem out_faults (m : OutMsg) : (s.out m).faults = s.faults := rfl
@[simp] theorem out_res (m : OutMsg) : (s.out m).res = s.res := rfl
@[simp] theorem out_wvn (m : OutMsg) : (s.out m).wvn = s.wvn := rfl
@[simp] theorem out_host (m : OutMsg) : (s.out m).host = s.host := rfl
@[simp] theorem out_pwr (m : OutMsg) : (s.out m).pwr = s.pwr := rfl
@[simp] theorem out_boot (m : OutMsg) : (s.out m).boot = s.boot := rfl
@[simp] theorem out_fuses (m : OutMsg) : (s.out m).fuses = s.fuses := rfl
@[simp] theorem out_flash (m : OutMsg) : (s.out m).flash = s.flash := rfl
@[simp] theorem out_mgmt (m : OutMsg) : (s.out m).mgmt = s.mgmt := rfl
@[simp] theorem out_cnt (m : OutMsg) : (s.out m).cnt = s.cnt := rfl
@[simp] theorem out_swMode (m : OutMsg) : (s.out m).swMode = s.swMode := rfl
@[simp] theorem out_freeCtr (m : OutMsg) : (s.out m).freeCtr = s.freeCtr := rfl

@[simp] theorem poke_pending (a : Nat) (v : Byte) : (s.poke a v).pending = s.pending := rfl
@[simp] theorem poke_regs (a : Nat) (v : Byte) : (s.poke a v).regs = s.regs := rfl
@[simp] theorem poke_imem (a : Nat) (v : Byte) : (s.poke a v).imem = s.imem := rfl
@[simp] theorem poke_badWords (a : Nat) (v : Byte) : (s.poke a v).badWords = s.badWords := rfl
@[simp] theorem poke_rowErrs (a : Nat) (v : Byte) : (s.poke a v).rowErrs = s.rowErrs := rfl
@[simp] theorem poke_chanErrs (a : Nat) (v : Byte) : (s.poke a v).chanErrs = s.chanErrs := rfl
@[simp] theorem poke_sparing (a : Nat) (v : Byte) : (s.poke a v).sparing = s.sparing := rfl
@[simp] theorem poke_trainedTo (a : Nat) (v : Byte) : (s.poke a v).trainedTo = s.trainedTo := rfl
@[simp] theorem poke_time (a : Nat) (v : Byte) : (s.poke a v).time = s.time := rfl
@[simp] theorem poke_streams (a : Nat) (v : Byte) : (s.poke a v).streams = s.streams := rfl
@[simp] theorem poke_resident (a : Nat) (v : Byte) : (s.poke a v).resident = s.resident := rfl
@[simp] theorem poke_cmds (a : Nat) (v : Byte) : (s.poke a v).cmds = s.cmds := rfl
@[simp] theorem poke_nextId (a : Nat) (v : Byte) : (s.poke a v).nextId = s.nextId := rfl
@[simp] theorem poke_descs (a : Nat) (v : Byte) : (s.poke a v).descs = s.descs := rfl
@[simp] theorem poke_descWait (a : Nat) (v : Byte) : (s.poke a v).descWait = s.descWait := rfl
@[simp] theorem poke_htWait (a : Nat) (v : Byte) : (s.poke a v).htWait = s.htWait := rfl
@[simp] theorem poke_fprogs (a : Nat) (v : Byte) : (s.poke a v).fprogs = s.fprogs := rfl
@[simp] theorem poke_fpWait (a : Nat) (v : Byte) : (s.poke a v).fpWait = s.fpWait := rfl
@[simp] theorem poke_fullEng (a : Nat) (v : Byte) : (s.poke a v).fullEng = s.fullEng := rfl
@[simp] theorem poke_looms (a : Nat) (v : Byte) : (s.poke a v).looms = s.looms := rfl
@[simp] theorem poke_faults (a : Nat) (v : Byte) : (s.poke a v).faults = s.faults := rfl
@[simp] theorem poke_res (a : Nat) (v : Byte) : (s.poke a v).res = s.res := rfl
@[simp] theorem poke_wvn (a : Nat) (v : Byte) : (s.poke a v).wvn = s.wvn := rfl
@[simp] theorem poke_host (a : Nat) (v : Byte) : (s.poke a v).host = s.host := rfl
@[simp] theorem poke_pwr (a : Nat) (v : Byte) : (s.poke a v).pwr = s.pwr := rfl
@[simp] theorem poke_boot (a : Nat) (v : Byte) : (s.poke a v).boot = s.boot := rfl
@[simp] theorem poke_fuses (a : Nat) (v : Byte) : (s.poke a v).fuses = s.fuses := rfl
@[simp] theorem poke_flash (a : Nat) (v : Byte) : (s.poke a v).flash = s.flash := rfl
@[simp] theorem poke_mgmt (a : Nat) (v : Byte) : (s.poke a v).mgmt = s.mgmt := rfl
@[simp] theorem poke_cnt (a : Nat) (v : Byte) : (s.poke a v).cnt = s.cnt := rfl
@[simp] theorem poke_outbox (a : Nat) (v : Byte) : (s.poke a v).outbox = s.outbox := rfl
@[simp] theorem poke_swMode (a : Nat) (v : Byte) : (s.poke a v).swMode = s.swMode := rfl
@[simp] theorem poke_freeCtr (a : Nat) (v : Byte) : (s.poke a v).freeCtr = s.freeCtr := rfl

@[simp] theorem zeroRange_pending (lo hi : Nat) : (s.zeroRange lo hi).pending = s.pending := rfl
@[simp] theorem zeroRange_regs (lo hi : Nat) : (s.zeroRange lo hi).regs = s.regs := rfl
@[simp] theorem zeroRange_imem (lo hi : Nat) : (s.zeroRange lo hi).imem = s.imem := rfl
@[simp] theorem zeroRange_rowErrs (lo hi : Nat) : (s.zeroRange lo hi).rowErrs = s.rowErrs := rfl
@[simp] theorem zeroRange_chanErrs (lo hi : Nat) : (s.zeroRange lo hi).chanErrs = s.chanErrs := rfl
@[simp] theorem zeroRange_sparing (lo hi : Nat) : (s.zeroRange lo hi).sparing = s.sparing := rfl
@[simp] theorem zeroRange_trainedTo (lo hi : Nat) : (s.zeroRange lo hi).trainedTo = s.trainedTo := rfl
@[simp] theorem zeroRange_time (lo hi : Nat) : (s.zeroRange lo hi).time = s.time := rfl
@[simp] theorem zeroRange_streams (lo hi : Nat) : (s.zeroRange lo hi).streams = s.streams := rfl
@[simp] theorem zeroRange_resident (lo hi : Nat) : (s.zeroRange lo hi).resident = s.resident := rfl
@[simp] theorem zeroRange_cmds (lo hi : Nat) : (s.zeroRange lo hi).cmds = s.cmds := rfl
@[simp] theorem zeroRange_nextId (lo hi : Nat) : (s.zeroRange lo hi).nextId = s.nextId := rfl
@[simp] theorem zeroRange_descs (lo hi : Nat) : (s.zeroRange lo hi).descs = s.descs := rfl
@[simp] theorem zeroRange_descWait (lo hi : Nat) : (s.zeroRange lo hi).descWait = s.descWait := rfl
@[simp] theorem zeroRange_htWait (lo hi : Nat) : (s.zeroRange lo hi).htWait = s.htWait := rfl
@[simp] theorem zeroRange_fprogs (lo hi : Nat) : (s.zeroRange lo hi).fprogs = s.fprogs := rfl
@[simp] theorem zeroRange_fpWait (lo hi : Nat) : (s.zeroRange lo hi).fpWait = s.fpWait := rfl
@[simp] theorem zeroRange_fullEng (lo hi : Nat) : (s.zeroRange lo hi).fullEng = s.fullEng := rfl
@[simp] theorem zeroRange_looms (lo hi : Nat) : (s.zeroRange lo hi).looms = s.looms := rfl
@[simp] theorem zeroRange_faults (lo hi : Nat) : (s.zeroRange lo hi).faults = s.faults := rfl
@[simp] theorem zeroRange_res (lo hi : Nat) : (s.zeroRange lo hi).res = s.res := rfl
@[simp] theorem zeroRange_wvn (lo hi : Nat) : (s.zeroRange lo hi).wvn = s.wvn := rfl
@[simp] theorem zeroRange_host (lo hi : Nat) : (s.zeroRange lo hi).host = s.host := rfl
@[simp] theorem zeroRange_pwr (lo hi : Nat) : (s.zeroRange lo hi).pwr = s.pwr := rfl
@[simp] theorem zeroRange_boot (lo hi : Nat) : (s.zeroRange lo hi).boot = s.boot := rfl
@[simp] theorem zeroRange_fuses (lo hi : Nat) : (s.zeroRange lo hi).fuses = s.fuses := rfl
@[simp] theorem zeroRange_flash (lo hi : Nat) : (s.zeroRange lo hi).flash = s.flash := rfl
@[simp] theorem zeroRange_mgmt (lo hi : Nat) : (s.zeroRange lo hi).mgmt = s.mgmt := rfl
@[simp] theorem zeroRange_cnt (lo hi : Nat) : (s.zeroRange lo hi).cnt = s.cnt := rfl
@[simp] theorem zeroRange_outbox (lo hi : Nat) : (s.zeroRange lo hi).outbox = s.outbox := rfl
@[simp] theorem zeroRange_swMode (lo hi : Nat) : (s.zeroRange lo hi).swMode = s.swMode := rfl
@[simp] theorem zeroRange_freeCtr (lo hi : Nat) : (s.zeroRange lo hi).freeCtr = s.freeCtr := rfl

end Sys2Proof.Machine
end

