-- ==== Sys2Proof/Laws/Ops.lean ====
section
/-! SUPPORT. Laws of the named operations: registers, fields, streams, memory and the canonical form. -/
namespace Sys2Proof.Machine

variable (s : State)

/-! Registers. -/

theorem reg_setReg (o p : Nat) (v : W64) : (s.setReg o v).reg p = if p = o then v else s.reg p := smGet_smSet _ _ _ _ _

@[simp] theorem reg_setReg_same (o : Nat) (v : W64) : (s.setReg o v).reg o = v := by simp [reg_setReg]

theorem reg_setReg_ne {o p : Nat} (v : W64) (h : p ≠ o) : (s.setReg o v).reg p = s.reg p := by simp [reg_setReg, h]

theorem reg_setFld_ne {f : Fld} {p : Nat} (v : Nat) (h : p ≠ f.off) : (s.setFld f v).reg p = s.reg p := reg_setReg_ne s _ h

/-- A field reads as it was written. -/
theorem fld_setFld_same (f : Fld) (v : Nat) (h : f.lo ≤ f.hi ∧ f.hi < 64) : (s.setFld f v).fld f = v % 2 ^ (f.hi + 1 - f.lo) := by
  unfold State.setFld State.fld
  rw [reg_setReg_same, BitVec.toNat_ofNat, bitsOf_mod64 _ _ _ h.2, bitsOf_setBits_same _ _ _ _ h.1]

/-- Another field of the same register, or of another one, reads as before. -/
theorem fld_setFld_other (f g : Fld) (v : Nat) (h : g.off ≠ f.off ∨ (f.lo ≤ f.hi ∧ g.hi < 64 ∧ (g.hi < f.lo ∨ f.hi < g.lo))) :
    (s.setFld f v).fld g = s.fld g := by
  unfold State.fld
  by_cases ho : g.off = f.off
  · rcases h with h | h
    · exact absurd ho h
    · unfold State.setFld
      rw [ho, reg_setReg_same, BitVec.toNat_ofNat, bitsOf_mod64 _ _ _ h.2.1, bitsOf_setBits_other _ _ _ _ _ _ h.1 h.2.2]
  · rw [reg_setFld_ne s v ho]

theorem flag_setFld_same (f : Fld) (v : Nat) (h : f.lo ≤ f.hi ∧ f.hi < 64) :
    (s.setFld f v).flag f = (v % 2 ^ (f.hi + 1 - f.lo) != 0) := by
  unfold State.flag; rw [fld_setFld_same s f v h]

theorem flag_setFld_other (f g : Fld) (v : Nat) (h : g.off ≠ f.off ∨ (f.lo ≤ f.hi ∧ g.hi < 64 ∧ (g.hi < f.lo ∨ f.hi < g.lo))) :
    (s.setFld f v).flag g = s.flag g := by
  unfold State.flag; rw [fld_setFld_other s f g v h]

/-- A saturating counter after an addition. -/
theorem fld_addSat (f : Fld) (n : Nat) (h : f.lo ≤ f.hi ∧ f.hi < 64) :
    (s.addSat f n).fld f = min (s.fld f + n) (2 ^ (f.hi + 1 - f.lo) - 1) := by
  unfold State.addSat
  rw [fld_setFld_same s f _ h]
  apply Nat.mod_eq_of_lt
  have := Nat.two_pow_pos (f.hi + 1 - f.lo)
  omega

/-- Registers stay in canonical form. -/
theorem setReg_wf (o : Nat) (v : W64) (h : smWf regReset s.regs = true) : smWf regReset (s.setReg o v).regs = true := smWf_smSet _ _ h

/-! Streams and descriptors. -/

theorem stream_setStream (l k l' k' : Nat) (t : StreamSt) :
    (s.setStream l k t).stream l' k' = if streamKey l' k' = streamKey l k then t else s.stream l' k' := smGet_smSet _ _ _ _ _

@[simp] theorem stream_setStream_same (l k : Nat) (t : StreamSt) : (s.setStream l k t).stream l k = t := by simp [stream_setStream]

@[simp] theorem stream_setReg (o : Nat) (v : W64) (l k : Nat) : (s.setReg o v).stream l k = s.stream l k := rfl
@[simp] theorem stream_setFld (f : Fld) (v : Nat) (l k : Nat) : (s.setFld f v).stream l k = s.stream l k := rfl
@[simp] theorem reg_setStream (l k : Nat) (t : StreamSt) (o : Nat) : (s.setStream l k t).reg o = s.reg o := rfl
@[simp] theorem fld_setStream (l k : Nat) (t : StreamSt) (f : Fld) : (s.setStream l k t).fld f = s.fld f := rfl
@[simp] theorem fld_out (m : OutMsg) (f : Fld) : (s.out m).fld f = s.fld f := rfl
@[simp] theorem byte_setReg (o : Nat) (v : W64) (a : Nat) : (s.setReg o v).byte a = s.byte a := rfl
@[simp] theorem byte_setFld (f : Fld) (v a : Nat) : (s.setFld f v).byte a = s.byte a := rfl
@[simp] theorem byte_setStream (l k : Nat) (t : StreamSt) (a : Nat) : (s.setStream l k t).byte a = s.byte a := rfl

theorem desc_setDesc (i j : Nat) (d : List W64) : (s.setDesc i d).desc j = if j = i then d else s.desc j := smGet_smSet _ _ _ _ _

theorem ctr_setCtr (t : StreamSt) (i j : Nat) (v : W32) : (t.setCtr i v).ctr j = if j = i then v else t.ctr j := smGet_smSet _ _ _ _ _

theorem sem_setSem (t : StreamSt) (i j : Nat) (v : W32) : (t.setSem i v).sem j = if j = i then v else t.sem j := smGet_smSet _ _ _ _ _

/-! Memory. -/

theorem byte_poke (a b : Nat) (v : Byte) : (s.poke a v).byte b = if b = a then v else s.byte b := smGet_smSet _ _ _ _ _

theorem poke_wf (a : Nat) (v : Byte) (h : Memory.wf s.mem) : Memory.wf (s.poke a v).mem := smWf_smSet _ _ h

theorem zeroRange_wf (lo hi : Nat) (h : Memory.wf s.mem) : Memory.wf (s.zeroRange lo hi).mem := smWf_filter _ h

@[simp] theorem drainFails_mem (r : Nat) : (s.drainFails r).mem = s.mem := rfl
@[simp] theorem drainFails_ckpt (r : Nat) : (s.drainFails r).res.ckpt = none := rfl

/-- Without a checkpoint no write copies a granule first. -/
theorem copyBefore_none (a : Nat) (h : s.res.ckpt = none) : s.copyBefore a = s := by
  unfold State.copyBefore; rw [h]

/-- One byte written, as memory reads after it, while no checkpoint runs. -/
theorem byte_store1 (w : BWrite) (b : Nat) (h : s.res.ckpt = none) :
    (s.store1 w).byte b = if b = w.addr then (s.byte w.addr &&& ~~~w.mask) ||| (w.val &&& w.mask) else s.byte b := by
  unfold State.store1
  simp only [copyBefore_none s w.addr h, byte_poke]

theorem foldl_smSet_wf (at_ : Nat) (l : SMap Byte) (m : SMap Byte) (h : Memory.wf m) :
    Memory.wf (l.foldl (fun m p => smSet (fun _ => (0 : Byte)) m (at_ + p.1) p.2) m) := by
  induction l generalizing m with
  | nil => exact h
  | cons p rest ih => exact ih _ (smWf_smSet _ _ h)

/-- The copies in the shadow keep memory in canonical form. -/
theorem toShadow_wf (k n : Nat) (bytes : SMap Byte) (h : Memory.wf s.mem) : Memory.wf (s.toShadow k n bytes).mem := by
  unfold State.toShadow
  exact foldl_smSet_wf _ _ _ (smWf_filter _ h)

theorem copyOnWrite_wf (i g : Nat) (h : Memory.wf s.mem) : Memory.wf (s.copyOnWrite i g).mem := by
  unfold State.copyOnWrite
  split
  · exact h
  · split
    · exact h
    · split
      · split
        · exact h
        · exact toShadow_wf _ _ _ _ h
      · exact h

theorem foldl_copyOnWrite_wf (a : Nat) (l : List (DesigBuf × Nat)) (h : Memory.wf s.mem) :
    Memory.wf (l.foldl (fun st (x : DesigBuf × Nat) => match entryOffset x.1.w0 x.1.w1 a with
      | some o => st.copyOnWrite x.2 (o / granuleSize)
      | none => st) s).mem := by
  induction l generalizing s with
  | nil => exact h
  | cons x rest ih =>
    refine ih _ ?_
    dsimp only
    split
    · exact copyOnWrite_wf _ _ _ h
    · exact h

theorem copyBefore_wf (a : Nat) (h : Memory.wf s.mem) : Memory.wf (s.copyBefore a).mem := by
  unfold State.copyBefore
  split
  · exact h
  · exact foldl_copyOnWrite_wf s a _ h

theorem store1_wf (w : BWrite) (h : Memory.wf s.mem) : Memory.wf (s.store1 w).mem := by
  unfold State.store1
  exact poke_wf _ _ _ (copyBefore_wf s _ h)

@[simp] theorem healWords_mem (ws : List BWrite) : (s.healWords ws).mem = s.mem := rfl

theorem foldl_store1_wf (ws : List BWrite) (h : Memory.wf s.mem) : Memory.wf (ws.foldl State.store1 s).mem := by
  induction ws generalizing s with
  | nil => exact h
  | cons w rest ih => exact ih _ (store1_wf s w h)

theorem storeAll_wf (ws : List BWrite) (h : Memory.wf s.mem) : Memory.wf (s.storeAll ws).mem := by
  unfold State.storeAll
  rw [healWords_mem]
  exact foldl_store1_wf s ws h

/-- A store keeps memory in canonical form. -/
theorem store_wf (ws : List BWrite) (h : Memory.wf s.mem) : Memory.wf (s.store ws).mem := storeAll_wf s _ h

theorem storeBytes_wf (a : Nat) (bs : List Byte) (h : Memory.wf s.mem) : Memory.wf (s.storeBytes a bs).mem := store_wf s _ h

theorem mergeStat_wf (m : StatMerge) (h : Memory.wf s.mem) : Memory.wf (s.mergeStat m).mem := by
  unfold State.mergeStat
  exact storeBytes_wf _ _ _ h

end Sys2Proof.Machine
end

