-- ==== Sys2Proof/Laws/Tick.lean ====
section
/-! SUPPORT. Laws of a period of the local clock: what happens on the links at a shed boundary leaves the counter alone. -/
namespace Sys2Proof.Machine

variable (s : State)

theorem foldl_time {α : Type} (f : State → α → State) (h : ∀ s a, (f s a).time = s.time) (l : List α) : (l.foldl f s).time = s.time := by
  induction l generalizing s with
  | nil => rfl
  | cons a l ih => exact (ih _).trans (h s a)

theorem rollSheds_time : (rollSheds s).time = s.time := by
  unfold rollSheds
  apply foldl_time
  intros
  rfl

theorem portEnters_time (p : Nat) : (s.portEnters p).time = s.time := by simp [State.portEnters, State.portTo, State.setPort]

theorem portsEnter_time : (portsEnter s).time = s.time := by
  unfold portsEnter
  repeat' split
  all_goals first | rfl | skip
  apply foldl_time
  intro s p
  repeat' split
  all_goals first | rfl | exact portEnters_time s p

theorem shed_pick (c : Prop) [Decidable c] : (if c then portsEnter (rollSheds s) else s).pick = s.pick := by
  split
  · exact congrArg TimeSt.pick ((portsEnter_time _).trans (rollSheds_time _))
  · rfl

/-- The counter after a period is the one it was counted to, at a shed boundary too. -/
theorem tick_pick (h : s.boot.on = true) : (tick s).pick =
    (let u := { s with faults := { s.faults with written := 0 } }.countPick
     (if u.sync = 3 then u.addSat Reg.TIME_HOLDOVER_ELAPSED_ELAPSED (u.pick - s.pick) else u).flushPaused.pick) := by
  unfold tick
  rw [if_pos h]
  exact shed_pick _ _

end Sys2Proof.Machine
end

