-- ==== Sys2Proof/Tests/Slice0.lean ====
section
/-! SUPPORT. Tests: small states; for each statement a theorem witness_<Name> whose conjuncts are its hypotheses at concrete states and
operands, clause by clause (a hypothesis shown for a state is not written again for that state; `E = .ok v` is written
`v ∈ E.toOption`); ill-formed commands that WellFormed refuses; slot words written out from the tables of R214; worked examples of the
spec. -/
namespace Sys2Proof.Tests

open Sys2Proof.Machine

set_option maxRecDepth 100000
set_option synthInstance.maxSize 4000
set_option synthInstance.maxHeartbeats 200000
set_option Elab.async false

/-! ### Small states -/

/-- A device of 80 looms and 18 ports in RUN with a job, LOCKED, its ring of 64 records at 0x1000 enabled, at pick 1000. -/
def live : State :=
  { (State.reset.setFlds [(Reg.GCTL_GRADE_ACTIVE_LOOMS, 80), (Reg.GCTL_GRADE_PORTS, 18), (Reg.GCTL_DEV_STATE_STATE, 4), (Reg.GCTL_DEV_STATE_PHASE, 8),
      (Reg.GCTL_DEV_STATE_JOB_ACTIVE, 1), (Reg.FAULT_FR_CTL_EN, 1), (Reg.FAULT_FR_CTL_LOG2N, 6), (Reg.TIME_SYNC_STAT_STATE, 2),
      (Reg.CTX_BUDGET_SLACK 0, 9), (Reg.CTX_BUDGET_WAIT_LIMIT 0, 50)]).setReg Reg.FAULT_FR_BASE 0x1000 with
    boot := { running := false, configEnded := true, trainDone := true }, time := { pick := 1000 } }

/-- A device in READY without a job. -/
def ready : State := live.setFlds [(Reg.GCTL_DEV_STATE_STATE, 3), (Reg.GCTL_DEV_STATE_JOB_ACTIVE, 0)]

/-- Stream 0 of loom 0, enabled with a ring of 4 KiB at 0x100000 and on its context. -/
def st0 : StreamSt := { enabled := true, base := 0x100000, log2 := 12 }

/-- A state with stream 0 of loom 0 as given and on its context. -/
def withStream (s : State) (t : StreamSt) : State := { s.setStream 0 0 t with resident := [(0, some (0, 0))] }

/-- Stream 0 idle, ready to take a command by itself. -/
def idle : State := withStream live st0

/-- The source of a command by itself. -/
def src0 : Src := { loom := 0, stream := 0, tag := 7 }

/-- A tensor descriptor: handle INDEX `i`, GEN 0, entry `i` of die 0's table. -/
def tensor (i fmt : Nat) (exts strides : List Nat) (bsize : Nat := 0) (bdir : Nat := 0) (mord : Nat := 0) : List W64 :=
  [BitVec.ofNat 64 (i + 2 ^ 16 * fmt + 2 ^ 20 * bsize + 2 ^ 22 * bdir + 2 ^ 27 + 2 ^ 32 * mord + 2 ^ 48 * 0x3F80), BitVec.ofNat 64 exts.length] ++
    (List.range 6).map (fun j => BitVec.ofNat 64 (exts.getD j 0)) ++ (List.range 8).map fun j => BitVec.ofNat 64 (strides.getD j 0)

/-- A tensor installed under its handle, in a buffer of 64 KiB at `base`. -/
def State.withTensor (s : State) (i base : Nat) (d : List W64) : State :=
  ((s.setDesc i d).setReg (Reg.HTAB_ENTRY_W0 0 i) (BitVec.ofNat 64 (base + 2 ^ 63))).setReg (Reg.HTAB_ENTRY_W1 0 i) 0x10000

/-- The bobbin of loom 0, in pieces of 64 KiB. -/
def bob (k : Nat) : Nat := bobbinBase + 0x10000 * k

/-- INT32, FP32 and BF16 tensors in the bobbin of loom 0. -/
def tensors (s : State) : State :=
  let v (s : State) (i fmt n : Nat) := State.withTensor s i (bob i) (tensor i fmt [n] [1])
  let m (s : State) (i fmt a b : Nat) := State.withTensor s i (bob i) (tensor i fmt [a, b] [1, a])
  let s := v (v (v s 1 5 4) 2 5 4) 3 5 4
  let s := v (v (v (v (v s 4 3 4) 5 3 4) 6 3 4) 7 3 1) 8 2 4
  m (m (m (m (m (m s 9 3 4 2) 10 3 4 2) 11 3 4 2) 13 2 2 4) 14 2 4 3) 15 3 2 3

/-- Stream 0 idle, with tensors. -/
def work : State := tensors idle

/-- The first command in flight of a state. -/
def cmd0 (s : State) : Cmd :=
  s.cmds.headD {
    id := 0, loom := 0, stream := 0, slot := 0, tag := 0, bno := 0, iters := [], c := .fence false, issuePick := 0, budget := none, dsts := [],
    names := [], wrote := [], entries := [] }

/-- The operand a handle names, by itself. -/
def opAt (s : State) (h : Handle) : Operand := (resolve s h).toOption.getD { handle := 0, words := [], w0 := 0, w1 := 0 }

/-- A state at another pick. -/
def atPick (s : State) (p : Nat) : State := { s with time := { s.time with pick := p } }

/-- The state commands lead to, one after another. -/
def after (s : State) (is : List Instr) : State :=
  is.foldl (fun s i => match exec i s with | .next t => t | _ => s) s

/-- The error of a check that fails. -/
def errorOf {ε α : Type} : Except ε α → Option ε
  | .error e => some e
  | .ok _ => none

/-! ### States that several groups share -/

def fin0 : BundleEnd := { tag := 1, le := false, pb := false, endloop := false, scalar := none, snap := [], cmps := 0, next := 2, ring := true }

def pl0 : Plane := {
  loaded := true, w := 13, fmt := .bf16, kt := 0, nt := 0, cm1 := 3, bc := true, bsize := 0, kExt := 4, nExt := 2,
  cols := [[0x3F80,0x3F80,0,0x4000],[0x3F80,0,0x3F80,0x3F80]], scales := [[],[]] }

def ct (s : State) : State := withStream s { st0 with ctrs := [(1, 3), (2, 1)] }

def acc3 : Acc := { aid := 3, fmt := .bf16, nt := 0, cm1 := 3, bc := true, rows := 3, nextKt := 0, bsize := 0, kExt := 4, nExt := 2 }

def f64t (s : State) : State := State.withTensor s 18 (bob 18) (tensor 18 4 [2,3] [1,2])

def raw (s : State) : State := State.withTensor s 19 (bob 19) (tensor 19 3 [2,3,2] [1,2,6])

def flowE : FlowEntry := {
  flow := 5, collective := false, source := true, transit := false, catcher := false, srcLoom := 0, catchLoom := 0, ncatch := 1, cidx := 0,
  inPort := 31, altIn := 31, outMask := 1, hopoff := 0, altOut := 1, altOff := 4, revPort := 0, lat := 2, dlat := 20, acklat := 30, creditLife := 100,
  cbase := 50, cstep := 10 }

def flowC : FlowEntry := { flowE with flow := 6, source := false, catcher := true, inPort := 1, altIn := 2, outMask := 0, altOut := 31, revPort := 1 }

def flowX : FlowEntry := { flowE with flow := 7, collective := true }

def sched : Schedule := {
  index := 0, schedId := 0, boltSize := 4, hash := 77, slots := (List.range 20).map (fun k => (1010 + 2*k, 21)) ++ [(8192 + 1005, 2)],
  flows := [flowE, flowC, flowX], windows := [], neighbours := [] }

def fab : State :=
  let s := State.withTensor work 40 (bob 40) (tensor 40 5 [32] [1])
  let s := State.withTensor s 41 (bob 41) (tensor 41 5 [2] [1])
  let s := s.storeBytes (bob 40) ((leBytes 8 2000).map (BitVec.ofNat 8 ·.toNat) ++ leBytes 8 3 ++ leBytes 2 4 ++
    leBytes 2 5 ++ leBytes 2 41 ++ [8, 0] ++ leBytes 4 2 ++ leBytes 4 0 ++ leBytes 8 0 ++ leBytes 8 2)
  let s := { s with
    wvn := { s.wvn with
      schedules := [sched, {sched with index := 1}], active := some sched, flows := [(5, { credits := [{cidx := 0, len := 16, arrived := 990}] })]
      ports := (List.range 4).map fun p => (p, { keyed := true }) } }
  withStream (s.setFlds ((List.range 4).map fun p => (Reg.WVN_PSTAT_STATE p, 3))) { st0 with ctrs := [(1, 5), (2, 6), (3, 7)] }

def thrS : State := after fab [.throwTo src0 2 1 16]

def catS : State := after fab [.catchAt src0 2 2 16]

/-! ### Registers -/

namespace Registers

def rel : State := ready.setFlds [(Reg.GCTL_DEV_STATE_STATE, 4), (Reg.GCTL_DEV_STATE_JOB_ACTIVE, 1), (Reg.GCTL_DEV_STATE_RELEASING, 1)]

theorem witness_BadRegisterAccessIsRefused :
    live.service = Service.full ∧
    unpoweredReg live (60#28).toNat = false ∧
    live.res.remap = none ∧
    ((60#28).toNat % 8 ≠ 0 ∨ holeReg live (60#28).toNat = true) ∧
    live.ringOn = true ∧
    -- next clause
    (live.queue (live.queueOf (live.loomAt (ctlBase + (56#28).toNat)) none)).length < 512 ∧
    live.boot.on = true ∧
    ((56#28).toNat % 8 ≠ 0 ∨ 0 ≠ 8 ∨ holeReg live (56#28).toNat = true) := by
  decide +kernel

theorem witness_RegisterWriteByAccessCode :
    Reaches live (0x30068#28).toNat ∧
    (rowOf (0x30068#28).toNat).any (fun x => x.2.2.2.fields.all fun f => f.acc == .ro || f.acc == .rc || f.acc == .w1c) = true ∧
    -- the same clause at a read-only register
    Reaches live (0#28).toNat ∧
    (rowOf (0#28).toNat).any (fun x => x.2.2.2.fields.all fun f => f.acc == .ro || f.acc == .rc || f.acc == .w1c) = true ∧
    -- next clause
    Reaches live (BitVec.ofNat 28 Reg.RES_HEALTH).toNat ∧
    (BitVec.ofNat 28 Reg.RES_HEALTH).toNat = Reg.RES_HEALTH ∧
    -- next clause
    Reaches live (8390800#28).toNat ∧
    (8390800#28).toNat = Reg.LOOM_EPICFG 0 1 2 ∧
    -- next clause
    Reaches live (8391432#28).toNat ∧
    (8391432#28).toNat = Reg.LOOM_CLAMP 0 1 ∧
    -- next clause
    Reaches live (8391496#28).toNat ∧
    (8391496#28).toNat = Reg.LOOM_GEN 0 1 ∧
    -- next clause
    Reaches live (8391712#28).toNat ∧
    (8391712#28).toNat = Reg.LOOM_VDROP 0 1 ∧
    -- next clause
    Reaches live (8391720#28).toNat ∧
    (8391720#28).toNat = Reg.LOOM_VDSCALE 0 1 ∧
    -- next clause
    Reaches live (8388872#28).toNat ∧
    (8388872#28).toNat = Reg.LOOM_FLAGS 0 1 := by
  decide +kernel

theorem witness_JobStartMovesReadyToRun :
    Reaches live Reg.GCTL_JOB_CTL ∧
    ¬(live.fld Reg.GCTL_DEV_STATE_STATE = 3 ∧ live.jobActive = false ∧ live.releasing = false ∧ live.ringOn = true) ∧
    -- next clause
    Reaches ready Reg.GCTL_JOB_CTL ∧
    (ready.fld Reg.GCTL_DEV_STATE_STATE = 3 ∧ ready.jobActive = false ∧ ready.releasing = false ∧ ready.ringOn = true) := by
  decide +kernel

theorem witness_JobReleaseReturnsToReady :
    Reaches live Reg.GCTL_JOB_CTL ∧
    live.releasing = false ∧
    (live.fld Reg.GCTL_DEV_STATE_STATE = 3 ∨ live.fld Reg.GCTL_DEV_STATE_STATE = 4) ∧
    live.cmds = [] ∧
    live.res.ckpt = none ∧
    live.flag Reg.RES_SPARE_RES_PENDING = false ∧
    live.flag Reg.PWR_PWR_STAT_DONE = true ∧
    (∀ (x : Nat × StreamSt), x ∈ live.streams → x.snd.enabled = true → x.snd.state = SState.idle ∨ x.snd.state = SState.faulted ∨
      x.snd.state = SState.stopped) ∧
    -- next clause
    Reaches rel Reg.GCTL_JOB_CTL ∧
    rel.ringOn = true ∧
    (rel.queue 4).length < 512 ∧
    -- next clause
    rel.boot.on = true ∧
    rel.nLooms ≤ 80 ∧
    rel.releasing = true := by
  decide +kernel

theorem witness_LockedJobRegisters :
    live.boot.on = true ∧
    (live.releasing = true ∨ live.jobActive = true) ∧
    live.res.remap = none ∧
    -- next clause
    ready.boot.on = true ∧
    ready.releasing = false ∧
    ready.jobActive = false ∧
    ready.res.remap = none ∧
    -- next clause
    rel.boot.on = true ∧
    rel.releasing = true ∧
    0 < rel.nLooms ∧
    -- next clause
    0 < 4 * rel.nLooms := by
  decide +kernel

end Registers

/-! ### Time -/

namespace Time

def tm (s : State) (f : TimeSt → TimeSt) : State := { s with time := f s.time }

def pps : State := (tm live fun t => { t with pick := 20000000, lastPps := some 2, armed := true }).setFlds [(Reg.TIME_TOD_CTL_PPS_PRESENT, 1),
  (Reg.TIME_TOD_SEC_SEC, 77), (Reg.TIME_SYNC_STAT_GM_CAPABLE, 1)]

/-- A running grandmaster whose armed second is far from its counter, and one at exactly its second. -/
def gmFar : State := pps.setFlds [(Reg.TIME_SYNC_STAT_STATE, 5)]

def gmNear : State := (tm gmFar fun t => { t with pick := 15625000 }).setFlds [(Reg.TIME_TOD_SEC_SEC, 2), (Reg.TIME_TOD_CTL_TOD_SET, 1)]

/-- A first pulse one pick before the 900 ms are over, after one at pick 2. -/
def early : State := atPick pps (2 + 7031249)

def keyed (s : State) : State := (((s.setPort 0 { s.port 0 with keyed := true }).setPort 3 { s.port 3 with keyed := true }).setFlds
  [(Reg.WVN_PSTAT_STATE 0, 3), (Reg.WVN_PSTAT_STATE 3, 3), (Reg.TIME_SYNC_STAT_PARENT_PORT, 3)])

def ann : State := tm (keyed live) fun t => { t with
  best := some (100, 2), ann := [(0, some {key := 120, hops := 1, seq := 4, shed := 0}), (3, some {key := 100, hops := 1, seq := 4, shed := 0})],
  synced := true }

def ann0 : State := atPick ann 8192

def unknown : State := tm ann0 fun t => { t with best := none, ann := [] }

/-- A backup whose own key, with priority 1, has been the best for 32 sheds. -/
def heir : State := (tm ((keyed live).setFlds [(Reg.TIME_TOD_CTL_PPS_PRESENT, 1), (Reg.TIME_TOD_CTL_TOD_SET, 1), (Reg.TIME_PRIO_OWN_PRIORITY, 1)])
  fun t => { t with pick := 8192 * 40, best := some (2 ^ 128, 0), stableSince := 2, synced := true })

def lost : State := tm ann fun t => { t with pick := 8192 * 9 }

def dx (st : Nat) (sy : Bool) (g : Nat) : State := (tm (keyed live) fun t => { t with synced := sy, good := g }).setFlds
  [(Reg.TIME_SYNC_STAT_STATE, st)]

def pp : State := tm live fun t => { t with pick := 7812500 }

/-- A device that has lost its time. -/
def noTime : State := pp.setFlds [(Reg.TIME_SYNC_STAT_STATE, 1)]

theorem witness_PpsInputAndTimeOfDay :
    early.boot.on = true ∧
    early.ppsTooSoon = true ∧
    -- next clause
    early.time.lastPps = some 2 ∧
    -- next clause
    live.boot.on = true ∧
    live.ppsTooSoon = false ∧
    -- next clause
    Reaches live Reg.TIME_TOD_CTL ∧
    -- next clause
    pps.ppsTooSoon = false ∧
    gmFar.ppsTooSoon = false ∧
    gmNear.ppsTooSoon = false ∧
    pps.boot.on = true ∧
    pps.time.lastPps = some 2 ∧
    pps.flag Reg.TIME_TOD_CTL_PPS_PRESENT = true ∧
    2 + 15625000 ≤ pps.pick ∧
    -- next clause
    pps.time.armed = true ∧ pps.sync ≠ 5 ∧
    -- next clause
    gmFar.boot.on = true ∧ gmFar.time.armed = true ∧ gmFar.sync = 5 ∧
    (gmFar.now : Int) - ((gmFar.fld Reg.TIME_TOD_SEC_SEC * secondUnits : Nat) : Int) < -512000000 ∧
    -- next clause
    gmNear.boot.on = true ∧ gmNear.time.armed = true ∧ gmNear.sync = 5 ∧
    (gmNear.now : Int) - ((gmNear.fld Reg.TIME_TOD_SEC_SEC * secondUnits : Nat) : Int) = 0 ∧
    gmNear.flag Reg.TIME_TOD_CTL_TOD_SET = true := by
  decide +kernel

theorem witness_AnnouncementsChooseTheGrandmaster :
    ann0.boot.on = true ∧
    ann0.pick % 8192 = 0 ∧
    ann0.time.holdTo = none ∧
    ann0.time.announced ≠ some (shedOf ann0.pick) ∧
    (ann0.ownSettled = false ∨ ann0.sync = 5) ∧
    ann0.time.best = some (100, 2) ∧
    -- next clause
    unknown.boot.on = true ∧
    unknown.pick % 8192 = 0 ∧
    unknown.time.holdTo = none ∧
    unknown.time.announced ≠ some (shedOf unknown.pick) ∧
    (unknown.ownSettled = false ∨ unknown.sync = 5) ∧
    unknown.time.best = none ∧
    -- next clause
    heir.boot.on = true ∧
    heir.pick % 8192 = 0 ∧
    heir.time.holdTo = none ∧
    heir.time.announced ≠ some (shedOf heir.pick) ∧
    heir.ownSettled = true ∧
    heir.sync ≠ 5 ∧
    heir.time.synced = true ∧
    heir.timePhase = true ∧
    -- next clause
    ann.boot.on = true ∧
    0 < ann.nPorts ∧
    (ann.port 0).keyed = true ∧
    -- next clause
    lost.boot.on = true ∧
    lost.time.best = some (100, 2) ∧
    lost.sync ≠ 5 ∧
    lost.time.lastKeyShed + 9 ≤ shedOf lost.pick ∧
    ¬(100 = lost.ownKey ∧ lost.capable = true) := by
  decide +kernel

/-- The parent's request came at pick 900 and was answered at pick 908. -/
def asked (s : State) : State := s.setPort 3 { s.port 3 with reqAt := some 900, ansAt := some 908 }

def t2 : Int := 900 * 65536

def t3 : Int := 908 * 65536

def gain : State := tm (asked (dx 1 true 63)) fun t => { t with lastGood := 800 }

def regain : State := { (asked (dx 0 false 0)).setFlds [(Reg.GCTL_DEV_STATE_PHASE, 6), (Reg.GCTL_DEV_STATE_STATE, 2)] with boot := { running := true } }

/-- A rejected and an accepted exchange of an unsynchronised device. -/
theorem witness_DelayExchangeDisciplines :
    ann.boot.on = true ∧
    3 = ann.fld Reg.TIME_SYNC_STAT_PARENT_PORT ∧
    3 < ann.nPorts ∧
    ann.sync ≠ 5 ∧
    exchangeOwn (ann.port 3) t2 t3 = false ∧
    ann.portState 3 ≠ 8 ∧
    -- next clause
    ann.time.cutAt ≠ some (ann.pick / 1024) ∧
    -- next clause
    regain.boot.on = true ∧
    3 = regain.fld Reg.TIME_SYNC_STAT_PARENT_PORT ∧
    3 < regain.nPorts ∧
    regain.sync = 0 ∧
    exchangeOwn (regain.port 3) t2 t3 = true ∧
    regain.time.synced = false ∧
    regain.timePhase = true ∧
    (-8 : Int) = Int.fdiv ((t2 - (t2 + 16)) - (t3 - t3)) 2 - toSigned 32 (regain.fld (Reg.TIME_PTIME_ASYM 3)) ∧
    exchangeBad regain 3 (-8) true = false ∧
    -- next clause
    (8 : Int) = Int.fdiv ((t2 - (t2 - 16)) - (t3 - t3)) 2 - toSigned 32 (regain.fld (Reg.TIME_PTIME_ASYM 3)) ∧
    exchangeBad regain 3 8 true = false := by
  decide +kernel

/-- A synchronised device in ACQUIRE takes an exchange whose offset is the one predicted, whatever that is. -/
theorem witness_DelayExchangeDisciplines_synced : ∃ t1 off : Int,
    off = Int.fdiv ((t2 - t1) - (t3 - t3)) 2 - toSigned 32 (gain.fld (Reg.TIME_PTIME_ASYM 3)) ∧
    exchangeBad gain 3 off true = false ∧ gain.boot.on = true ∧ 3 = gain.fld Reg.TIME_SYNC_STAT_PARENT_PORT ∧ 3 < gain.nPorts ∧
    exchangeOwn (gain.port 3) t2 t3 = true ∧ gain.sync = 1 ∧ gain.time.synced = true := by
  have asym : toSigned 32 (gain.fld (Reg.TIME_PTIME_ASYM 3)) = 0 := by decide +kernel
  have up : (gain.portState 3 == 8) = false := by decide +kernel
  refine ⟨t2 - 2 * Config.servoPredict (toSigned 32 (gain.fld Reg.TIME_OFFSET_OFFSET)) (toSigned 32 (gain.fld Reg.TIME_FREQ_ADJ_ADJ)),
    Config.servoPredict (toSigned 32 (gain.fld Reg.TIME_OFFSET_OFFSET)) (toSigned 32 (gain.fld Reg.TIME_FREQ_ADJ_ADJ)), ?_, ?_, ?_⟩
  · generalize Config.servoPredict _ _ = v
    rw [asym, show t2 - (t2 - 2 * v) - (t3 - t3) = 2 * v by omega, Int.mul_fdiv_cancel_left v (by decide)]; simp
  · simp [exchangeBad, up]
  · decide +kernel

theorem witness_HoldoverAndResynchronisation :
    pps.boot.on = true ∧
    pps.sync = 2 ∧
    pps.time.lastGood + 16384 ≤ pps.pick ∧
    31 = pps.fld Reg.TIME_SYNC_STAT_PARENT_PORT ∧
    pps.nPorts ≤ 18 ∧
    -- next clause
    (dx 4 true 3).boot.on = true ∧
    (dx 4 true 3).sync = 4 ∧
    0 < (dx 4 true 3).nPorts ∧
    -- next clause
    (dx 3 true 3).boot.on = true ∧
    (dx 3 true 3).sync = 3 ∧
    (dx 3 true 3).fld Reg.TIME_HOLDOVER_LIMIT_LIMIT ≤ (dx 3 true 3).fld Reg.TIME_HOLDOVER_ELAPSED_ELAPSED ∧
    (dx 3 true 3).ringOn = true := by
  decide +kernel

theorem witness_PpsOutPulsesAtEachSecond :
    live.boot.on = true ∧
    (live.pick % 7812500 ≠ 0 ∨ ¬(live.sync = 2 ∨ live.sync = 3 ∨ live.sync = 5)) ∧
    -- next clause
    pp.boot.on = true ∧
    pp.pick % 7812500 = 0 ∧
    (pp.sync = 2 ∨ pp.sync = 3 ∨ pp.sync = 5) ∧
    pp.time.ppsOut ≠ some pp.pick ∧
    -- next clause
    noTime.boot.on = true ∧
    ¬(noTime.sync = 2 ∨ noTime.sync = 3 ∨ noTime.sync = 5) := by
  decide +kernel

end Time

/-! ### Streams -/

namespace Streams

def off : State := { live with boot := { live.boot with on := false } }

def idleH : State := withStream live { st0 with state := .faulted, resumeReq := true }

def busyQ : State := withStream live { st0 with state := .held, queue := [.slot (directCtx src0 (.fence false) live) (.fence false)] }

def noRes : State := live.setStream 0 0 { st0 with state := .running }

/-- Stream 4 on context 0 since shed 0, held within a bundle, with stream 0 waiting. -/
def otherRes : State :=
  { atPick (noRes.setStream 0 4 { st0 with state := .held, hold := some (.waitsem, 9000), queue := [.slot (directCtx src0 (.waitsem 1 2) live) (.waitsem 1 2)] })
      16400 with resident := [(0, some (4, 0))] }

/-- A stopped stream to resume, one of whose bundles has still to add its signal set. -/
def idleS : State := withStream live { st0 with
  state := .stopped, resumeReq := true, pending := 1, bno := 1,
  bundles := [{ bno := 1, tag := 9, signal := 0x15, issued := true, ring := true, endOff := 2, running := false }] }

def claimed : State := work.setLoom 0 { own0 := some 0 }

def taken : State := work.setLoom 0 { own0 := some 1 }

/-- The last pick of shed 0, with port 1 waiting for service since shed 0. -/
def lastPick : State :=
  let s := atPick fab 8191
  s.setPort 1 { s.port 1 with passed := some 0, partnerHash := some 77 }

theorem witness_OffDeviceIgnoresCommands :
    off.boot.on = false ∧
    Instr.jobStart ≠ Instr.powerGoodRise ∧
    Instr.jobStart ≠ Instr.powerGoodFall ∧
    Instr.jobStart ≠ Instr.railsInRange ∧
    -- next clause
    off.pending = [] := by
  decide +kernel

theorem witness_EmptyQueuePassesOnePick :
    live.boot.on = true ∧
    live.pending = [] ∧
    live.time.frac < 65536 ∧
    live.time.sub < 65536 ∧
    shedOf (live.pick + 1) = shedOf live.pick ∧
    -- next clause
    lastPick.boot.on = true ∧
    lastPick.pending = [] ∧
    lastPick.time.frac < 65536 ∧
    lastPick.time.sub < 65536 ∧
    lastPick.nPorts ≤ 18 ∧
    lastPick.wvn.active = some sched ∧
    lastPick.sync = 2 ∧
    (lastPick.port 1).passed = some 0 ∧
    (lastPick.port 1).partnerHash = some sched.hash ∧
    -- next clause
    (lastPick.port 0).passed = none := by
  decide +kernel

/-- The last pick's step enters the next shed. -/
theorem witness_EmptyQueuePassesOnePick_shed : ∃ t, step lastPick = .next t ∧ shedOf lastPick.pick < shedOf t.pick ∧ 0 < shedOf t.pick := by
  refine ⟨_, rfl, ?_⟩
  rw [tick_pick lastPick (by decide +kernel)]
  decide +kernel

theorem witness_StreamRegistersRunStreams :
    Reaches live (Reg.CTX_RING_CTL (ctxSlot 0 0) (0 / 4)) ∧
    0 = BitVec.toNat (live.reg (Reg.CTX_RING_BASE (ctxSlot 0 0) (0 / 4))) / 4096 * 4096 ∧
    (live.stream 0 0).enabled = false ∧
    12 ≤ (12#5).toNat ∧
    (12#5).toNat ≤ 30 ∧
    0 % 2 ^ (12#5).toNat = 0 ∧
    0 + 2 ^ (12#5).toNat ≤ hbmEnd ∧
    -- next clause
    ((11#5).toNat < 12 ∨ 30 < (11#5).toNat ∨ 0 % 2 ^ (11#5).toNat ≠ 0 ∨ hbmEnd < 0 + 2 ^ (11#5).toNat) ∧
    -- next clause
    Reaches live (Reg.CTX_SEMADD (ctxSlot 0 0) (0 / 4)) ∧
    -- next clause
    Reaches idle (Reg.CTX_RING_CTL (ctxSlot 0 0) (0 / 4)) ∧
    (idle.stream 0 0).enabled = true ∧
    (12#5).toNat = (idle.stream 0 0).log2 ∧
    (idle.stream 0 0).state = SState.idle ∧
    (idle.stream 0 0).pending = 0 ∧
    -- next clause
    (11#5).toNat ≠ (idle.stream 0 0).log2 ∧
    -- next clause
    Reaches idleH (Reg.CTX_RING_CTL (ctxSlot 0 0) (0 / 4)) ∧
    (idleH.stream 0 0).enabled = true ∧
    (12#5).toNat = (idleH.stream 0 0).log2 ∧
    ((idleH.stream 0 0).state ≠ SState.idle ∨ (idleH.stream 0 0).pending ≠ 0) ∧
    -- next clause
    idle.residentOf (ctxSlot 0 0) = some 0 ∧
    Reaches idle (Reg.CTX_CCTL (ctxSlot 0 0)) ∧
    ((idle.stream 0 0).state = SState.idle ∨ ((idle.stream 0 0).state = SState.running ∨ (idle.stream 0 0).state = SState.held) ∧
      (idle.stream 0 0).queue = []) ∧
    -- next clause
    (idle.stream 0 0).state ≠ SState.faulted ∧
    (idle.stream 0 0).state ≠ SState.stopped ∧
    -- next clause
    idleH.residentOf (ctxSlot 0 0) = some 0 ∧
    Reaches idleH (Reg.CTX_CCTL (ctxSlot 0 0)) ∧
    ((idleH.stream 0 0).state = SState.faulted ∨ (idleH.stream 0 0).state = SState.stopped) ∧
    -- next clause
    idleH.boot.on = true ∧
    (idleH.stream 0 0).resumeReq = true ∧
    idleH.cmdsOf 0 0 = [] ∧
    -- next clause
    busyQ.residentOf (ctxSlot 0 0) = some 0 ∧
    Reaches busyQ (Reg.CTX_CCTL (ctxSlot 0 0)) ∧
    ((busyQ.stream 0 0).state = SState.running ∨ (busyQ.stream 0 0).state = SState.held) ∧
    (busyQ.stream 0 0).queue ≠ [] ∧
    -- next clause
    noRes.boot.on = true ∧
    0 < noRes.nLooms ∧
    noRes.pick % 8192 ≤ 1024 ∧
    noRes.residentOf (ctxSlot 0 0) = none ∧
    (noRes.stream 0 0).enabled = true ∧
    (noRes.stream 0 0).state = SState.running ∧
    (noRes.stream 0 0).hold = none ∧
    -- next clause
    otherRes.boot.on = true ∧ 0 < otherRes.nLooms ∧ otherRes.pick % 8192 ≤ 1024 ∧
    smGet (fun _ => none) otherRes.resident (ctxSlot 0 0) = some (4, 0) ∧ 0 < shedOf otherRes.pick ∧ 4 % 4 = 0 % 4 ∧
    ((otherRes.loom 0).claimOf (0 % 4)).isNone = true ∧ otherRes.cmdsOf 0 4 = [] ∧ (otherRes.stream 0 4).begun = none ∧ (otherRes.stream 0 0).enabled = true ∧
    (otherRes.stream 0 0).state = SState.running ∧ (otherRes.stream 0 0).hold = none ∧
    (∀ (k : Nat), k < 16 → k % 4 = 0 % 4 → k ≠ 0 → k ≠ 4 → (otherRes.stream 0 k).enabled = false) ∧
    -- next clause
    (∀ (k : Nat), k < 16 → k % 4 = 0 % 4 → k ≠ 0 → (noRes.stream 0 k).enabled = false) := by
  decide +kernel

theorem witness_MpairClaimsAndReleases :
    src0.loom < 80 ∧
    Takes src0 (SlotCmd.mpair 0#2) idle ∧
    (idle.loom src0.loom).claimOf (src0.stream % 4) = none ∧
    0#2 = 0 ∧
    -- next clause
    Takes src0 (SlotCmd.mpair 0#2) claimed ∧
    (claimed.loom src0.loom).claimOf (src0.stream % 4) = some (0, false) ∧
    ((claimed.cmdsOfCtx src0.loom (src0.stream % 4)).any fun c => slotMatrix c.c) = false ∧
    ((claimed.loom src0.loom).acc 0).isSome = false ∧
    -- next clause
    Takes src0 (SlotCmd.mpair 1#2) idle ∧
    1#2 ≠ 0 ∧
    (idle.loom src0.loom).overlaps (src0.stream % 4) (1#2).toNat = false ∧
    -- next clause
    Takes src0 (SlotCmd.mpair 1#2) taken ∧
    (taken.loom src0.loom).claimOf (src0.stream % 4) = none ∧
    (taken.loom src0.loom).overlaps (src0.stream % 4) (1#2).toNat = true ∧
    -- next clause
    (claimed.loom src0.loom).overlaps (src0.stream % 4) (1#2).toNat = false ∧ Takes src0 (SlotCmd.mpair 1#2) claimed := by
  decide +kernel

end Streams

/-! ### Sequencer -/

namespace Sequencer

def str (f : StreamSt → StreamSt) : State := withStream live (f st0)

def pgm : State :=
  let s := str fun t => { t with
    state := .running, prog := some { pc := 5, pgen := 1 }, ctrs := [(1, 3), (2, 9)],
    loops := [{ body := 2, count := 3, iter := 1, idx := some 2 }] }
  { s with imem := [(0,0)] }

def pgmH (loops : List LoopFrame) (words : List (Nat × W64)) : State := 
  let s := str fun t => { t with state := .running, prog := some { pc := 5, pgen := 1 }, ctrs := [(1, 3), (2, 9)], loops := loops }
  { s with imem := words }

def hdr1 (m : Nat) (le : Bool) : W64 := BitVec.ofNat 64 (bundleHeader m 3 + if le then 2^32 else 0)

def words : List (Nat × W64) := [(2, hdr1 16 false), (3, slotWord (.cset 0 1)), (5, hdr1 16 false), (6, slotWord (.cset 0 1)), (7, hdr1 16 true),
  (8, slotWord (.cset 0 1)), (9, BitVec.ofNat 64 (bundleHeader 16 3 + 2^33)), (10, slotWord (.cset 0 1))]

def two : List LoopFrame := [{ body := 0, count := 3, iter := 1, idx := none }, { body := 2, count := 3, iter := 1, idx := some 2 }]

def four : List LoopFrame := two ++ two

def sig : State := { (withStream live { st0 with sems := [(1, 5), (3, 0xFFFFFFFF)], state := .running }) with
  streams := [(0, { st0 with sems := [(1, 5), (3, 0xFFFFFFFF)], state := .running }), (17, {st0 with enabled := true, sems := [(3, 0xFFFFFFFE)] })] }

def sigCmd : Cmd := {
  id := 4, loom := 0, stream := 0, slot := 5, tag := 1, bno := 1, iters := [], c := .signal 3 1 1 3, issuePick := 5, budget := some 9, dsts := [],
  names := [], wrote := [], entries := [] }

def sig2 : State := { sig with cmds := [sigCmd, { sigCmd with id := 5 }], nextId := 6 }

/-- Two FENCEs without CREC, one behind the other. -/
def fenceCmd : Cmd := { sigCmd with c := .fence false }

def sig3 : State := { sig with cmds := [fenceCmd, { fenceCmd with id := 5 }], nextId := 6 }

def heldCtx (c : SlotCmd) : IssueCtx := { loom := 0, stream := 0, slot := slotOf c, tag := 1, snap := [], iters := [], bno := 3, inProg := false }

def held (c : SlotCmd) (h : HoldKind) (since : Nat) : State := withStream live { st0 with
  state := .held, hold := some (h, since), queue := [.slot (heldCtx c) c, .fin fin0 3], bno := 3, pending := 1,
  bundles := [{bno := 3, tag := 1, signal := 0, issued := false, ring := true, endOff := 2, running := false}] }

/-- Stream 0 held at a WAITSEM whose semaphore has since risen. -/
def heldSem : State :=
  let s := held (.waitsem 2 1) .waitsem 949
  s.setStream 0 0 { s.stream 0 0 with sems := [(2, 1)] }

def cAdd1 : CAdd := { cd := 1#4, cs := 2#4, ct := 1#4, usect := true, imm := 0#32 }

def cmpF1 : CmpF := { kd := 3#3, cs := 1#4, ct := 2#4, usect := true, imm := 0#32, rel := 0#3 }

def loopFrame1 : LoopFrame := { body := 2, count := 3, iter := 1, idx := some 2 }

def progPos1 : ProgPos := { pc := 5, pgen := 1 }

def ctx1 : IssueCtx := { loom := 0, stream := 0, slot := 5, tag := 1#24, snap := [], iters := [], bno := 3, inProg := false }

theorem witness_ScalarCommandsWriteTheirTargets :
    Takes src0 (SlotCmd.cset 0#4 0#32) idle ∧
    -- next clause
    Takes src0 (SlotCmd.cadd cAdd1) idle ∧
    -- next clause
    Takes src0 (SlotCmd.cmp cmpF1) idle := by
  decide +kernel

theorem witness_LoopsRunTheirIterations :
    (pgm.stream src0.loom src0.stream).prog = some { pc := 5, pgen := 1 } ∧
    Takes src0 SlotCmd.endloop pgm ∧
    (pgm.stream src0.loom src0.stream).loops = [] ++ [loopFrame1] ∧
    -- next clause
    ((pgmH [] words).stream src0.loom src0.stream).prog = some { pc := 5, pgen := 1 } ∧
    Takes src0 (SlotCmd.loop (1#4) (0#4) false) (pgmH [] words) ∧
    ((pgmH [] words).stream src0.loom src0.stream).ctr (1#4).toNat ≠ 0 ∧
    ((pgmH [] words).stream src0.loom src0.stream).loops.length < 4 ∧
    -- next clause
    ((pgmH four words).stream src0.loom src0.stream).prog = some { pc := 5, pgen := 1 } ∧
    Takes src0 (SlotCmd.loop (0#4) (0#4) false) (pgmH four words) ∧
    4 ≤ ((pgmH four words).stream src0.loom src0.stream).loops.length := by
  decide +kernel

theorem witness_SkipsAndRunsMoveTheSequencer :
    Takes src0 (SlotCmd.skipif (0#3) false 0#8) idle ∧
    (idle.stream src0.loom src0.stream).prog = none ∧
    (idle.stream src0.loom src0.stream).loops = [] ∧
    -- next clause
    Takes src0 (SlotCmd.run 0#6 0#9 0#8) idle ∧
    idle.loadOpen src0.loom = false ∧
    idle.pgen src0.loom (0#6).toNat = (0#8).toNat ∧
    -- next clause
    Takes src0 (SlotCmd.run 0#6 0#9 1#8) idle ∧
    idle.pgen src0.loom (0#6).toNat ≠ (1#8).toNat ∧
    -- next clause
    Takes src0 (SlotCmd.skipif (0#3) false 0#8) pgm ∧
    (pgm.stream src0.loom src0.stream).prog = some { pc := 5, pgen := 1 } ∧
    (pgm.skipWalk src0.loom (!(pgm.stream src0.loom src0.stream).loops.isEmpty) (0#8).toNat progPos1.pc false).toOption = some (5, false) := by
  decide +kernel

theorem witness_WaitsHoldAndRelease :
    Takes src0 (SlotCmd.waitsem 0#6 0#32) idle ∧
    (0#32).toNat ≤ BitVec.toNat ((idle.stream src0.loom src0.stream).sem (0#6).toNat) ∧
    -- next clause
    Takes src0 (SlotCmd.waitsem 0#6 1#32) idle ∧
    BitVec.toNat ((idle.stream src0.loom src0.stream).sem (0#6).toNat) < (1#32).toNat ∧
    -- next clause
    HeldAt src0.loom src0.stream ctx1 (SlotCmd.waitsem 2#6 1#32) heldSem ∧ heldSem.swRun src0.loom = none ∧
    (1#32).toNat ≤ ((heldSem.stream src0.loom src0.stream).sem (2#6).toNat).toNat ∧
    -- next clause
    Takes src0 (SlotCmd.waitpick (PickSrc.ctrs 1 2)) (str fun t => { t with ctrs := [(2, 900)] }) ∧
    -- next clause
    Takes src0 (SlotCmd.waitpick (PickSrc.imm 0#56)) idle ∧
    (idle.stream src0.loom src0.stream).hold = none ∧
    (0#56).toNat ≤ idle.pick ∧
    -- next clause
    Takes src0 (SlotCmd.waitpick (PickSrc.imm 1001#56)) idle ∧
    idle.pick < (1001#56).toNat ∧
    -- next clause
    HeldAt src0.loom src0.stream ctx1 (SlotCmd.waitpick (PickSrc.imm 999#56)) (held (SlotCmd.waitpick (PickSrc.imm 999)) HoldKind.waitpick
      3) ∧
    ((held (SlotCmd.waitpick (PickSrc.imm 999)) HoldKind.waitpick 3).stream src0.loom src0.stream).hold = some (HoldKind.waitpick, 3) ∧
    (999#56).toNat ≤ (held (SlotCmd.waitpick (PickSrc.imm 999)) HoldKind.waitpick 3).pick := by
  decide +kernel

theorem witness_SignalAndFenceIssueAndRetire :
    Takes src0 (SlotCmd.signal 1#6 0#7 0#4 1#32) idle ∧
    (0#7).toNat < idle.nLooms ∧
    (idle.stream (0#7).toNat (0#4).toNat).signalable = true ∧
    -- next clause
    Takes src0 (SlotCmd.signal 1#6 100#7 0#4 1#32) idle ∧ idle.nLooms ≤ (100#7).toNat ∧
    Takes src0 (SlotCmd.signal 1#6 5#7 0#4 1#32) idle ∧ (idle.stream (5#7).toNat (0#4).toNat).enabled = false ∧
    -- next clause
    Takes src0 (SlotCmd.fence false) idle ∧
    (false = true → BitVec.toNat (idle.reg (Reg.CTX_CQ_BASE (ctxSlot src0.loom src0.stream))) % 64 = 0 ∧ BitVec.toNat (idle.reg
      (Reg.CTX_CQ_BASE (ctxSlot src0.loom src0.stream))) + 16 * 2 ^ idle.fld (Reg.CTX_CQ_CTL_LOG2N (ctxSlot src0.loom src0.stream)) ≤
      hbmEnd) ∧
    -- next clause
    sig2.boot.on = true ∧
    sig2.cmd? sigCmd.id = some sigCmd ∧
    sigCmd.c = SlotCmd.signal 3#6 1#7 1#4 3#32 ∧
    sigCmd.plan = {} ∧
    sigCmd.frames = [] ∧
    sigCmd.phase = Phase.plain ∧
    sigCmd.draining = false ∧
    sigCmd.sw = false ∧
    sig2.swMode = false ∧
    sigCmd.digest = none ∧
    sigCmd.reads = [] ∧
    sigCmd.writes = [] ∧
    sig2.res.cap = none ∧
    sig2.fpWait = none ∧
    (∀ (y : Cmd), y ∈ sig2.cmds → y.loom = sigCmd.loom → y.stream = sigCmd.stream → y.sw = false → sigCmd.id ≤ y.id) ∧
    -- next clause
    sig3.boot.on = true ∧ sig3.swMode = false ∧ sig3.res.cap = none ∧ sig3.fpWait = none ∧ sig3.cmd? 5 = some { fenceCmd with id := 5 } ∧
    (∃ y, y ∈ sig3.cmds ∧ y.loom = 0 ∧ y.stream = 0 ∧ y.sw = false ∧ y.id < 5) ∧
    -- next clause
    sig3.cmd? 4 = some fenceCmd ∧
    (∀ (y : Cmd), y ∈ sig3.cmds → y.loom = fenceCmd.loom → y.stream = fenceCmd.stream → y.sw = false → fenceCmd.id ≤ y.id) := by
  decide +kernel

end Sequencer

/-! ### Bundles -/

namespace Bundles

def hd (mask wait sig : Nat) : Nat := bundleHeader mask 3 + 2^40 * wait + 2^48 * sig

def ringS (ws : List Nat) (f : StreamSt → StreamSt) : State :=
  withStream (live.storeBytes 0x100000 (ws.flatMap (leBytes 8))) (
    f { st0 with state := .running, tail := ws.length, pending := 1, bells := [(ws.length, 1)], sems := [(0, 1), (2, 0xFFFFFFFF), (7, 1)] })

def b1 : List Nat := [hd 16 0x85 0, (slotWord (.cset 3 9)).toNat]

def r1 : State := ringS b1 id

def r2 : State := ringS b1 fun t => { t with sems := [(0, 1)] }

def r4 : State := ringS [hd 16 0 0 + 2^57, (slotWord (.cset 3 9)).toNat] id

def sg : State := withStream live { st0 with
  state := .running, pending := 1, sems := [(0, 1), (2, 0xFFFFFFFF)],
  bundles := [{bno := 1, tag := 9, signal := 0x15, issued := true, ring := true, endOff := 2, running := false}], bno := 1 }

def cmdF : Cmd := {
  id := 4, loom := 0, stream := 0, slot := 3, tag := 1, bno := 1, iters := [2], c := .fill 1 5, issuePick := 5, budget := some 9, dsts := [1],
  names := [1], wrote := [1],
  entries := [1],
  plan := {
    writes := [{addr := bob 1, mask := 0xFF, val := 7}, {addr := bob 1 + 1, mask := 0x0F, val := 0x77}], quant := {ovf := true} } }

def cmdFe : Cmd := { cmdF with c := .fence true, plan := {}, dsts := [], names := [], wrote := [] }

def wk (c : Cmd) : State :=
  let s := withStream work { st0 with
    state := .running, pending := 1, bno := 1,
    bundles := [{bno := 1, tag := 9, signal := 0, issued := true, ring := true, endOff := 2, running := false}] }
  { s with cmds := [c], nextId := 5 }

def wf : State := (wk cmdFe).setFlds [(Reg.CTX_CQ_CTL_LOG2N 0, 4), (Reg.CTX_CQ_CTL_WPTR 0, 0x1F)]

def heldCtx (c : SlotCmd) : IssueCtx := { loom := 0, stream := 0, slot := slotOf c, tag := 1, snap := [], iters := [], bno := 3, inProg := false }

def held (c : SlotCmd) (h : HoldKind) (since : Nat) : State := withStream live { st0 with
  state := .held, hold := some (h, since), queue := [.slot (heldCtx c) c, .fin fin0 3], bno := 3, pending := 1,
  bundles := [{bno := 3, tag := 1, signal := 0, issued := false, ring := true, endOff := 2, running := false}] }

def fetched1 : Fetched := { hdr := 1945701274070549264, words := [2353#64], ring := true, next := 2 }

def decodeFault1 : DecodeFault := { fault := { code := 257, dw0 := 2089670227099910928 } }

def heldW : State := held (.waitsem 3 1) .waitsem 949

def bell3 : State := withStream live { st0 with tail := 5, pending := 3 }

def bundleRec1 : BundleRec := { bno := 1, tag := 9#24, signal := 21#8, issued := true, ring := true, endOff := 2, running := false }

def ctx1 : IssueCtx := { loom := 0, stream := 0, slot := 5, tag := 1#24, snap := [], iters := [], bno := 3, inProg := false }

def bundleEnd1 : BundleEnd := {
  tag := 1#24, le := false, pb := false, endloop := false, scalar := none, snap := [], cmps := 0#8, next := 2, ring := true }

theorem witness_BundlesIssueHoldFaultAndSignal :
    r1.boot.on = true ∧
    mayIssue r1 0 0 = true ∧
    r1.swRun 0 = none ∧
    r1.swMode = false ∧
    swatchBlocks r1 0 0 = false ∧
    (r1.stream 0 0).queue = [] ∧
    (r1.stream 0 0).prog = none ∧
    (r1.stream 0 0).bells = [(2, 1)] ∧
    (r1.stream 0 0).loops = [] ∧
    (r1.stream 0 0).skip = 0 ∧
    r1.fpWait = none ∧
    r1.res.cap = none ∧
    r1.flag Reg.RES_CAP_STAT_ARMED = false ∧
    r1.flag Reg.CNT_TR_CTL_EN = false ∧
    r1.res.remap = none ∧
    r1.loomPower 0 = 0 ∧
    r1.res.ckpt = none ∧
    (fetchRing r1 (r1.stream 0 0) 2 1).toOption = some fetched1 ∧
    (decodeBundle r1 0 false fetched1).toOption = some [SlotCmd.cset 3#4 9#32] ∧
    waitReady (r1.stream 0 0) (hWait fetched1.hdr) = true ∧
    hSignal fetched1.hdr = 0 ∧
    (r1.stream 0 0).bundles = [] ∧
    r1.cmdsOf 0 0 = [] ∧
    (r1.stream 0 0).stopReq = false ∧
    (r1.stream 0 0).reload = false ∧
    -- next clause
    r2.boot.on = true ∧
    mayIssue r2 0 0 = true ∧
    r2.swRun 0 = none ∧
    r2.swMode = false ∧
    swatchBlocks r2 0 0 = false ∧
    (r2.stream 0 0).queue = [] ∧
    (r2.stream 0 0).prog = none ∧
    (r2.stream 0 0).bells = [(2, 1)] ∧
    (r2.stream 0 0).loops = [] ∧
    (r2.stream 0 0).skip = 0 ∧
    r2.fpWait = none ∧
    r2.res.cap = none ∧
    r2.flag Reg.RES_CAP_STAT_ARMED = false ∧
    r2.flag Reg.CNT_TR_CTL_EN = false ∧
    r2.res.remap = none ∧
    r2.loomPower 0 = 0 ∧
    r2.res.ckpt = none ∧
    (fetchRing r2 (r2.stream 0 0) 2 1).toOption = some fetched1 ∧
    (decodeBundle r2 0 false fetched1).toOption = some [SlotCmd.cset 3#4 9#32] ∧
    waitReady (r2.stream 0 0) (hWait fetched1.hdr) = false ∧
    -- next clause
    r4.boot.on = true ∧ r4.badWords = [] ∧
    mayIssue r4 0 0 = true ∧
    r4.swRun 0 = none ∧
    r4.swMode = false ∧
    swatchBlocks r4 0 0 = false ∧
    (r4.stream 0 0).queue = [] ∧
    (r4.stream 0 0).prog = none ∧
    (r4.stream 0 0).bells = [(2, 1)] ∧
    (r4.stream 0 0).loops = [] ∧
    (r4.stream 0 0).skip = 0 ∧
    r4.fpWait = none ∧
    r4.res.cap = none ∧
    r4.flag Reg.RES_CAP_STAT_ARMED = false ∧
    r4.flag Reg.CNT_TR_CTL_EN = false ∧
    r4.res.remap = none ∧
    r4.loomPower 0 = 0 ∧
    r4.res.ckpt = none ∧
    errorOf (fetchRing r4 (r4.stream 0 0) 2 1) = some decodeFault1 ∧
    -- next clause
    sg.boot.on = true ∧
    sg.fpWait = none ∧
    sg.res.cap = none ∧
    List.find? (fun x => x.signal != 0) (sg.stream 0 0).bundles = some bundleRec1 ∧
    bundleRec1.issued = true ∧
    (∀ (c : Cmd), c ∈ sg.cmdsOf 0 0 → bundleRec1.bno < c.bno) := by
  decide +kernel

theorem witness_RetirementLandsTheResult :
    (wk cmdF).boot.on = true ∧
    (wk cmdF).cmd? cmdF.id = some cmdF ∧
    cmdF.sw = false ∧
    (wk cmdF).swMode = false ∧
    cmdF.draining = false ∧
    cmdF.phase = Phase.plain ∧
    cmdF.frames = [] ∧
    badRead (wk cmdF) cmdF = none ∧
    cmdF.digest = none ∧
    (wk cmdF).res.cap = none ∧
    (wk cmdF).res.ckpt = none ∧
    (wk cmdF).fpWait = none ∧
    cmdF.loom < 80 ∧
    cmdF.stream < 16 ∧
    (slotMover cmdF.c = true ∨ slotVector cmdF.c = true) ∧
    shutWrite (wk cmdF) cmdF = false ∧
    cmdF.plan.stats = [] ∧
    cmdF.plan.mv = none ∧
    cmdF.plan.tally = none ∧
    -- next clause
    wf.boot.on = true ∧
    wf.cmd? cmdFe.id = some cmdFe ∧
    cmdFe.sw = false ∧
    wf.swMode = false ∧
    cmdFe.draining = false ∧
    cmdFe.phase = Phase.plain ∧
    cmdFe.frames = [] ∧
    badRead wf cmdFe = none ∧
    cmdFe.digest = none ∧
    wf.res.cap = none ∧
    wf.res.ckpt = none ∧
    wf.fpWait = none ∧
    cmdFe.loom < 80 ∧
    cmdFe.stream < 16 ∧
    cmdFe.c = SlotCmd.fence true ∧
    cmdFe.plan = {} ∧
    cmdFe.reads = [] ∧
    0 = BitVec.toNat (wf.reg (Reg.CTX_CQ_BASE (ctxSlot cmdFe.loom cmdFe.stream))) ∧
    31 = wf.fld (Reg.CTX_CQ_CTL_WPTR (ctxSlot cmdFe.loom cmdFe.stream)) ∧
    4 = wf.fld (Reg.CTX_CQ_CTL_LOG2N (ctxSlot cmdFe.loom cmdFe.stream)) ∧
    0 + 16 * 2 ^ 4 ≤ hbmEnd ∧
    (∀ (y : Cmd), y ∈ wf.cmds → y.loom = cmdFe.loom → y.stream = cmdFe.stream → y.sw = false → cmdFe.id ≤ y.id) := by
  decide +kernel

theorem witness_TimeBudgetExpiryFaults :
    (wk cmdF).boot.on = true ∧
    (wk cmdF).swMode = false ∧
    (wk cmdF).res.cap = none ∧
    (wk cmdF).res.ckpt = none ∧
    (wk cmdF).fpWait = none ∧
    InFlight (wk cmdF) cmdF ∧
    cmdF.budget = some 9 ∧
    cmdF.issuePick + 9 < (wk cmdF).pick ∧
    slotMatrix cmdF.c = false ∧
    (∀ (sw : BitVec 16) (out : Handle), cmdF.c ≠ SlotCmd.swatch sw out) ∧
    ((wk cmdF).stream cmdF.loom cmdF.stream).state ≠ SState.faulted ∧
    -- next clause
    heldW.boot.on = true ∧
    heldW.swMode = false ∧
    heldW.res.cap = none ∧
    heldW.res.ckpt = none ∧
    heldW.fpWait = none ∧
    ctx1.loom = 0 ∧
    ctx1.stream = 0 ∧
    (heldW.stream 0 0).queue = [IssueItem.slot ctx1 (SlotCmd.waitsem 3#6 1#32), IssueItem.fin
      bundleEnd1 3] ∧
    (heldW.stream 0 0).state = SState.held ∧
    (heldW.stream 0 0).hold = some (HoldKind.waitsem, 949) ∧
    heldW.residentOf (ctxSlot 0 0) = some 0 ∧
    949 + heldW.waitLimit 0 (0 % 4) + (heldW.stream 0 0).heldOut < heldW.pick := by
  and_intros <;> first | exact fun _ _ h => nomatch h | decide +kernel

theorem witness_DoorbellSubmitsBundles :
    Reaches live (Reg.CTX_DOORBELL (ctxSlot 0 0) (0 / 4)) ∧
    (live.jobActive = false ∨ live.releasing = true ∨ (live.stream 0 0).enabled = false ∨ (live.stream 0 0).state = SState.faulted ∨
      (live.stream 0 0).state = SState.stopped) ∧
    -- next clause
    Reaches idle (Reg.CTX_DOORBELL (ctxSlot 0 0) (0 / 4)) ∧
    idle.jobActive = true ∧
    idle.releasing = false ∧
    (idle.stream 0 0).enabled = true ∧
    (idle.stream 0 0).state ≠ SState.faulted ∧
    (idle.stream 0 0).state ≠ SState.stopped ∧
    0#16 = 0 ∧
    (0#32).toNat % (idle.stream 0 0).ringWords = (idle.stream 0 0).tail ∧
    -- next clause
    Reaches bell3 (Reg.CTX_DOORBELL (ctxSlot 0 0) (0 / 4)) ∧
    bell3.jobActive = true ∧
    bell3.releasing = false ∧
    (bell3.stream 0 0).enabled = true ∧
    (bell3.stream 0 0).state ≠ SState.faulted ∧
    (bell3.stream 0 0).state ≠ SState.stopped ∧
    0#16 = 0 ∧
    (0#32).toNat % (bell3.stream 0 0).ringWords ≠ (bell3.stream 0 0).tail ∧
    -- next clause
    1#16 ≠ 0 ∧
    (idle.stream 0 0).pending + (1#16).toNat ≤ qdepth idle 0 0 ∧
    -- next clause
    4095#16 ≠ 0 ∧
    qdepth idle 0 0 < (idle.stream 0 0).pending + (4095#16).toNat := by
  decide +kernel

end Bundles

/-! ### Loads -/

namespace Loads

def im (src page cnt : Nat) : State := (live.setReg (Reg.LOOM_IMLD_SRC 0) (BitVec.ofNat 64 src)).setFlds [(Reg.LOOM_IMLD_CTL_PAGE 0, page),
  (Reg.LOOM_IMLD_CTL_COUNT 0, cnt)]

def ins (s : State) (q : List IssueItem): State := withStream s { st0 with
  state := .running, queue := q, prog := some {pc := 1, pgen := 1},
  bundles := [{bno := 1, tag := 1, signal := 0, issued := true, ring := true, endOff := 2, running := true}] }

def pend (s : State) : State := (s.setFlds [(Reg.LOOM_IMLD_STAT_PENDING 0, 1)]).setLoom 0 { s.loom 0 with imPages := [2,3] }

def busy (s : State) (ps : List Nat) : State := (s.setFlds [(Reg.LOOM_IMLD_STAT_BUSY 0, 1)]).setLoom 0 { s.loom 0 with imPages := ps }

theorem witness_InstructionMemoryLoads :
    Reaches (im 8192 2 2) (Reg.LOOM_IMLD_CTL 0) ∧
    (im 8192 2 2).loadOpen 0 = false ∧
    loadBad (im 8192 2 2) 0 = false ∧
    (im 8192 2 2).fld (Reg.LOOM_IMLD_CTL_COUNT 0) ≠ 0 ∧
    -- next clause
    Reaches (im 8192 63 2) (Reg.LOOM_IMLD_CTL 0) ∧
    (im 8192 63 2).loadOpen 0 = false ∧
    loadBad (im 8192 63 2) 0 = true ∧
    -- next clause
    Reaches (ins (im 8192 2 2) []) (Reg.LOOM_IMLD_CTL 0) ∧
    (ins (im 8192 2 2) []).loadOpen 0 = false ∧
    loadBad (ins (im 8192 2 2) []) 0 = false ∧
    (ins (im 8192 2 2) []).fld (Reg.LOOM_IMLD_CTL_COUNT 0) ≠ 0 ∧
    ((ins (im 8192 2 2) []).stream 0 0).inside = true ∧
    ((ins (im 8192 2 2) []).stream 0 0).queue = [] ∧
    ((ins (im 8192 2 2) []).stream 0 0).reload = false ∧
    (ins (im 8192 2 2) []).swMode = false ∧
    (∀ (j : Nat), j < 16 → j ≠ 0 → ((ins (im 8192 2 2) []).stream 0 j).inside = false) ∧
    -- next clause
    Reaches (pend (im 8192 2 2)) (Reg.LOOM_IMLD_CTL 0) ∧
    (pend (im 8192 2 2)).flag (Reg.LOOM_IMLD_STAT_PENDING 0) = true ∧
    (∀ (k : Nat), k < 16 → ((pend (im 8192 2 2)).stream 0 k).inside = false) ∧
    -- next clause
    Reaches (busy ((im 8192 2 2).storeBytes 12280 [1, 2, 3, 4, 5, 6, 7, 8, 9]) [2, 3]) (Reg.LOOM_IMLD_CTL 0) ∧
    (busy ((im 8192 2 2).storeBytes 12280 [1, 2, 3, 4, 5, 6, 7, 8, 9]) [2, 3]).flag (Reg.LOOM_IMLD_STAT_BUSY 0) = true ∧
    ((busy ((im 8192 2 2).storeBytes 12280 [1, 2, 3, 4, 5, 6, 7, 8, 9]) [2, 3]).loom 0).imPages = List.map (fun x => x + 2) (List.range 2) ∧
    2 + 2 ≤ 64 := by
  decide +kernel

end Loads

/-! ### Vector -/

namespace Vector

def vw : State := ((State.withTensor work 12 (bob 12) (tensor 12 3 [4,2] [1,4])).storeBytes (bob 5) (List.replicate 16 0x3F)).setFlds
  [(Reg.LOOM_VDROP_THRESH 0 0, 0x8000)]

def mv : State := let s := State.withTensor (State.withTensor (State.withTensor (State.withTensor work 16 (bob 16) (tensor 16 0 [32] [1] 1 0 17))
  17 (bob 17) (tensor 17 5 [16] [1])) 18 (bob 18) (tensor 18 0 [32] [1] 1 0 19)) 19 (bob 19) (tensor 19 5 [16] [1])
  s.storeBytes (bob 2) [1,2,3,4,5,6,7,8]

/-- Operand 1 with no element. -/
def none1 (s : State) : State := State.withTensor s 1 (bob 1) (tensor 1 5 [0] [1])

def mcmd : Cmd := {
  id := 4, loom := 0, stream := 0, slot := 3, tag := 1, bno := 1, iters := [2], c := .move 16 18, issuePick := 5, budget := some 9, dsts := [16],
  names := [16,18], wrote := [16], entries := [1], frames := [none, some {code := 0x0201}],
  plan := { writes := [{addr := bob 16, mask := 255, val := 3}] } }

def mvf : State := { withStream mv {st0 with state := .running} with cmds := [mcmd, {mcmd with id := 5, c := .copy 1 2, dsts := [1]}] }

def vec1 : Vec := { slotB := false, fn := 0#6, d := 1#16, a := 2#16, b := 3#16, x := 0#6 }

/-- The same tensor as every operand. -/
def vec0 : Vec := { vec1 with a := 1, b := 1 }

def xPose1 : XPose := { dst := 16#16, src := 18#16, da := 1#3, db := 2#3, rb := true, sid := 1#8 }

def fRes1 : FRes := { code := 513 }

theorem witness_VectorCommandsIssue :
    (Instr.vint src0 vec1, VOp.vint) ∈
      [(Instr.vbin src0 vec1, VOp.vbin), (Instr.vun src0 vec1, VOp.vun), (Instr.vred src0 vec1, VOp.vred), (Instr.smstep src0 vec1,
      VOp.smstep), (Instr.smnorm src0 vec1, VOp.smnorm), (Instr.smrecomp src0 vec1, VOp.smrecomp), (Instr.vint src0 vec1, VOp.vint),
      (Instr.dropout src0 vec1, VOp.dropout), (Instr.causal src0 vec1, VOp.causal), (Instr.convert src0 vec1, VOp.convert)] ∧
    Takes src0 (SlotCmd.vec VOp.vint vec1) vw ∧ HandlesFree src0 (SlotCmd.vec VOp.vint vec1) vw ∧
    (∃ o ∈ (checkVec vw (directCtx src0 (SlotCmd.vec VOp.vint vec1) vw) VOp.vint vec1).toOption,
      o.d.isEmpty = false ∧ o.a.isEmpty = false ∧ o.b.toList.any Operand.isEmpty = false) ∧
    -- next clause
    Takes src0 (SlotCmd.vec VOp.vint vec0) (none1 vw) ∧ HandlesFree src0 (SlotCmd.vec VOp.vint vec0) (none1 vw) ∧
    (∃ o ∈ (checkVec (none1 vw) (directCtx src0 (SlotCmd.vec VOp.vint vec0) (none1 vw)) VOp.vint vec0).toOption, o.d.isEmpty = true) := by
  decide +kernel

theorem witness_MoverCommandsIssue :
    (∀ s ∈ [mv, none1 mv], ∀ c ∈ [SlotCmd.fill 1#16 5, .copy 1#16 1#16, .move 1#16 1#16], Takes src0 c s ∧ HandlesFree src0 c s) ∧
    Takes src0 (SlotCmd.xpose xPose1) mv ∧ HandlesFree src0 (SlotCmd.xpose xPose1) mv ∧
    (∃ d ∈ (checkFill mv 1#16).toOption, d.isEmpty = false) ∧
    (∃ p ∈ (checkCopy mv 1#16 1#16).toOption, p.1.isEmpty = false) ∧
    (∃ p ∈ (checkMove mv (1#16) (1#16) id false).toOption, p.1.isEmpty = false) ∧
    (∃ p ∈ (checkMove mv xPose1.dst xPose1.src (swapDims xPose1.da.toNat xPose1.db.toNat) xPose1.rb).toOption, p.1.isEmpty = false) ∧
    -- next clause
    (∃ d ∈ (checkFill (none1 mv) 1#16).toOption, d.isEmpty = true) ∧
    (∃ p ∈ (checkCopy (none1 mv) 1#16 1#16).toOption, p.1.isEmpty = true) ∧
    (∃ p ∈ (checkMove (none1 mv) (1#16) (1#16) id false).toOption, p.1.isEmpty = true) ∧
    -- next clause
    InFlight mvf mcmd ∧
    slotMover mcmd.c = true ∧
    List.findSome? (fun f => f) mcmd.frames = some { code := 513 } ∧
    fRes1.code < 2 ^ 16 ∧
    (mvf.stream mcmd.loom mcmd.stream).state ≠ SState.faulted := by
  decide +kernel

end Vector

/-! ### Matrix -/

namespace Matrix

def lo (f : LoomSt → LoomSt) : State := work.setLoom 0 (f {})

def clF : State := lo fun t => { t with own0 := some 0, own1 := some 0, full := true }

def cp : State := ((ct (lo fun t => { t with own0 := some 0, planes := [(0, pl0)], recent0 := some 0 })).storeBytes (bob 14) (List.replicate 24 0x3F))

def cpA (acc : Acc) : State := ct (
  lo fun t => { t with
    own0 := some 0, planes := [(0, pl0)], recent0 := some 0, acc0 := some acc,
    cells := [(3, List.replicate 3 (List.replicate 3 { total := 0x3FF0000000000000, count := 1, first := false }))] })

def loadS : State := raw (f64t (ct clF))

def streamS : State := raw (f64t cp)

def drainS : State := raw (f64t (cpA acc3))

def mLoad1 : MLoad := { w := 13#16, wkdim := 1#3, wndim := 0#3, kt := 0#4, nt := 0#4, cm1 := 3#6, bc := true }

def here1 : IssueCtx := directCtx src0 (SlotCmd.mload mLoad1) loadS

def mStream1 : MStream := {
  a := 14#16, d := 15#16, akdim := 0#3, amdim := 1#3, dndim := 0#3, dmdim := 1#3, m0 := 0#4, mrows := 1#4, accm := 0#3, epi := 0#4, sat := false }

def here2 : IssueCtx := directCtx src0 (SlotCmd.mstream mStream1) streamS

def mDrain1 : MDrain := { d := 15#16, dndim := 0#3, dmdim := 1#3, m0 := 0#4, mode := 0#2, epi := 0#4, sat := false }

def here3 : IssueCtx := directCtx src0 (SlotCmd.mdrain mDrain1) drainS

/-- The output of a drain with no element. -/
def none15 (s : State) : State := State.withTensor s 15 (bob 15) (tensor 15 3 [2, 3, 0] [1, 2])

theorem witness_MatrixCommandsIssue :
    src0.loom < 80 ∧
    (loadS.loom src0.loom).claimOf (src0.stream % 4) = some (0, true) ∧
    Takes src0 (.mload mLoad1) loadS ∧ HandlesFree src0 (.mload mLoad1) loadS ∧ freePlane loadS src0.loom 0 = some 0 ∧
    (checkMload loadS here1 mLoad1 (here1.ctr mLoad1.kt.toNat) (here1.ctr mLoad1.nt.toNat)).toOption.isSome = true ∧
    -- next clause
    (streamS.loom src0.loom).claimOf (src0.stream % 4) = some (0, false) ∧
    Takes src0 (.mstream mStream1) streamS ∧ HandlesFree src0 (.mstream mStream1) streamS ∧ (unfed streamS src0.loom 0).length < 2 ∧
    (checkAct streamS here2 mStream1.epi.toNat).toOption.isSome = true ∧ here2.ctr mStream1.mrows.toNat ≠ 0 ∧
    (streamS.loom src0.loom).recent 0 = some 0 ∧ pl0 = (streamS.loom src0.loom).plane 0 0 ∧
    (∃ o ∈ (checkMstream streamS here2 mStream1 0 false (here2.ctr mStream1.m0.toNat) (here2.ctr mStream1.mrows.toNat)).toOption,
      (scaleVerdict streamS o.epi o.d mStream1.dndim.toNat (match o.epi, o.d with
        | some _, some d =>
          drainBlocks d mStream1.dndim.toNat mStream1.dmdim.toNat (here2.ctr mStream1.m0.toNat) (here2.ctr mStream1.mrows.toNat)
            (pl0.nt * tileCols pl0.fmt)
            (liveCols pl0.fmt pl0.nt ((outExtent (some pl0) ((streamS.loom src0.loom).acc 0) mStream1.accm.toNat).getD 0))
        | _, _ => [])).1 = none ∧ emptyOut o.d = false) ∧
    -- next clause
    Takes src0 (.mstream mStream1) (none15 streamS) ∧ HandlesFree src0 (.mstream mStream1) (none15 streamS) ∧
    (unfed (none15 streamS) src0.loom 0).length < 2 ∧ (checkAct (none15 streamS) here2 mStream1.epi.toNat).toOption.isSome = true ∧
    (∃ o ∈ (checkMstream (none15 streamS) here2 mStream1 0 false (here2.ctr mStream1.m0.toNat) (here2.ctr mStream1.mrows.toNat)).toOption,
      emptyOut o.d = true) ∧
    -- next clause
    (drainS.loom src0.loom).claimOf (src0.stream % 4) = some (0, false) ∧
    Takes src0 (.mdrain mDrain1) drainS ∧ HandlesFree src0 (.mdrain mDrain1) drainS ∧
    (checkAct drainS here3 mDrain1.epi.toNat).toOption.isSome = true ∧ (drainS.loom src0.loom).acc 0 = some acc3 ∧
    ∃ o ∈ (checkMdrain drainS here3 mDrain1 (some acc3) (here3.ctr mDrain1.m0.toNat)).toOption,
      (scaleVerdict drainS o.2 o.1 mDrain1.dndim.toNat (match o.2, o.1 with
        | some _, some d =>
          drainBlocks d mDrain1.dndim.toNat mDrain1.dmdim.toNat (here3.ctr mDrain1.m0.toNat) acc3.rows (acc3.nt * tileCols acc3.fmt)
            (liveCols acc3.fmt acc3.nt acc3.nExt)
        | _, _ => [])).1 = none ∧ emptyOut o.1 = false ∧
    -- next clause
    Takes src0 (.mdrain mDrain1) (none15 drainS) ∧ HandlesFree src0 (.mdrain mDrain1) (none15 drainS) ∧
    (checkAct (none15 drainS) here3 mDrain1.epi.toNat).toOption.isSome = true ∧ ((none15 drainS).loom src0.loom).acc 0 = some acc3 ∧
    ∃ o ∈ (checkMdrain (none15 drainS) here3 mDrain1 (some acc3) (here3.ctr mDrain1.m0.toNat)).toOption, emptyOut o.1 = true := by
  decide +kernel

end Matrix

/-! ### MatrixEvents -/

namespace MatrixEvents

def lo (f : LoomSt → LoomSt) : State := work.setLoom 0 (f {})

def cl : State := lo fun t => { t with own0 := some 0 }

def cp : State := ((ct (lo fun t => { t with own0 := some 0, planes := [(0, pl0)], recent0 := some 0 })).storeBytes (bob 14) (List.replicate 24 0x3F))

def cpA (acc : Acc) : State := ct (
  lo fun t => { t with
    own0 := some 0, planes := [(0, pl0)], recent0 := some 0, acc0 := some acc,
    cells := [(3, List.replicate 3 (List.replicate 3 { total := 0x3FF0000000000000, count := 1, first := false }))] })

def base : State := raw (f64t cp)

def msx (x : Nat) : MStream := {
  a := 14, d := if x = 4 then 19 else if x = 1 then 0 else 15, akdim := 0, amdim := 1, dndim := 0, dmdim := 1, m0 := 0, mrows := 1,
  accm := BitVec.ofNat 3 x, epi := 0, sat := false }

def ml : State := after (raw (f64t (ct cl))) [.mload src0 {w := 13, wkdim := 1, wndim := 0, kt := 0, nt := 0, cm1 := 3, bc := true}]

def ms0 : State := after base [.mstream src0 (msx 0)]

/-- An MSTREAM of each accumulation mode, issued. -/
def ms1 : State := after base [.mstream src0 (msx 1)]
def ms3 : State := after (raw (f64t (cpA acc3))) [.mstream src0 (msx 3)]
def ms4 : State := after base [.mstream src0 (msx 4)]

def dr1 : State := after (raw (f64t (cpA acc3))) [.mdrain src0 { d := 18, dndim := 0, dmdim := 1, m0 := 0, mode := 1, epi := 0, sat := false}]

def dr0 : State := after (raw (f64t (cpA acc3))) [.mdrain src0 { d := 15, dndim := 0, dmdim := 1, m0 := 0, mode := 0, epi := 0, sat := false}]

def dr2 : State := after dr0 [.mdrainStart 0]

def mcmd : Cmd := {
  id := 4, loom := 0, stream := 0, slot := 3, tag := 1, bno := 1, iters := [2], c := .move 16 18, issuePick := 5, budget := some 9, dsts := [16],
  names := [16,18], wrote := [16], entries := [1], frames := [none, some {code := 0x0201}] }

def mcmd1 : Cmd := { mcmd with frames := [some {code := 0x0201}] }

def i8 : State := let s := State.withTensor (State.withTensor base 20 (bob 20) (tensor 20 0 [2, 32] [1,2] 1 1 21)) 21 (bob 21) (tensor 21 5 [16] [1])
  let o := opAt s 20
  s.store (frameWrites o 0 fun _ => 0x3F80)

def ml8 : State := after (i8.setLoom 0 { own0 := some 0 }) [.mload src0 {w := 20, wkdim := 1, wndim := 0, kt := 0, nt := 0, cm1 := 3, bc := true}]

def mvs : State := withStream base {st0 with state := .running}

def pa : State := {mvs with cmds := [mcmd]}

def pb : State := {mvs with cmds := [mcmd1]}

def plane1 : Plane := { w := 13, names := [13], fmt := .bf16, cm1 := 3, bc := true, kExt := 4, nExt := 2 }

def plane8 : Plane := { w := 20, names := [20, 21], cm1 := 3, bc := true, bsize := 1, kExt := 32, nExt := 2 }

def zeros (n : Nat) : List (List Nat) := [List.replicate n 0, List.replicate n 0]

/-- The epilogue's operand of a drain in flight. -/
def drainOf (x : Cmd) : Option Drain :=
  match x.phase with
  | .mdrain _ _ _ d _ _ => d
  | .mstream _ _ _ _ _ _ _ _ _ d _ _ _ => d
  | _ => none

/-- The first row group of an MSTREAM in flight may enter. -/
@[reducible] def rowsReady (s : State) (accm aid : Nat) : Prop :=
  InFlight s (cmd0 s) ∧ (cmd0 s).phase = .mstream 0 0 accm aid (opAt s 14) 0 1 0 3 (drainOf (cmd0 s)) [] 0 [] ∧
  pl0 = (s.loom 0).plane 0 0 ∧ 2 = min (groupRows (s.loom 0).full) (3 - 0) ∧ (unfed s 0 0).head? = some (cmd0 s) ∧
  darkRun s (rowRuns pl0 (opAt s 14) 0 1 (0 + 0) 2 false) = none ∧
  missingFrames (groupBlocks pl0 (opAt s 14) 0 1 0 0 2) [] = [] ∧
  bufferedFault (opAt s 14) [] (groupBlocks pl0 (opAt s 14) 0 1 0 0 2) = none

theorem witness_MatrixEventsAdvance :
    InFlight pa (cmd0 pa) ∧ (cmd0 pa).phase = .plain ∧ (cmd0 pa).frames = none :: [some { code := 0x0201 }] ∧
    -- next clause
    InFlight pb (cmd0 pb) ∧ (cmd0 pb).phase = .plain ∧ (cmd0 pb).frames = some { code := 0x0201 } :: [] ∧ slotMatrix (cmd0 pb).c = false ∧
    (pb.stream 0 0).state ≠ .faulted ∧
    -- next clause
    InFlight ml8 (cmd0 ml8) ∧ (cmd0 ml8).phase = .mload 0 0 (opAt i8 20) 1 0 (zeros 32) (0 :: []) [] ∧ plane8 = (ml8.loom 0).plane 0 0 ∧
    frameFault ml8 (opAt i8 20) 0 (tileBlocks (opAt i8 20) 1 0 plane8.kt plane8.nt).flatten = none ∧
    darkRun ml8 ((opAt i8 20).frameRuns 0) = none ∧
    -- next clause
    InFlight ml (cmd0 ml) ∧ (cmd0 ml).phase = .mload 0 0 (opAt ml 13) 1 0 (zeros 4) [] [] ∧ plane1 = (ml.loom 0).plane 0 0 ∧
    badRead ml (cmd0 ml) = none ∧ (cmd0 ml).plan = {} ∧
    -- next clause
    InFlight ms0 (cmd0 ms0) ∧ (cmd0 ms0).phase = .mstream 0 0 0 0 (opAt ms0 14) 0 1 0 3 (drainOf (cmd0 ms0)) [] 0 [] ∧
    pl0 = (ms0.loom 0).plane 0 0 ∧ pl0.loaded = true ∧ 2 = min (groupRows (ms0.loom 0).full) (3 - 0) ∧
    (unfed ms0 0 0).head? = some (cmd0 ms0) ∧ darkRun ms0 (rowRuns pl0 (opAt ms0 14) 0 1 (0 + 0) 2 false) = none ∧
    missingFrames (groupBlocks pl0 (opAt ms0 14) 0 1 0 0 2) [] = [] ∧
    bufferedFault (opAt ms0 14) [] (groupBlocks pl0 (opAt ms0 14) 0 1 0 0 2) = none ∧
    -- next clause
    rowsReady ms1 1 0 ∧ rowsReady ms3 3 3 ∧ rowsReady ms4 4 0 ∧ 3 ≤ (smGet (fun _ => []) (ms1.loom 0).cells 0).length ∧
    (∃ d ∈ drainOf (cmd0 ms4), darkWrite ms4 ((List.range 2).flatMap fun j =>
      (rawRow pl0 d (0 + (0 + j)) (fedRow ms4 pl0 (opAt ms4 14) 0 1 (0 + (0 + j)) []).1).1) = none) ∧
    -- next clause
    InFlight dr1 (cmd0 dr1) ∧ (∃ d ∈ drainOf (cmd0 dr1), (cmd0 dr1).phase = .mdrain 0 1 acc3 (some d) false []) ∧
    ((unfed dr1 0 0).any fun y => y.accId == some acc3.aid) = false ∧
    (∃ d ∈ drainOf (cmd0 dr1), darkWrite dr1 (totalWrites d d.n0
      (drainRows acc3 (smGet (fun _ => []) (dr1.loom 0).cells acc3.aid) d.m0).1).1 = none) ∧
    -- next clause
    InFlight dr2 (cmd0 dr2) ∧ 2 = groupRows (dr2.loom 0).full ∧
    ∃ d ∈ drainOf (cmd0 dr2), (∃ cfg ∈ d.epi, darkWrite dr2 (epiGroup dr2 (cmd0 dr2) d cfg
      ([(0, [0x3FF0000000000000, 0x3FF0000000000000]), (1, [0x3FF0000000000000, 0x3FF0000000000000])])).1.writes = none) ∧ (cmd0 dr2).phase = .mdrain 0 0 acc3 (some d) true
      ((0, [0x3FF0000000000000, 0x3FF0000000000000]) :: [(1, [0x3FF0000000000000, 0x3FF0000000000000]),
        (2, [0x3FF0000000000000, 0x3FF0000000000000])]) := by
  decide +kernel

end MatrixEvents

/-! ### Fulling -/

namespace Fulling

def sw : State :=
  let s := State.withTensor work 20 (bob 20) (tensor 20 5 [16] [1])
  let s := State.withTensor s 21 (bob 21) (tensor 21 3 [2] [1])
  let s := State.withTensor s 22 (bob 22) (tensor 22 5 [512] [1])
  let s := State.withTensor s 23 (bob 23) (tensor 23 0 [4,2] [1,4] 1 0 24)
  let s := State.withTensor s 24 (bob 24) (tensor 24 5 [16] [1])
  let s := State.withTensor s 25 (bob 25) (tensor 25 2 [2] [1])
  let s := State.withTensor s 26 (bob 26) (tensor 26 3 [4,2] [1,4])
  let s := State.withTensor s 27 (bob 27) (tensor 27 2 [4,2] [1,4])
  (s.storeBytes (bob 20) [0,0,0x80,0x3F]).storeBytes (bob 26) [0,0,0x80,0x3F]

def swv : State := after sw [.statcfg src0 20 21 false]

def swb : State := withStream (sw.setLoom 0 { parts := [{cmd := 9, ctx := 0, entry := 3, count := 2, sse := 0x3FF0000000000000, ready := true}] }) st0

def swr := (swv.setStream 0 0 st0)

def fw : State :=
  let s := State.withTensor idle 30 0x200000 (tensor 30 3 [4,2] [1,4])
  let s := State.withTensor s 31 0x210000 (tensor 31 3 [4,2] [1,4])
  let s := State.withTensor s 32 0x220000 (tensor 32 5 [64] [1])
  let s := State.withTensor s 33 0x230000 (tensor 33 4 [14] [1])
  let s := s.storeBytes 0x220000 ([0,0,0,0,0,0,0,0, 2,0,0,0,0,0,0,0, 4,0,0,0,0,0,0,0, 0,1,0,0, 33,0,0,0])
  { s.storeBytes 0x210000 [0,0,0x80,0x3F] with fprogs := [(0, some [0x190, 0x10001190, 0x100102, 0x114, 0x96])] }

/-- A FULL whose parameter has no element. -/
def fwe : State := (State.withTensor (State.withTensor fw 30 0x200000 (tensor 30 3 [4,0] [1,4])) 31 0x210000 (tensor 31 3 [4,0] [1,4])).storeBytes
  0x220008 [0]

def ff : FullF := {prog := 0, p := 30, g := 31, s := 32, pass := 2}

def fw1 := after fw [.full src0 ff]

def srcB : Src := { loom := 0, stream := 1, tag := 8 }

def with1 (s : State) : State := { s.setStream 0 1 st0 with resident := [(0, some (0,0)), (1, some (1,0))] }

def fw2 : State := with1 fw1

def heldCtx (c : SlotCmd) : IssueCtx := { loom := 0, stream := 1, slot := slotOf c, tag := 1, snap := [], iters := [], bno := 3, inProg := false }

def heldS : StreamSt := { st0 with
  state := .held, hold := some (.fulling, 950), queue := [.slot (heldCtx (.full ff)) (.full ff), .fin fin0 3], bno := 3, pending := 1,
  bundles := [{bno := 3, tag := 1, signal := 0, issued := false, ring := true, endOff := 2, running := false}] }

def fw3 : State := { (({ fw with resident := [(1, some (1,0))] }).setStream 0 1 heldS) with
  fullEng := [(0, { running := none, waiting := [(0,1)] })] }

def stage (s : State) (ws : List Nat) : State := ((List.range 8).foldl (fun s k => s.setReg (Reg.FUL_FP_STAGE k) (BitVec.ofNat 64 (ws.getD (2*k)
  0 + 2^32 * ws.getD (2*k+1) 0))) s).setFlds [(Reg.FUL_FP_HDR_LEN, ws.length), (Reg.FUL_FP_STAT_DONE, 1)]

def statRead1 : StatRead := { mode := false, dst := 22#16, ref := 0#16, cdim := 0#3, clr := false }

def statRead2 : StatRead := { mode := true, dst := 25#16, ref := 23#16, cdim := 1#3, clr := false }

def qGradF1 : QGradF := { q := 23#16, x := 26#16, g := 27#16, cdim := 1#3 }

def watchPart1 : WatchPart := { ctx := 0, cmd := 9, entry := 3, count := 2, sse := 4607182418800017408, ready := true }

def ctx1 : IssueCtx := { loom := 0, stream := 1, slot := 7, tag := 1#24, snap := [], iters := [], bno := 3, inProg := false }

def swi : State := { swr with cmds := [] }

def staged : State := stage fw [400, 276, 150]

def staged2 : State := stage fw2 [400, 276, 150]

/-- Statistics and scale gradients of a tensor with no element. -/
def none25 : State :=
  State.withTensor (State.withTensor swv 25 (bob 25) (tensor 25 2 [0] [1])) 23 (bob 23) (tensor 23 0 [4,0] [1,4] 1 0 24)

def none23 : State :=
  let s := State.withTensor swi 23 (bob 23) (tensor 23 0 [0,2] [1,4] 1 0 24)
  State.withTensor (State.withTensor s 26 (bob 26) (tensor 26 3 [0,2] [1,4])) 27 (bob 27) (tensor 27 2 [0,2] [1,4])

theorem witness_StatisticsCommands :
    src0.loom < 80 ∧
    (∃ p ∈ (checkStatcfg sw (directCtx src0 (SlotCmd.statcfg (20#16) (21#16) false) sw) (20#16) (21#16) false).toOption, Takes src0
      (SlotCmd.statcfg (20#16) (21#16) false) sw ∧ HandlesFree src0 (SlotCmd.statcfg (20#16) (21#16) false) sw ∧ statsBusy sw src0.loom
      (src0.stream % 4) = false) ∧
    -- next clause
    (∃ d ∈ (resolve sw statRead1.dst).toOption, statRead1.mode = false ∧ Takes src0 (SlotCmd.statread statRead1) sw ∧ HandlesFree src0
      (SlotCmd.statread statRead1) sw ∧ statsBusy sw src0.loom (src0.stream % 4) = false ∧ d.fmt? = some EFmt.int32 ∧ d.stride 0 = 1 ∧
      dBsize d.words = 0 ∧ 512 ≤ d.total ∧ (checkSpan d true).toOption.isSome = true ∧ (checkBanks sw [d]).toOption.isSome = true) ∧
    -- next clause
    (∃ p ∈ (checkInit swv (directCtx src0 (SlotCmd.statread statRead2) swv) statRead2).toOption, statRead2.mode = true ∧ Takes src0
      (SlotCmd.statread statRead2) swv ∧ HandlesFree src0 (SlotCmd.statread statRead2) swv ∧ statsBusy swv src0.loom (src0.stream % 4) =
      false ∧ p.1.isEmpty = false) ∧
    -- next clause
    (∃ p ∈ (checkInit none25 (directCtx src0 (SlotCmd.statread statRead2) none25) statRead2).toOption, Takes src0
      (SlotCmd.statread statRead2) none25 ∧ HandlesFree src0 (SlotCmd.statread statRead2) none25 ∧
      statsBusy none25 src0.loom (src0.stream % 4) = false ∧ p.1.isEmpty = true) ∧
    -- next clause
    (∃ p ∈ (checkQgrad swi (directCtx src0 (SlotCmd.qgrad qGradF1) swi) qGradF1).toOption, Takes
      src0 (SlotCmd.qgrad qGradF1) swi ∧ HandlesFree src0 (SlotCmd.qgrad qGradF1) swi ∧ p.1.isEmpty = false ∧ p.2.2.2.isEmpty = false) ∧
    -- next clause
    (∃ p ∈ (checkQgrad none23 (directCtx src0 (SlotCmd.qgrad qGradF1) none23) qGradF1).toOption, Takes
      src0 (SlotCmd.qgrad qGradF1) none23 ∧ HandlesFree src0 (SlotCmd.qgrad qGradF1) none23 ∧ p.1.isEmpty = true) ∧
    -- next clause
    swb.boot.on = true ∧
    List.find? (fun y => y.ctx == 0) (swb.loom src0.loom).parts = some watchPart1 ∧
    watchPart1.ready = true ∧
    ((swb.cmdsOfCtx src0.loom 0).any fun y => y.mergesStats && !y.draining && decide (y.id < watchPart1.cmd)) = false ∧
    (0, 0) = smGet (fun _ => (0, 0)) (swb.loom src0.loom).watch watchPart1.entry ∧
    -- next clause
    Takes src0 (SlotCmd.statcfg (20#16) (21#16) false) swb ∧ HandlesFree src0 (SlotCmd.statcfg (20#16) (21#16) false) swb ∧
    Takes src0 (SlotCmd.statread statRead1) swb ∧ HandlesFree src0 (SlotCmd.statread statRead1) swb ∧
    statsBusy swb src0.loom (src0.stream % 4) = true ∧
    -- next clause
    InFlight swv (cmd0 swv) ∧ (cmd0 swv).loom = src0.loom ∧ (cmd0 swv).c = SlotCmd.statcfg (20#16) (21#16) false ∧
    (cmd0 swv).phase = .plain ∧ (cmd0 swv).frames = [] ∧ badRead swv (cmd0 swv) = none ∧ shutWrite swv (cmd0 swv) = false ∧
    (cmd0 swv).plan.stats = [] ∧ (cmd0 swv).plan.mv = none ∧ (cmd0 swv).plan.tally = none := by
  decide +kernel

theorem witness_FullingCommands :
    (∃ o ∈ (checkFull fw (directCtx src0 (SlotCmd.full ff) fw) ff).toOption, Takes src0 (SlotCmd.full ff) fw ∧ HandlesFree src0
      (SlotCmd.full ff) fw ∧ engineHold fw (directCtx src0 (SlotCmd.full ff) fw) = none ∧ o.p.isEmpty = false) ∧
    -- next clause
    (∃ o ∈ (checkFull fwe (directCtx src0 (SlotCmd.full ff) fwe) ff).toOption, Takes src0 (SlotCmd.full ff) fwe ∧ HandlesFree src0
      (SlotCmd.full ff) fwe ∧ engineHold fwe (directCtx src0 (SlotCmd.full ff) fwe) = none ∧ o.p.isEmpty = true) ∧
    -- next clause
    Reaches fw Reg.FUL_FP_COMMIT ∧
    fw.flag Reg.FUL_FP_STAT_DONE = true ∧
    0 = fw.fld Reg.FUL_FP_HDR_LEN ∧
    [] = stagedWords fw (min 0 32) ∧
    fw.fpWait = none ∧
    fCheck 0 [] = some (2, 0) ∧
    -- next clause
    programBusy fw (0#6).toNat = false ∧
    -- next clause
    Reaches fw (Reg.FUL_TALLY_CTL 0) ∧
    -- next clause
    Takes srcB (SlotCmd.full ff) fw2 ∧
    HandlesFree srcB (SlotCmd.full ff) fw2 ∧
    engineHold fw2 (directCtx srcB (SlotCmd.full ff) fw2) = some HoldKind.fulling ∧
    -- next clause
    (∃ o ∈ (checkFull fw3 ctx1 ff).toOption, (fw3.full 0).running = none ∧ waitingFor fw3 0 = [(0, 1)] ∧ fw3.dieOf 0 = 0 ∧ HeldAt 0 1 ctx1
      (SlotCmd.full ff) fw3 ∧ o.p.isEmpty = false) ∧
    -- next clause
    Reaches staged Reg.FUL_FP_COMMIT ∧
    staged.flag Reg.FUL_FP_STAT_DONE = true ∧
    3 = staged.fld Reg.FUL_FP_HDR_LEN ∧
    [400#32, 276#32, 150#32] = stagedWords staged (min 3 32) ∧
    staged.fpWait = none ∧
    fCheck 3 [400#32, 276#32, 150#32] = none ∧
    programBusy staged (0#6).toNat = false ∧
    -- next clause
    Reaches staged2 Reg.FUL_FP_COMMIT ∧
    staged2.flag Reg.FUL_FP_STAT_DONE = true ∧
    3 = staged2.fld Reg.FUL_FP_HDR_LEN ∧
    [400#32, 276#32, 150#32] = stagedWords staged2 (min 3 32) ∧
    staged2.fpWait = none ∧
    programBusy staged2 (0#6).toNat = true := by
  decide +kernel

end Fulling

/-! ### Tables -/

namespace Tables

def stage (slot : Nat) (d : List W64) : State := (List.range 16).foldl (fun s w => s.setReg (Reg.CTX_DSTAGE slot w) (d.getD w 0)) work

def d1 : List W64 := tensor 9 3 [4,2] [1,4]

def ds0 : State := stage 0 d1

def wait1 : State := { work with descWait := [(0, 1, d1), (3, 2, d1)] }

def ht (w0 w1 : Nat) : State := (work.setReg (Reg.HTAB_HT_STAGE0 0) (BitVec.ofNat 64 w0)).setReg (Reg.HTAB_HT_STAGE1 0) (BitVec.ofNat 64 w1)

def htw : State := { work with htWait := [(0, some (5, 0x8000000000001000, 0x1000))] }

def beamD (d b k : Nat) : Nat := beamBase + 0x8000000 * (6*d+b) + k

def bm (f : List (Fld × Nat)) : State := ((live.storeBytes (beamD 0 1 5) [1,2,3]).storeBytes (beamD 0 0 0) [9]).setFlds f

def bnk (b st : Nat) (closed : List Nat) (todo : List Nat): State :=
  { (live.storeBytes (beamBase + 0x800000 * b) [1,2,3]).storeBytes (beamBase + 0x800000 * (b+1)) [7] with
    pwr := { live.pwr with run := some { kind := 2, state := st, todo := todo }, closed := closed } }

def lateCmd : Cmd := {
  id := 4, loom := 0, stream := 0, slot := 3, tag := 1, bno := 1, iters := [2], c := .fill 1 5, issuePick := 5, budget := some 9, dsts := [1],
  names := [1], wrote := [1], entries := [1], writes := [(beamBase, beamBase + 100)] }

def late : State := { withStream (bnk 0 1 [0] [0]) {st0 with state := .running} with cmds := [lateCmd] }

def merr (a : Nat) : Cmd := { lateCmd with reads := [(a, a+10)], dsts := [1,2], plan := { writes := [{addr := bob 1, mask := 255, val := 3}] } }

def me (a : Nat) : State := { withStream work {st0 with state := .running} with cmds := [merr a] }

def win (w : Window) : Schedule := { index := 0, schedId := 0, boltSize := 1, hash := 5, slots := [], flows := [], windows := [w], neighbours := [] }

/-- A device one of whose HBM stacks stands behind a beam die in cache mode. -/
def lineUp (s : State) : State := s.setFld (Reg.HTAB_BEAM_STAT_MODE 1) 1

/-- A stack whose reserve is in use for channel 3, and a channel with four uncorrectable errors. -/
def sp (used : Nat) : State :=
  (live.setFlds [(Reg.HTAB_HBM_STAT_SPARE_USED 0 0, used), (Reg.HTAB_HBM_STAT_SPARED_CH 0 0, 3)]).setChanErr 0 5 (1, 4, false)

/-- A row that is due for repair, in a window. -/
def rowDue (s : State) : State := { s with rowErrs := [(20480, 8)] }

def tr (p : Nat) (f : List (Fld × Nat)) : State := { (live.setFlds f) with
  wvn := { live.wvn with active := some (win {start := 1000, length := 256, kind := 2}) }, time := {live.time with pick := p} }

def pwrRun1 : PwrRun := { kind := 2, state := 1, todo := [0] }

theorem witness_DescriptorAndHandleTables :
    Reaches work (Reg.CTX_DESC_COMMIT 0) ∧
    work.flag (Reg.CTX_DESC_STAT_DONE 0) = true ∧
    descBad (stagedDesc work 0) = true ∧
    -- next clause
    Reaches ds0 (Reg.CTX_DESC_COMMIT 0) ∧
    ds0.flag (Reg.CTX_DESC_STAT_DONE 0) = true ∧
    descBad (stagedDesc ds0 0) = false ∧
    -- next clause
    wait1.boot.on = true ∧
    [4575657221542838281#64, 2#64, 4#64, 2#64, 0#64, 0#64, 0#64, 0#64, 1#64, 4#64, 0#64, 0#64, 0#64, 0#64, 0#64, 0#64] = List.map (fun w =>
      d1.getD w 0) (List.range 16) ∧
    List.find? (fun w => w.fst == 0) wait1.descWait = some (0, (1#12).toNat, [4575657221542838281#64, 2#64, 4#64, 2#64, 0#64, 0#64, 0#64,
      0#64, 1#64, 4#64, 0#64, 0#64, 0#64, 0#64, 0#64, 0#64]) ∧
    List.find? (fun w => w.snd.fst == (1#12).toNat) wait1.descWait = some (0, (1#12).toNat, [4575657221542838281#64, 2#64, 4#64, 2#64, 0#64,
      0#64, 0#64, 0#64, 1#64, 4#64, 0#64, 0#64, 0#64, 0#64, 0#64, 0#64]) ∧
    (∀ (c : Cmd), c ∈ wait1.cmds → c.sw = false → ∀ (h : Handle), h ∈ c.names → handleIndex h ≠ (1#12).toNat) ∧
    -- next clause
    Reaches work (Reg.HTAB_HT_COMMIT 0) ∧
    work.flag (Reg.HTAB_HT_STAT_DONE 0) = true ∧
    -- next clause
    Reaches (ht 4096 4096) (Reg.HTAB_HT_COMMIT 0) ∧
    (ht 4096 4096).flag (Reg.HTAB_HT_STAT_DONE 0) = true ∧
    4096#64 = BitVec.ofNat 64 (setBits (setBits (BitVec.toNat ((ht 4096 4096).reg (Reg.HTAB_HT_STAGE0 0))) 63 63 0) 57 56 0) ∧
    4096#64 = (ht 4096 4096).reg (Reg.HTAB_HT_STAGE1 0) ∧
    htReason (ht 4096 4096) 0 4096#64 4096#64 = none ∧
    -- next clause
    Reaches (ht 4100 4096) (Reg.HTAB_HT_COMMIT 0) ∧
    (ht 4100 4096).flag (Reg.HTAB_HT_STAT_DONE 0) = true ∧
    4100#64 = BitVec.ofNat 64 (setBits (setBits (BitVec.toNat ((ht 4100 4096).reg (Reg.HTAB_HT_STAGE0 0))) 63 63 0) 57 56 0) ∧
    4096#64 = (ht 4100 4096).reg (Reg.HTAB_HT_STAGE1 0) ∧
    htReason (ht 4100 4096) 0 4100#64 4096#64 = some 1 ∧
    -- next clause
    htw.boot.on = true ∧
    smGet (fun _ => none) htw.htWait 0 = some ((5#10).toNat, 9223372036854779904#64, 4096#64) ∧
    entryInUse htw 0 (5#10).toNat = false := by
  decide +kernel

theorem witness_BeamModesAndBankStates :
    Reaches (bm [(Reg.HTAB_BEAM_STAT_BUSY 0, 1), (Reg.HTAB_BEAM_MODE_CACHE 0, 2)]) (Reg.HTAB_BEAM_MODE 0) ∧
    switchRefused (bm [(Reg.HTAB_BEAM_STAT_BUSY 0, 1), (Reg.HTAB_BEAM_MODE_CACHE 0, 2)]) 0 (0#6).toNat = some 1 ∧
    -- next clause
    (bm [(Reg.HTAB_BEAM_STAT_BUSY 0, 1), (Reg.HTAB_BEAM_MODE_CACHE 0, 2)]).boot.on = true ∧
    (bm [(Reg.HTAB_BEAM_STAT_BUSY 0, 1), (Reg.HTAB_BEAM_MODE_CACHE 0, 2)]).flag (Reg.HTAB_BEAM_STAT_BUSY 0) = true ∧
    -- next clause
    Reaches (bm [(Reg.HTAB_BEAM_MODE_CACHE 0, 2), (Reg.HTAB_BEAM_STAT_MODE 0, 2)]) (Reg.HTAB_BEAM_MODE 0) ∧
    switchRefused (bm [(Reg.HTAB_BEAM_MODE_CACHE 0, 2), (Reg.HTAB_BEAM_STAT_MODE 0, 2)]) 0 (0#6).toNat = none ∧
    switchBits (bm [(Reg.HTAB_BEAM_MODE_CACHE 0, 2), (Reg.HTAB_BEAM_STAT_MODE 0, 2)]) 0 (0#6).toNat ≠ [] ∧
    -- next clause
    (bnk 0 1 [] [0]).boot.on = true ∧
    (bnk 0 1 [] [0]).pwr.run = some { kind := 2, state := 1, todo := [0] } ∧
    pwrRun1.kind = 2 ∧
    (pwrRun1.state = 1 ∨ pwrRun1.state = 2) ∧
    0 ∈ pwrRun1.todo ∧
    ¬0 ∈ (bnk 0 1 [] [0]).pwr.closed ∧
    -- next clause
    (bnk 0 1 [0] [0]).boot.on = true ∧
    (bnk 0 1 [0] [0]).pwr.run = some { kind := 2, state := 1, todo := [0] } ∧
    0 ∈ (bnk 0 1 [0] [0]).pwr.closed ∧
    -- next clause
    late.boot.on = true ∧
    late.swMode = false ∧
    late.res.cap = none ∧
    late.res.ckpt = none ∧
    late.fpWait = none ∧
    late.cmd? lateCmd.id = some lateCmd ∧
    lateCmd.sw = false ∧
    lateCmd.draining = false ∧
    slotMatrix lateCmd.c = false ∧
    lateCmd.digest = none ∧
    lateCmd.loom < 80 ∧
    lateCmd.stream < 16 ∧
    tierOf 1099511627776 = Tier.beam ∧
    bankOf 1099511627776 = 0 ∧
    0 ∈ late.pwr.closed ∧
    (∃ r, r ∈ lateCmd.reads ++ lateCmd.writes ∧ r.fst ≤ 1099511627776 ∧ 1099511627776 ≤ r.snd) ∧
    (late.stream lateCmd.loom lateCmd.stream).state ≠ SState.faulted := by
  decide +kernel

theorem witness_MemoryErrorsCountAndFault :
    (me 20480).boot.on = true ∧
    (me 20480).swMode = false ∧
    (me 20480).res.cap = none ∧
    (me 20480).fpWait = none ∧
    (me 20480).cmd? (merr 20480).id = some (merr 20480) ∧
    (merr 20480).sw = false ∧
    (merr 20480).draining = false ∧
    inRuns (merr 20480).reads 20480 = true ∧
    tierOf 20480 = Tier.hbm ∧
    -- next clause
    lineOf (lineUp (me 20480)) 20480 = true ∧ (lineUp (me 20480)).flag (Reg.HTAB_SCRUB_ENABLE (stackOf 20480 / 3)) = true ∧ (lineUp (me 20480)).cmd? (merr 20480).id = some (merr 20480) ∧
    -- next clause
    servedAddr (me 20480) 20480 = true ∧ servedAddr (me 20480) 1099511627792 = true ∧
    -- next clause
    slotMatrix (merr 20480).c = false ∧
    (merr 20480).digest = none ∧
    (me 20480).res.ckpt = none ∧
    (merr 20480).loom < 80 ∧
    (merr 20480).stream < 16 ∧
    ((me 20480).stream (merr 20480).loom (merr 20480).stream).state ≠ SState.faulted ∧
    -- next clause
    tierOf 1099511627792 = Tier.beam ∧
    bankOf 1099511627792 / 96 = 0 ∧
    (me 20480).flag (Reg.HTAB_SCRUB_ENABLE 0) = true ∧
    -- next clause
    (me 20480).ringOn = true ∧
    ((me 20480).queue 0).length < 512 := by
  decide +kernel

/-- A window of the schedule in which stack 1 has moved most, before and after it has been trained there. -/
def due : State :=
  tr 1000 [(Reg.HTAB_HBM_STAT_TRAIN_DUE 0 1, 1), (Reg.HTAB_HBM_STAT_TEMP_TRAIN 0 1, 60), (Reg.HTAB_HBM_STAT_TRAIN_DUE 0 2, 1)]

/-- Stack 0 with a channel that is being copied. -/
def copyOf (c : Nat) (s : State) : State := { s with sparing := [(0, some c)] }

theorem witness_HbmRetrainingAndSparing :
    due.boot.on = true ∧ 256 ≤ windowLeft due 2 ∧ 256 ≤ 256 ∧ dueRows due 0 = [] ∧ smGet (fun _ => 0) due.trainedTo 0 ≤ due.pick ∧
    retrainChoice due 0 = some 1 ∧
    -- next clause
    ({ due with trainedTo := [(0, 1256)] } : State).pick < smGet (fun _ => 0) ({ due with trainedTo := [(0, 1256)] } : State).trainedTo 0 ∧
    -- next clause
    windowLeft (rowDue due) 2 ≠ 0 ∧ 100 < 256 ∧ dueRows (rowDue due) (stackOf 20480 / 3) = [20480] ∧
    -- next clause
    (sp 0).boot.on = true ∧ 4 ≤ ((sp 0).chanErr 0 5).2.1 ∧ (sp 0).copying 0 = none ∧ (sp 0).flag (Reg.HTAB_HBM_STAT_SPARE_USED 0 0) = false ∧
    -- next clause
    4 ≤ ((sp 1).chanErr 0 5).2.1 ∧ (sp 1).flag (Reg.HTAB_HBM_STAT_SPARE_USED 0 0) = true ∧
    (sp 1).fld (Reg.HTAB_HBM_STAT_SPARED_CH 0 0) ≠ 5 ∧ ((sp 1).chanErr 0 5).2.2 = false ∧ (sp 1).ringOn = true ∧ (sp 1).copying 0 = none ∧
    -- next clause
    (copyOf 5 (sp 0)).boot.on = true ∧ (copyOf 5 (sp 0)).copying 0 = some 5 ∧ 4 ≤ ((copyOf 5 (sp 0)).chanErr 0 5).2.1 ∧
    windowLeft (copyOf 5 (sp 0)) 2 = 0 ∧
    -- next clause
    (copyOf 5 (due.setChanErr 0 5 (1, 4, false))).boot.on = true ∧ (copyOf 5 (due.setChanErr 0 5 (1, 4, false))).copying 0 = some 5 ∧
    4 ≤ ((copyOf 5 (due.setChanErr 0 5 (1, 4, false))).chanErr 0 5).2.1 ∧
    windowLeft (copyOf 5 (due.setChanErr 0 5 (1, 4, false))) 2 ≠ 0 ∧
    -- next clause
    (copyOf 9 (sp 0)).boot.on = true ∧ (copyOf 9 (sp 0)).copying 0 = some 9 ∧ 4 ≤ ((copyOf 9 (sp 0)).chanErr 0 5).2.1 ∧
    ((copyOf 9 (sp 0)).chanErr 0 5).2.2 = false ∧ (copyOf 9 (sp 0)).ringOn = true ∧
    -- next clause
    ((sp 1).chanErr 0 7).2.1 < 4 ∧ ((sp 1).chanErr 0 7).1 ≤ (sp 1).boot.spareThreshold := by
  decide +kernel

end Tables

/-! ### Throws -/

namespace Throws

def noCred : State := { fab with wvn := { fab.wvn with flows := [] } }

def oldCred : State := { fab with wvn := { fab.wvn with flows := [(5, { credits := [{cidx := 0, len := 16, arrived := 890}] })] } }

def heldCtx (c : SlotCmd) : IssueCtx := {
  loom := 0, stream := 0, slot := slotOf c, tag := 1, snap := [5,5,5,5,5], iters := [], bno := 3, inProg := false }

def heldS (c : SlotCmd) : StreamSt := { st0 with
  ctrs := [(1,5)], state := .held, hold := some (.credit, 850), queue := [.slot (heldCtx c) c, .fin fin0 3], bno := 3, pending := 1,
  bundles := [{bno := 3, tag := 1, signal := 0, issued := false, ring := true, endOff := 2, running := false}] }

def thr : SlotCmd := .throwTo 2 1 16

def heldF : State := withStream fab (heldS thr)

def here1 : IssueCtx := directCtx src0 (.throwTo 2 1 16) fab

def here2 : IssueCtx := directCtx src0 (SlotCmd.throwTo 40#16 3#4 128#40) fab

def here3 : IssueCtx := directCtx src0 (SlotCmd.catchAt 2#16 2#4 16#40) fab

def here4 : IssueCtx := directCtx src0 (.throwTo 2 1 16) noCred

def credit1 : Credit := { cidx := 0, len := 16, arrived := 890 }

def ctx1 : IssueCtx := {
  loom := 0, stream := 0, slot := 3, tag := 1#24, snap := [5#32, 5#32, 5#32, 5#32, 5#32], iters := [], bno := 3, inProg := false }

/-- A credit of another length; a THROW that has waited for credit a little; a shut throw window. -/
def lenCred : State := { fab with wvn := { fab.wvn with flows := [(5, { credits := [{cidx := 0, len := 17, arrived := 990}] })] } }

def heldN : State := withStream fab { heldS thr with hold := some (.credit, 950) }

def shutFab : State := { fab with wvn := { fab.wvn with dataFrom := 1000 } }

def here5 : IssueCtx := directCtx src0 (.throwTo 2 1 0) fab

def here6 : IssueCtx := directCtx src0 (.catchAt 2 2 0) fab

/-- A collective over the looms of the device; and one whose IN and OUT are one narrow tensor, the frames of which do not hold. -/
def fabLooms : State := fab.storeBytes (bob 40 + 22) [24]

def here7 : IssueCtx := directCtx src0 (SlotCmd.throwTo 40#16 3#4 128#40) fabLooms

def fabSkew : State :=
  let s := State.withTensor (State.withTensor fab 20 (bob 20) (tensor 20 0 [2, 32] [1, 2] 1 1 21)) 21 (bob 21) (tensor 21 5 [16] [1])
  s.storeBytes (bob 40 + 16) (leBytes 2 20 ++ leBytes 2 20 ++ leBytes 2 41 ++ [3, 0])

def here8 : IssueCtx := directCtx src0 (SlotCmd.throwTo 40#16 3#4 128#40) fabSkew

/-- The frames that a collective reads. -/
def collFrames (s : State) (o a d m : Operand) : List (Option LateFault) :=
  let h := readHeader s 0 o a d m flowX.flow
  framesFor s a (if a.scaled = true then nubNat ((rangeElems h.ranges).map fun e => a.blockOf (coordsOf a.exts e)) else []) ++ keptFrames s h

theorem witness_ThrowsAndCatchesIssue :
    (∃ p ∈ (checkThrow fab here1 2 (here1.flow 1) 16).toOption, p.2 = (flowE, none) ∧ Takes src0 (.throwTo 2 1 16) fab ∧
      HandlesFree src0 (.throwTo 2 1 16) fab ∧ throwHold fab here1 (here1.flow 1) 16 = none ∧ creditWaitPast fab here1 flowE = false ∧
      creditLenBad (fab.flowSt (here1.flow 1)) flowE fab.pick 16 = false ∧ hasPath fab flowE = true) ∧
    -- next clause
    (∃ p ∈ (checkThrow lenCred here1 2 (here1.flow 1) 16).toOption, p.2 = (flowE, none) ∧ Takes src0 (.throwTo 2 1 16) lenCred ∧
      HandlesFree src0 (.throwTo 2 1 16) lenCred ∧ throwHold lenCred here1 (here1.flow 1) 16 = none ∧
      creditWaitPast lenCred here1 flowE = false ∧ creditLenBad (lenCred.flowSt (here1.flow 1)) flowE lenCred.pick 16 = true) ∧
    -- next clause
    (∃ p ∈ (checkThrow fab here5 2 (here5.flow 1) 0).toOption, p.2 = (flowE, none) ∧ Takes src0 (.throwTo 2 1 0) fab ∧
      HandlesFree src0 (.throwTo 2 1 0) fab ∧ throwHold fab here5 (here5.flow 1) 0 = none ∧ creditWaitPast fab here5 flowE = false) ∧
    -- next clause
    Takes src0 (.throwTo 40 3 128) fab ∧ HandlesFree src0 (.throwTo 40 3 128) fab ∧
    throwHold fab here2 (here2.flow 3) (128#40).toNat = none ∧ flowX.collective = true ∧
    (∃ p ∈ (checkThrow fab here2 40 (here2.flow 3) (128#40).toNat).toOption, p.2.1 = flowX ∧ ∃ q ∈ p.2.2,
      fab.pick + 16 ≤ (readHeader fab 0 p.1 q.1 q.2.1 q.2.2 flowX.flow).start) ∧
    -- next clause
    Takes src0 (.throwTo 40 3 128) fabLooms ∧ HandlesFree src0 (.throwTo 40 3 128) fabLooms ∧
    throwHold fabLooms here7 (here7.flow 3) (128#40).toNat = none ∧
    (∃ p ∈ (checkThrow fabLooms here7 40 (here7.flow 3) (128#40).toNat).toOption, p.2.1 = flowX ∧ ∃ q ∈ p.2.2,
      fabLooms.pick + 16 ≤ (readHeader fabLooms 0 p.1 q.1 q.2.1 q.2.2 flowX.flow).start ∧
      (readHeader fabLooms 0 p.1 q.1 q.2.1 q.2.2 flowX.flow).scope = true ∧
      (collFrames fabLooms p.1 q.1 q.2.1 q.2.2).all (·.isNone) = true) ∧
    -- next clause
    Takes src0 (.throwTo 40 3 128) fabSkew ∧ HandlesFree src0 (.throwTo 40 3 128) fabSkew ∧
    throwHold fabSkew here8 (here8.flow 3) (128#40).toNat = none ∧
    (∃ p ∈ (checkThrow fabSkew here8 40 (here8.flow 3) (128#40).toNat).toOption, p.2.1 = flowX ∧ ∃ q ∈ p.2.2,
      fabSkew.pick + 16 ≤ (readHeader fabSkew 0 p.1 q.1 q.2.1 q.2.2 flowX.flow).start ∧
      (collFrames fabSkew p.1 q.1 q.2.1 q.2.2).any (·.isSome) = true) ∧
    -- next clause
    (∃ p ∈ (checkCatch fab here3 2 (here3.flow 2) 16).toOption, p.2 = flowC ∧ Takes src0 (.catchAt 2 2 16) fab ∧
      HandlesFree src0 (.catchAt 2 2 16) fab ∧ windowShut fab = false ∧ flowC.revPort < fab.nPorts) ∧
    (checkCatch fab here6 2 (here6.flow 2) 0).toOption.isSome = true ∧ Takes src0 (.catchAt 2 2 0) fab ∧
    HandlesFree src0 (.catchAt 2 2 0) fab ∧
    -- next clause
    Takes src0 (.catchAt 2 2 16) shutFab ∧ HandlesFree src0 (.catchAt 2 2 16) shutFab ∧ windowShut shutFab = true ∧
    -- next clause
    fab.boot.on = true ∧ flowEntry fab (5#20).toNat = some flowE ∧ flowE.source = true ∧
    -- next clause
    Takes src0 (.throwTo 2 1 16) noCred ∧ HandlesFree src0 (.throwTo 2 1 16) noCred ∧
    throwHold noCred here4 (here4.flow 1) 16 = some HoldKind.credit ∧
    -- next clause
    oldCred.boot.on = true ∧ flowEntry oldCred (5#20).toNat = some flowE ∧
    (oldCred.flowSt (5#20).toNat).credits.find? (·.cidx == (0#8).toNat) = some credit1 ∧
    credit1.arrived + flowE.creditLife < oldCred.pick ∧
    -- next clause
    (∃ p ∈ (checkThrow heldN ctx1 2 (ctx1.flow 1) 16).toOption, p.2 = (flowE, none) ∧ HeldAt 0 0 ctx1 (.throwTo 2 1 16) heldN ∧
      throwHold heldN ctx1 (ctx1.flow 1) 16 = none ∧ creditWaitPast heldN ctx1 flowE = false ∧
      creditLenBad (heldN.flowSt (ctx1.flow 1)) flowE heldN.pick 16 = false ∧ hasPath heldN flowE = true) ∧
    -- next clause
    HeldAt 0 0 ctx1 (.throwTo 2 1 16) heldF ∧ (heldF.stream 0 0).hold = some (HoldKind.credit, 850) ∧
    flowEntry heldF (ctx1.flow 1#4) = some flowE ∧ 850 + flowE.creditLife < heldF.pick := by
  decide +kernel

end Throws

/-! ### ThrowEnds -/

namespace ThrowEnds

def colS : State := after fab [.throwTo src0 40 3 128]

def gotS (s : State) (cdl : Option Nat) (got : Nat) : State := { s with
  cmds := s.cmds.map fun c => match c.phase with | .catching a b t q d _ _ => { c with phase := .catching a b t q d cdl got } | _ => c }

def lateCatch : State := atPick catS 2000

def partCatch : State := gotS lateCatch (some 1999) 3

def doneCatch : State := gotS lateCatch (some 2000) 16

def missCatch : State := gotS lateCatch (some 1999) 16

/-- A CATCH whose throw has begun. -/
def begun : State := doneCatch.setFlow 6 { doneCatch.flowSt 6 with cur := some (cmd0 doneCatch).id, posted := [] }

def lateColl : State := atPick colS 2000

def dst2 : Operand := (resolvePlain fab 2).toOption.getD (opAt fab 2)

def chdr : Coll := match (cmd0 colS).phase with | .collective h _ => h | _ => readHeader fab 0 dst2 dst2 dst2 dst2 7

def collPart1 : CollPart := { rank := 1, elems := [1065353216, 1073741824], elem0 := 0 }

theorem witness_ThrowsAndCatchesEnd :
    InFlight thrS (cmd0 thrS) ∧ (thrS.stream 0 0).state ≠ .faulted ∧ (cmd0 thrS).phase = .throwing 5 0 1066 [0] ∧
    (∀ y ∈ thrS.cmds, y.id = (cmd0 thrS).id) ∧ [0].filter (· != (0#8).toNat) = [] ∧ (cmd0 thrS).plan = {} ∧ thrS.pick ≤ 1066 ∧
    -- next clause
    [0].filter (· != (1#8).toNat) ≠ [] ∧
    -- next clause
    InFlight (atPick thrS 1100) (cmd0 thrS) ∧ ((atPick thrS 1100).stream 0 0).state ≠ .faulted ∧ 1066 < (atPick thrS 1100).pick ∧
    engineId (atPick thrS 1100) (cmd0 thrS).id = false ∧
    (∀ y ∈ (atPick thrS 1100).cmds, y.id = (cmd0 thrS).id) ∧
    -- next clause
    InFlight catS (cmd0 catS) ∧ (catS.stream 0 0).state ≠ .faulted ∧ flowEntry catS 6 = some flowC ∧ flowC.catcher = true ∧ flowC.catchLoom ≠ 127 ∧
    curTseq catS (catS.flowSt 6) ≠ some 0 ∧ (catS.flowSt 6).posted.getD ((catS.flowSt 6).place 0) none = some (cmd0 catS).id ∧
    -- next clause
    InFlight begun (cmd0 begun) ∧ (begun.stream 0 0).state ≠ .faulted ∧ flowEntry begun 6 = some flowC ∧
    curTseq begun (begun.flowSt 6) = some 0 ∧ (begun.flowSt 6).cur = some (cmd0 begun).id ∧
    -- next clause
    InFlight lateCatch (cmd0 lateCatch) ∧ (lateCatch.stream 0 0).state ≠ .faulted ∧
    (cmd0 lateCatch).phase = .catching 6 16 1196 0 dst2 none 0 ∧ 1196 ≤ lateCatch.pick ∧
    -- next clause
    InFlight partCatch (cmd0 partCatch) ∧ (partCatch.stream 0 0).state ≠ .faulted ∧
    (cmd0 partCatch).phase = .catching 6 16 1196 0 dst2 (some 1999) 3 ∧ 1999 ≤ partCatch.pick ∧ flowEntry partCatch 6 = some flowC ∧
    flowC.revPort < partCatch.nPorts ∧
    -- next clause
    InFlight doneCatch (cmd0 doneCatch) ∧ (doneCatch.stream 0 0).state ≠ .faulted ∧
    (cmd0 doneCatch).phase = .catching 6 16 1196 0 dst2 (some 2000) 16 ∧ (cmd0 doneCatch).plan = {} ∧ doneCatch.pick ≤ 2000 ∧
    flowEntry doneCatch 6 = some flowC ∧ flowC.revPort < doneCatch.nPorts ∧
    -- next clause
    InFlight missCatch (cmd0 missCatch) ∧ (missCatch.stream 0 0).state ≠ .faulted ∧
    (cmd0 missCatch).phase = .catching 6 16 1196 0 dst2 (some 1999) 16 ∧ 1999 < missCatch.pick ∧ flowEntry missCatch 6 = some flowC ∧
    -- next clause
    InFlight lateColl (cmd0 lateColl) ∧ (lateColl.stream 0 0).state ≠ .faulted ∧ (cmd0 lateColl).phase = .collective chdr 2050 ∧
    (cmd0 lateColl).plan = {} ∧ (cmd0 lateColl).frames = [] ∧ chdr.start ≤ lateColl.pick ∧ lateColl.pick ≤ 2050 ∧
    [(collPart1, chdr.digest)] = collParts lateColl 0 chdr ([collPart1].zip ([BitVec.ofNat 256 chdr.digest].map (·.toNat))) ∧
    (∀ r, r < chdr.nmemb → ∃ p ∈ [collPart1] ++ [chdr.mine], p.rank = r ∧ p.elems.length = (chdr.ranges.map (·.2)).sum ∧
      chdr.out.scaled = false) ∧
    -- next clause
    [(collPart1, 0)] = collParts lateColl 0 chdr ([collPart1].zip ([0#256].map (·.toNat))) ∧ 0 ≠ chdr.digest ∧
    -- next clause
    InFlight (atPick colS 2100) (cmd0 colS) ∧ ((atPick colS 2100).stream 0 0).state ≠ .faulted ∧ (cmd0 colS).phase = .collective chdr 2050 ∧
    chdr.start ≤ (atPick colS 2100).pick ∧ 2050 < (atPick colS 2100).pick ∧ (∀ v ∈ (atPick colS 2100).res.votes, v.cmd ≠ (cmd0 colS).id) := by
  decide +kernel

end ThrowEnds

/-! ### SlotIo -/

namespace SlotIo

def curS (s : State) : State := s.setFlow 6 { s.flowSt 6 with posted := [], cur := some 0 }

def sent1 : State := after (atPick thrS 1016) [.slotTransmit 0]

def ack1 : State := atPick sent1 1100

/-- A throw from a beam bank that has closed since, and one of a tensor whose first word has failed. -/
def thrB : State :=
  let s := after (State.withTensor fab 43 beamBase (tensor 43 5 [4] [1])) [.throwTo src0 43 1 16]
  { atPick s 1016 with pwr := { s.pwr with closed := [0] } }

def badS : State := { atPick thrS 1016 with badWords := [(bob 2, true)] }

/-- The throw that a port's slot would read reads something in this state, of the command in flight. -/
@[reducible] def mayRead (s : State) (P : ThrowRun → Nat → Prop) : Prop :=
  s.boot.on = true ∧ slotsRun s 0 = true ∧ (s.port 0).sent ≠ some (s.pick, s.time.holdTo) ∧
  (∃ x ∈ readsThrow s 0 s.pick, x.2.1.engine = none ∧ x.2.1.cmd = (cmd0 s).id ∧ P x.2.1 x.2.2) ∧ InFlight s (cmd0 s) ∧
  (s.stream 0 0).state ≠ .faulted

def quar : State := fab.setFld (Reg.WVN_PSTAT_STATE 1) 8

/-- The tag that the sender of a slot forms. -/
def trueTag (s : State) (p : Nat) (m : RxSlot) : BitVec 128 :=
  Config.gcmTag (s.port p).rxKey (slotNonce m.hdr.txn (!(s.port p).lower)) (slotCells m.hdr m.payload m.time m.lack m.recs)

def tagged (s : State) (p : Nat) (m : RxSlot) : RxSlot := { m with tag := trueTag s p m }

def mistagged (s : State) (p : Nat) (m : RxSlot) : RxSlot := { m with tag := ~~~ trueTag s p m }

theorem tagged_ok (s : State) (p : Nat) (m : RxSlot) : slotTagOk s p (tagged s p m) = true := by simp [slotTagOk, tagged, trueTag]

theorem mistagged_bad (s : State) (p : Nat) (m : RxSlot) : slotTagOk s p (mistagged s p m) = false := by
  simp [slotTagOk, mistagged, trueTag]

def rx1 : RxSlot := {
  hdr := { emptyHdr with pick := 990, empty := false, flow := 6, valid := 16, tlen := 16, cdl := 3000, txn := 3 },
  payload := (List.range 16).map (BitVec.ofNat 8), lack := 0, recs := [], tag := 0, hash := none }

def rx0 : RxSlot := { hdr := { emptyHdr with pick := 990 }, payload := [], lack := 1016, recs := [], tag := 0, hash := none }

def rxE : RxSlot := { rx0 with hdr := { rx0.hdr with empty := true, txn := 5 } }

theorem witness_SlotsAreSentAndReceived :
    fab.boot.on = true ∧ slotsRun fab 0 = true ∧ (fab.port 0).sent ≠ some (fab.pick, fab.time.holdTo) ∧ (fab.port 0).injHeld = [] ∧
    fab.wvn.injAllow = false ∧ readsThrow fab 0 fab.pick = none ∧
    -- next clause
    sent1.boot.on = true ∧ (sent1.port 0).sent = some (sent1.pick, sent1.time.holdTo) ∧
    -- next clause
    mayRead thrB (fun r k => ∃ a ∈ slotReads r k, thrB.shut a = true) ∧
    mayRead badS (fun r k => (∀ a ∈ slotReads r k, badS.shut a = false) ∧ ∃ a ∈ slotReads r k, badS.isBad a = true) ∧
    -- next clause
    fab.portState 0 ≠ 8 ∧ slotTagOk fab 0 (mistagged fab 0 rx0) = false ∧ fab.fpWait = none ∧ fab.res.cap = none ∧
    -- next clause
    slotTagOk fab 0 (tagged fab 0 rxE) = true ∧ (∀ n, (fab.port 0).rxTxn = some n → n < (tagged fab 0 rxE).hdr.txn.toNat) ∧
    (tagged fab 0 rxE).recs = [] ∧ (tagged fab 0 rxE).msgs = [] ∧ (tagged fab 0 rxE).time = {} ∧ (tagged fab 0 rxE).hash = none ∧
    (tagged fab 0 rxE).hdr.empty = true ∧
    -- next clause
    quar.boot.on = true ∧ 1 < quar.nPorts ∧ quar.portState 1 = 8 ∧ quar.fpWait = none ∧ quar.res.cap = none ∧
    -- next clause
    slotTagOk (curS catS) 1 (tagged (curS catS) 1 rx1) = true ∧
    (slotsRun (curS catS) 1 = true ∧ (curS catS).portState 1 ≠ 8 ∧ (curS catS).fpWait = none ∧ (curS catS).res.cap = none ∧
      InFlight (curS catS) (cmd0 catS) ∧ (curS catS).inService 1 = true ∧ (∀ n, ((curS catS).port 1).rxTxn = some n → n < rx1.hdr.txn.toNat) ∧
      rx1.recs = [] ∧ rx1.msgs = [] ∧ rx1.time = {} ∧ rx1.hash = none ∧ rx1.hdr.empty = false ∧ rx1.hdr.flow.toNat = 6 ∧
      flowEntry (curS catS) 6 = some flowC ∧ flowC.inPort = 1 ∧ flowC.catcher = true ∧ flowC.catchLoom ≠ 127 ∧ flowC.transit = false ∧
      rx1.hdr.seq.toNat = ((curS catS).flowSt 6).expect ∧ ((curS catS).flowSt 6).ahead = [] ∧ rx1.hdr.first = false ∧
      (curS catS).pick ≤ rx1.hdr.cdl.toNat ∧ ((curS catS).flowSt 6).cur = some (cmd0 catS).id ∧
      ∃ dst ∈ (resolvePlain fab 2).toOption, (cmd0 catS).phase = .catching 6 16 1196 0 dst none 0) ∧
    -- next clause
    (ack1.boot.on = true ∧ ack1.wvn.active = some sched ∧ ack1.inService 0 = true ∧
      ∃ x ∈ ((ack1.port 0).kept)[0]?, (ack1.port 0).kept = [x] ∧ x.hdr.pick.toNat + 32 ≤ ack1.pick) := by
  and_intros
  all_goals first | decide +kernel | exact tagged_ok _ _ _ | exact mistagged_bad _ _ _ | rfl

end SlotIo

/-! ### Ports -/

namespace Ports

def pst (s : State) (st : Nat) : State := (s.setPort 0 { s.port 0 with keyed := false }).setFld (Reg.WVN_PSTAT_STATE 0) st

/-- A keyed port in AUTH, which carries control cells. -/
def auth (s : State) : State := s.setFld (Reg.WVN_PSTAT_STATE 0) 2

def spare (s : State) : State := s.setFld (Reg.WVN_PSTAT_SPARE_USED 0) 1

def sw (s : State) : State := s.setPort 0 { s.port 0 with laneSwitch := some (3, 2) }

/-- Logical lane 3 has failed in this shed. -/
def bad (s : State) : State := s.setPort 0 { s.port 0 with laneUe := [(3, 4)] }

/-- New keys are agreed for shed 262,144. -/
def agreed (s : State) : State := s.setPort 0 { s.port 0 with newKeys := some (262144, 7, 8) }

def rt (s : State) (n : Nat) : State := s.setPort 0 { s.port 0 with retryAt := n, backoff := 4, keyed := false }

def key (s : State) : State := s.setPort 0 { s.port 0 with keyed := true, pendingCheck := true }

def chain (s : State) : State := { s with mgmt := { s.mgmt with linkChain := [1,2,3] }, wvn := { s.wvn with anchors := [5] } }

def keptS (s : State) : State := s.setPort 0 { s.port 0 with
  kept := [{hdr := {emptyHdr with pick := 900, empty := false, flow := 5}, payload := [1]}],
  due := [(1200, {hdr := {emptyHdr with pick := 900, empty := false, flow := 5}, payload := [1]})] }

def sts : List State := [fab, spare fab, sw fab, atPick (sw fab) 16384, pst fab 1, spare (pst fab 1), pst fab 2, chain (pst fab 2), keptS fab, rt
  (pst fab 8) 900, chain (rt (pst fab 8) 900), rt (pst fab 4) 900, pst fab 5, pst fab 6, key fab, atPick (key fab) (8192*262144), key (pst fab
  2), { key (pst fab 2) with pending := []}]

def swi (s : State) : State := (s.setFlds [(Reg.WVN_WVN_STAT_SWITCHING, 1),(Reg.WVN_SCHED_SEL_SEL, 1)])

/-- A device certificate of an identity, signed by the anchor 5. -/
def cert1 : List Byte := leBytes 4 1 ++ leBytes 4 1 ++ leBytes 16 90144042682896311822508713865 ++ leBytes 64 9 ++ shake256 32 (leBytes 64 5) ++
  List.replicate 29928 0

def handshake1 : Handshake := {
  ident := 90144042682896311822508713865, port := 5, nonce := 1, chain := cert1, kem := [1], secret := 2, chainOk := true, sigOk := true,
  failed := none }

/-- Two lanes of one port have failed. -/
def twoBad : State := (sw fab).setPort 0 { (sw fab).port 0 with laneUe := [(2, 4), (3, 4)] }

/-- Four slots of a flow missing in the shed; four slots that failed their tag. -/
def slowS : State := fab.setPort 0 { fab.port 0 with missFlow := [(5, 4)] }

def hostS : State := fab.setPort 0 { fab.port 0 with badTags := [0, 0, 0, 0] }

def rekeyS : State := atPick (key fab) (8192 * 262144)

theorem witness_PortsTrainAuthenticateAndLeave :
    (pst fab 6).boot.on = true ∧ 0 < (pst fab 6).nPorts ∧ lanesWatched (pst fab 6) 0 = false ∧ lanesWatched (pst fab 8) 0 = false ∧
    lanesWatched (auth fab) 0 = true ∧
    -- next clause
    fab.boot.on = true ∧ 0 < fab.nPorts ∧ lanesWatched fab 0 = true ∧ (fab.port 0).laneFailed 3 = false ∧
    -- next clause
    (bad fab).boot.on = true ∧ 0 < (bad fab).nPorts ∧ lanesWatched (bad fab) 0 = true ∧ ((bad fab).port 0).laneFailed 3 = true ∧
    (bad fab).flag (Reg.WVN_PSTAT_SPARE_USED 0) = false ∧ ((bad fab).port 0).laneSwitch = none ∧ shedOf (bad fab).pick + 2 ≤ 2 ∧
    -- next clause
    lanesWatched (bad (spare fab)) 0 = true ∧ ((bad (spare fab)).port 0).laneFailed 3 = true ∧
    (bad (spare fab)).flag (Reg.WVN_PSTAT_SPARE_USED 0) = true ∧
    -- next clause
    lanesWatched (bad (sw fab)) 0 = true ∧ ((bad (sw fab)).port 0).laneFailed 3 = true ∧ ((bad (sw fab)).port 0).laneSwitch = some (3, 2) ∧
    (bad (sw fab)).flag (Reg.WVN_PSTAT_SPARE_USED 0) = false ∧
    -- next clause
    ((twoBad.port 0).laneFailed 2 = true ∧ lanesWatched twoBad 0 = true ∧ (twoBad.port 0).laneSwitch = some (3, 2)) ∧
    -- next clause
    (atPick (sw fab) 16384).boot.on = true ∧ 0 < (atPick (sw fab) 16384).nPorts ∧
    ((atPick (sw fab) 16384).port 0).laneSwitch = some (3, 2) ∧ 2 ≤ shedOf (atPick (sw fab) 16384).pick ∧
    -- next clause
    (pst fab 1).boot.on = true ∧ 0 < (pst fab 1).nPorts ∧ (pst fab 1).portState 0 = 1 ∧
    -- next clause
    (pst fab 2).boot.on = true ∧ 0 < (pst fab 2).nPorts ∧ (pst fab 2).portState 0 = 2 ∧ ((pst fab 2).port 0).keyed = false ∧
    handshakeFault (pst fab 2) 0 handshake1 = some 1 ∧
    -- next clause
    (chain (pst fab 2)).portState 0 = 2 ∧ ((chain (pst fab 2)).port 0).keyed = false ∧
    handshakeFault (chain (pst fab 2)) 0 handshake1 = none ∧
    -- next clause
    judgedSo (keptS (atPick fab 3000)) 0 .absent = true ∧ judgedSo slowS 0 .slow = true ∧ judgedSo (bad (spare fab)) 0 .faulty = true ∧
    judgedSo hostS 0 .hostile = true ∧ slowS.inService 0 = true ∧ hostS.inService 0 = true ∧ (keptS (atPick fab 3000)).inService 0 = true ∧
    judgedSo (atPick (pst fab 1) 999999999) 0 .absent = true ∧ (atPick (pst fab 1) 999999999).inService 0 = false ∧
    judgedSo fab 0 .slow = false ∧
    -- next clause
    (rt (pst fab 8) 900).boot.on = true ∧ 0 < (rt (pst fab 8) 900).nPorts ∧ (rt (pst fab 8) 900).portState 0 = 8 ∧
    ((rt (pst fab 8) 900).port 0).retryAt ≤ (rt (pst fab 8) 900).pick ∧ handshakeFault (rt (pst fab 8) 900) 0 handshake1 = some 1 ∧
    -- next clause
    (chain (rt (pst fab 8) 900)).portState 0 = 8 ∧ handshakeFault (chain (rt (pst fab 8) 900)) 0 handshake1 = none ∧
    -- next clause
    (rt (pst fab 4) 900).boot.on = true ∧ 0 < (rt (pst fab 4) 900).nPorts ∧ (rt (pst fab 4) 900).portState 0 = 4 ∧
    ((rt (pst fab 4) 900).port 0).retryAt ≤ (rt (pst fab 4) 900).pick ∧
    -- next clause
    Reaches (rt (pst fab 4) 900) (Reg.WVN_PCTL 0) ∧ (pst fab 5).portState 0 = 5 ∧ (pst fab 6).portState 0 = 6 ∧
    Reaches fab (Reg.WVN_PCTL 0) ∧ fab.portState 0 = 3 ∧
    -- next clause
    rekeyS.boot.on = true ∧ 0 < rekeyS.nPorts ∧ (rekeyS.port 0).keyed = true ∧ (rekeyS.port 0).newKeys = none ∧
    (rekeyS.port 0).keyShed + 262144 ≤ shedOf rekeyS.pick ∧ shedOf rekeyS.pick < 262150 ∧
    -- next clause
    ((agreed rekeyS).port 0).keyed = true ∧ ((agreed rekeyS).port 0).newKeys = some (262144, 7, 8) ∧ 262144 ≤ shedOf (agreed rekeyS).pick := by
  decide +kernel

/-- A schedule that expects another neighbour on port 0. -/
def elsewhere : State :=
  let s := key (pst fab 2)
  { s with wvn := { s.wvn with active := some { sched with neighbours := [(0, 1, 1)] } } }

theorem witness_SchedulesAreCheckedAndSwitched :
    (∃ s ∈ (sts ++ [swi fab, thrS])[0]?, s.boot.on = true ∧ Reaches s Reg.WVN_SCHED_SEL ∧ ((s.wvn.schedules.any fun x => x.index ==
      (0#2).toNat) = false ∨ (0#48).toNat < shedOf s.pick + 2 ∨ fabricBusy s = true)) ∧
    -- next clause
    (∃ s ∈ (sts ++ [swi fab, thrS])[0]?, s.boot.on = true ∧ Reaches s Reg.WVN_SCHED_SEL ∧ (s.wvn.schedules.any fun x => x.index ==
      (0#2).toNat) = true ∧ shedOf s.pick + 2 ≤ (2#48).toNat ∧ fabricBusy s = false) ∧
    -- next clause
    (∃ s ∈ (sts ++ [swi fab, thrS])[16]?, s.boot.on = true ∧ 0 < s.nPorts ∧ s.wvn.active = some sched ∧ s.portState 0 = 2 ∧ (s.port 0).keyed
      = true ∧ (s.port 0).pendingCheck = true ∧ (s.port 0).partnerHash = none ∧ 77#256 = sched.hash ∧ neighbourOk s sched 0 = true ∧ hopoffOk s sched 0 = true) ∧
    -- next clause
    (elsewhere.boot.on = true ∧ 0 < elsewhere.nPorts ∧ elsewhere.wvn.active = some { sched with neighbours := [(0, 1, 1)] } ∧
      elsewhere.portState 0 = 2 ∧ (elsewhere.port 0).keyed = true ∧ (elsewhere.port 0).pendingCheck = true ∧ (elsewhere.port 0).partnerHash = none ∧
      neighbourOk elsewhere { sched with neighbours := [(0, 1, 1)] } 0 = false) ∧
    -- next clause
    (∃ s ∈ (sts ++ [swi fab, thrS])[16]?, s.boot.on = true ∧ 0 < s.nPorts ∧ s.wvn.active = some sched ∧ s.portState 0 = 2 ∧ (s.port 0).keyed
      = true ∧ (s.port 0).pendingCheck = true ∧ (s.port 0).partnerHash = none ∧ 78#256 ≠ sched.hash) ∧
    -- next clause
    ∃ s ∈ (sts ++ [swi fab, thrS])[18]?, s.boot.on = true ∧ s.flag Reg.WVN_WVN_STAT_SWITCHING = true ∧ s.fld Reg.WVN_SCHED_SEL_SHED ≤ shedOf
      s.pick ∧ List.find? (fun y => y.index == s.fld Reg.WVN_SCHED_SEL_SEL) s.wvn.schedules = some { sched with index := 1 } := by
  decide +kernel

end Ports

/-! ### Host ports -/

namespace HostPorts

def cx (st : Nat) : List W64 := [BitVec.ofNat 64 (96 + 512 + 2048 + st), 7, BitVec.ofNat 64 (100 + 2^24 * 200), 0, 0, 0, 0, 0]

def hq (x : QpSt) : State := ((live.setQp 5 x).setRegion 3 (some { base := 0x200000, len := 4096, key := 9, read := true, write := true })) 

def up (s : State) : State := { s with host := { s.host with live := true } }

def q2 : QpSt := { ctx := cx 2, epsn := 200 }

def q3 : QpSt := {
  ctx := cx 3, epsn := 200, spsn := 100,
  out := [{first := 90, last := 91, kind := .mirror 0, sentAt := 10}, {first := 92, last := 95, kind := .mirror 1, sentAt := 20}] }

def q3b : QpSt := { q3 with out := [{first := 90, last := 91, kind := .mirror 0, sentAt := 10, tries := 2}] }

def trd (s : State) : State := up { s with boot := { s.boot with trainDone := true } }

def mir : State := (hq q3).setFlds [(Reg.HOST_MIR_SRC_KIND 2, 1), (Reg.HOST_MIR_SRC_SLOT 2, 0), (Reg.HOST_MIR_SRC_QP 2, 5),
  (Reg.HOST_MIR_SRC_LOG2N 2, 4), (Reg.CTX_CQ_CTL_WPTR 0, 3), (Reg.CTX_CQ_CTL_LOG2N 0, 6)]

def mirD : State := (hq q2).setFlds [(Reg.HOST_MIR_SRC_KIND 2, 1), (Reg.HOST_MIR_SRC_SLOT 2, 0), (Reg.HOST_MIR_SRC_QP 2, 5),
  (Reg.HOST_MIR_SRC_LOG2N 2, 4), (Reg.CTX_CQ_CTL_WPTR 0, 3), (Reg.CTX_CQ_CTL_LOG2N 0, 6)]

def mr (s : State) (b n : Nat) : State := ((s.setReg Reg.HOST_MR_STAGE0 (BitVec.ofNat 64 b)).setFlds [(Reg.HOST_MR_STAGE1_LEN, n),
  (Reg.HOST_MR_STAGE2_KEY, 17), (Reg.HOST_MR_STAGE2_RREAD, 1), (Reg.HOST_MR_STAT_DONE, 1)])

def sg (s : State) (w0 : Nat) : State := ((s.setReg (Reg.HOST_QP_STAGE 0) (BitVec.ofNat 64 w0)).setReg (Reg.HOST_QP_STAGE 2) (BitVec.ofNat 64
  (300 + 2^24 * 400)))

def sts2 : List State := [mr (hq q2) 0x200000 4096, mr (hq q2) 0x200000 0, mr (hq q2) (hbmEnd - 10) 11, mr (hq q2) (hbmEnd - 10) 10, mr (hq q2)
  (ctlBase + 8) 16, mr (hq {q2 with cur := some (0x200000, 3, 5)}) 1 1] ++ (([({q2 with ctx := cx 0} : QpSt), {q2 with ctx := cx 1}, q2, q3].map
  hq).flatMap fun s => [1,2,3,4,5].map fun k => sg s (96 + 512 + 2048 + k)) ++ [sg (hq q2) 3]

def ported : State := trd (hq q2)

def ported1 : State := trd (hq q3)

def ported2 : State := trd (hq q3b)

def pkt1 : RocePkt := {
  qpn := 261#24, psn := 200#24, op := RoceOp.writeOnly, va := 2097168#64, rkey := 2307#32, len := 5, payload := [1#8, 2#8, 3#8, 4#8, 5#8],
  icrcOk := false, ecn := false }

def pkt2 : RocePkt := {
  qpn := 261#24, psn := 200#24, op := RoceOp.writeOnly, va := 2097168#64, rkey := 2307#32, len := 5, payload := [1#8, 2#8, 3#8, 4#8, 5#8],
  icrcOk := true, ecn := false }

def pkt3 : RocePkt := {
  qpn := 261#24, psn := 200#24, op := RoceOp.writeOnly, va := 2097168#64, rkey := 2051#32, len := 5, payload := [1#8, 2#8, 3#8, 4#8, 5#8],
  icrcOk := true, ecn := false }

def pkt4 : RocePkt := {
  qpn := 261#24, psn := 203#24, op := RoceOp.writeOnly, va := 2097168#64, rkey := 2307#32, len := 5, payload := [1#8, 2#8, 3#8, 4#8, 5#8],
  icrcOk := true, ecn := false }

def pkt5 : RocePkt := {
  qpn := 261#24, psn := 200#24, op := RoceOp.readRequest, va := 2097168#64, rkey := 2307#32, len := 1500, payload := [], icrcOk := true,
  ecn := false }

def outReq1 : OutReq := { first := 90, last := 91, kind := OutKind.mirror 0, sentAt := 10 }

def outReq2 : OutReq := { first := 92, last := 95, kind := OutKind.mirror 1, sentAt := 20 }

def outReq3 : OutReq := { first := 90, last := 91, kind := OutKind.mirror 0, sentAt := 10, tries := 2 }

/-- A queue pair with sixteen READs unanswered; one in a WRITE of several packets; one that has sent a NAK, on a port with ECN. -/
def full16 : State := { ported with res := { ported.res with stalled := (List.range 16).map fun k => .packet 5 { pkt5 with psn := BitVec.ofNat 24 (184 + k) } true } }

/-- Loom 0 waits for a remap, and a region of its identity register: a READ of it waits, and the packets behind it. -/
def remaps (s : State) : State :=
  let t := (s.setFlds [(Reg.HOST_ALLOW_VALID 0, 1), (Reg.HOST_ALLOW_R 0, 1), (Reg.HOST_ALLOW_START 0, Reg.LOOM_LOOM_ID 0),
    (Reg.HOST_ALLOW_LEN 0, 8)]).setRegion 4 (some { base := ctlBase + Reg.LOOM_LOOM_ID 0, len := 8, key := 9, read := true, write := false })
  { t with res := { t.res with remap := some 0 } }

def pktW : RocePkt := { pkt5 with va := BitVec.ofNat 64 (ctlBase + Reg.LOOM_LOOM_ID 0), rkey := 2308, len := 8 }

def waits1 (s : State) : State := { remaps s with res := { (remaps s).res with stalled := [.packet 5 pktW true] } }

/-- The premises that a request of queue pair 5 shares in its cases, but for whether it waits, and with it. -/
@[reducible] def heard (s : State) (p : RocePkt) : Prop :=
  s.boot.on = true ∧ s.host.live = true ∧ p.frameLen ≤ 4352 ∧ p.tags ≤ 1 ∧ pfcHolds s 5 = false ∧ p.icrcOk = true ∧
  qpOf s 0 p.qpn.toNat = some 5

@[reducible] def taken (s : State) (p : RocePkt) : Prop :=
  heard s p ∧ packetsWait s 5 = false ∧ packetStalls s 5 p = false

/-- How far ahead of the expected one a packet's sequence number is. -/
def ahead (s : State) (p : RocePkt) : Nat := (p.psn.toNat + 2 ^ 24 - (s.qp 5).epsn) % 2 ^ 24

def going : State := trd (hq { q2 with cur := some (0x200100, 2307, 44) })

def marked : State := (trd (hq { q2 with gapNaked := true })).setFld (Reg.HOST_HPCFG_ECN_EN 0) 1

def pktF : RocePkt := { pkt2 with op := .writeFirst, len := 2000, payload := List.replicate 1024 9 }

def pktL : RocePkt := { pkt2 with op := .writeLast, payload := List.replicate 44 7 }

theorem witness_RoceRequestsAreCheckedAndPerformed :
    ported.boot.on = true ∧ ported.host.live = true ∧ ({ pkt1 with frameLen := 5000 } : RocePkt).frameLen > 4352 ∧
    pkt1.frameLen ≤ 4352 ∧ pkt1.tags ≤ 1 ∧ pfcHolds ported 5 = false ∧ pkt1.icrcOk = false ∧
    -- next clause
    heard (remaps ported) pktW ∧ pktW.ecn = false ∧ packetOk (remaps ported) pktW = true ∧ packetStalls (remaps ported) 5 pktW = true ∧
    (remaps ported).res.stalled = [] ∧ readRoom (remaps ported) 5 = true ∧
    heard (waits1 ported) { pkt2 with psn := 201 } ∧ packetsWait (waits1 ported) 5 = true ∧ pktW.psn ≠ 201 ∧ pkt2.op ≠ .readRequest ∧
    heard (waits1 ported) pktW ∧ .packet 5 pktW true ∈ (waits1 ported).res.stalled ∧
    -- next clause
    heard full16 pkt5 ∧ packetsWait full16 5 = true ∧ readRoom full16 5 = false ∧ (full16.qp 5).ctx.length = 8 ∧
    full16.fld Reg.RES_CK_STAT_PHASE ≠ 2 ∧ (full16.res.stalled.all fun x => match x with | .packet _ m _ => m.psn != pkt5.psn | _ => true) ∧
    -- next clause
    taken ported pkt2 ∧ pkt2.ecn = false ∧ pkt2.psn.toNat = (ported.qp 5).epsn ∧ pkt2.op = .writeOnly ∧ orderOk (ported.qp 5) pkt2 = true ∧
    pkt2.va.toNat < ctlBase ∧ accessOk ported true pkt2.va.toNat pkt2.rkey.toNat pkt2.len = true ∧ pkt2.va.toNat + pkt2.len ≤ hbmEnd ∧
    ported.res.ckpt = none ∧
    -- next clause
    taken ported pktF ∧ pktF.psn.toNat = (ported.qp 5).epsn ∧ pktF.op = .writeFirst ∧ orderOk (ported.qp 5) pktF = true ∧
    pktF.va.toNat < ctlBase ∧ accessOk ported true pktF.va.toNat pktF.rkey.toNat pktF.len = true ∧ pktF.va.toNat + pktF.len ≤ hbmEnd ∧
    -- next clause
    taken ported pkt3 ∧ pkt3.ecn = false ∧ pkt3.psn.toNat = (ported.qp 5).epsn ∧ pkt3.op = .writeOnly ∧ orderOk (ported.qp 5) pkt3 = true ∧
    pkt3.va.toNat < ctlBase ∧ accessOk ported true pkt3.va.toNat pkt3.rkey.toNat pkt3.len = false ∧ (ported.qp 5).ctx.length = 8 ∧
    ported.fld Reg.RES_CK_STAT_PHASE ≠ 2 ∧
    -- next clause
    taken going pktL ∧ pktL.psn.toNat = (going.qp 5).epsn ∧ orderOk (going.qp 5) pktL = true ∧
    (going.qp 5).cur = some (0x200100, 2307, 44) ∧ pktL.op = .writeLast ∧ 0x200100 + pktL.payload.length ≤ hbmEnd ∧ going.res.ckpt = none ∧
    taken ported pktL ∧ pktL.psn.toNat = (ported.qp 5).epsn ∧ orderOk (ported.qp 5) pktL = false ∧
    -- next clause
    taken ported pkt4 ∧ pkt4.ecn = false ∧ ahead ported pkt4 = 3 ∧ pkt4.op = .writeOnly ∧ (ported.qp 5).gapNaked = false ∧
    taken (trd (hq { q2 with gapNaked := true })) pkt4 ∧ ahead (trd (hq { q2 with gapNaked := true })) pkt4 = 3 ∧
    ((trd (hq { q2 with gapNaked := true })).qp 5).gapNaked = true ∧
    2 ^ 23 ≤ ahead ported { pkt4 with psn := 190 } ∧
    -- next clause
    taken ported { pkt5 with psn := 190 } ∧ 2 ^ 23 ≤ ahead ported { pkt5 with psn := 190 } ∧
    -- next clause
    taken ported pkt5 ∧ pkt5.ecn = false ∧ pkt5.psn.toNat = (ported.qp 5).epsn ∧ pkt5.op = .readRequest ∧
    orderOk (ported.qp 5) pkt5 = true ∧ pkt5.va.toNat < ctlBase ∧ ported.releasing = false ∧
    accessOk ported false pkt5.va.toNat pkt5.rkey.toNat pkt5.len = true ∧
    accessOk ported false pkt5.va.toNat ({ pkt5 with rkey := 2051 } : RocePkt).rkey.toNat pkt5.len = false ∧
    -- next clause
    taken marked { pkt4 with ecn := true } ∧ marked.flag (Reg.HOST_HPCFG_ECN_EN 0) = true ∧ (marked.qp 5).cnpAt = none ∧
    ahead marked pkt4 = 3 ∧ (marked.qp 5).gapNaked = true := by
  decide +kernel

/-- A port with priority flow control of priority 3. -/
def pausing : State := ported.setFlds [(Reg.HOST_HPCFG_PFC_EN 0, 1), (Reg.HOST_HPCFG_PFC_PRIO 0, 3)]

/-- A queue pair that has nothing unacknowledged, on a port with ECN; a ring that has run past its mirror; a message held by PFC. -/
def quiet3 : State := (trd (hq { q3 with out := [] })).setFld (Reg.HOST_HPCFG_ECN_EN 0) 1

def mirFar : State := mir.setFld (Reg.CTX_CQ_CTL_WPTR 0) 65

def pausedS : State :=
  { pausing with host := { pausing.host with paused := [{ qp := 5, port := 0, prio := 3, pkts := 1, msg := .neighbour 0 }] } }

theorem witness_RequesterAndPortEvents :
    quiet3.boot.on = true ∧ (quiet3.qp (5#14).toNat).state = 3 ∧ quiet3.host.live = true ∧
    quiet3.flag (Reg.HOST_HPCFG_ECN_EN (quiet3.qp (5#14).toNat).port) = true ∧ pfcHolds quiet3 5 = false ∧
    (quiet3.qp (5#14).toNat).cnpAt = none ∧ (quiet3.qp (5#14).toNat).out = [] ∧
    -- next clause
    (∀ r ∈ (ported1.qp (5#14).toNat).out, r.kind ≠ .closing) ∧ pfcHolds ported1 5 = false ∧
    ((ported1.qp (5#14).toNat).out.filter fun r => !r.covered 93) ≠ [] ∧
    -- next clause
    mirrorSource mirFar (2#6).toNat = some (65, 0, 6, 16) ∧ 2 ^ 6 < (65 + 2 ^ 32 - 0) % 2 ^ 32 ∧ (3 + 2 ^ 32 - 0) % 2 ^ 32 ≤ 2 ^ 6 ∧
    -- next clause
    pausing.host.paused = [] ∧ pausedS.boot.on = true ∧ pausedS.flag (Reg.HOST_HPCFG_PFC_EN 0) = true ∧
    pausedS.fld (Reg.HOST_HPCFG_PFC_PRIO 0) = (3#3).toNat ∧ (∀ h ∈ pausedS.host.paused, h.port = 0 ∧ h.prio = (3#3).toNat) ∧
    pausing.fld (Reg.HOST_HPCFG_PFC_PRIO 0) ≠ (4#3).toNat ∧ ported.flag (Reg.HOST_HPCFG_PFC_EN 0) = false ∧
    -- next clause
    ported.boot.on = true ∧
    (0#128).toNat = portGid ported 0 ∧
    -- next clause
    (1#128).toNat ≠ portGid ported 0 ∧
    -- next clause
    ported1.boot.on = true ∧
    (ported1.qp (5#14).toNat).state = 3 ∧
    ported1.host.live = true ∧
    3 ≠ 0 ∧
    (ported1.qp (5#14).toNat).ctx.length = 8 ∧
    ported1.fld Reg.RES_CK_STAT_PHASE ≠ 2 ∧
    -- next clause
    (ported1.qp (5#14).toNat).out = [outReq1, outReq2] ∧
    outReq1.sentAt + 32 * 2 ^ bitsOf (BitVec.toNat ((ported1.qp (5#14).toNat).ctx.getD 0 0)) 15 11 ≤ ported1.pick ∧
    outReq1.tries < bitsOf (BitVec.toNat ((ported1.qp (5#14).toNat).ctx.getD 0 0)) 10 8 ∧
    -- next clause
    ported2.boot.on = true ∧
    (ported2.qp (5#14).toNat).state = 3 ∧
    ported2.host.live = true ∧
    (∀ r ∈ (ported2.qp (5#14).toNat).out, r.kind ≠ .closing) ∧ pfcHolds ported2 5 = false ∧
    -- next clause
    (ported2.qp (5#14).toNat).out = [outReq3] ∧
    outReq3.sentAt + 32 * 2 ^ bitsOf (BitVec.toNat ((ported2.qp (5#14).toNat).ctx.getD 0 0)) 15 11 ≤ ported2.pick ∧
    bitsOf (BitVec.toNat ((ported2.qp (5#14).toNat).ctx.getD 0 0)) 10 8 ≤ outReq3.tries ∧
    (ported2.qp (5#14).toNat).ctx.length = 8 ∧
    ported2.fld Reg.RES_CK_STAT_PHASE ≠ 2 ∧
    -- next clause
    mir.boot.on = true ∧
    mirrorSource mir (2#6).toNat = some (3, 0, 6, 16) ∧
    5 = mir.fld (Reg.HOST_MIR_SRC_QP (2#6).toNat) ∧
    0 = smGet (fun _ => 0) mir.host.mirNext (2#6).toNat ∧
    0 ≠ 3 ∧ pfcHolds mir 5 = false ∧
    (mir.qp 5).state = 3 ∧
    mirrorsOut (mir.qp 5) < 256 ∧
    -- next clause
    mirD.boot.on = true ∧
    mirrorSource mirD (2#6).toNat = some (3, 0, 6, 16) ∧
    5 = mirD.fld (Reg.HOST_MIR_SRC_QP (2#6).toNat) ∧
    0 = smGet (fun _ => 0) mirD.host.mirNext (2#6).toNat ∧
    (mirD.qp 5).state ≠ 3 ∧
    -- next clause
    pausing.boot.on = true ∧ pausing.flag (Reg.HOST_HPCFG_PFC_EN 0) = true ∧ pausing.fld (Reg.HOST_HPCFG_PFC_PRIO 0) = (3#3).toNat := by
  decide +kernel

theorem witness_QueuePairsAndRegions :
    (∃ s ∈ (sts2)[0]?, Reaches s Reg.HOST_QP_CMD ∧ [0#64, 0#64, 0#64, 0#64, 0#64, 0#64, 0#64, 0#64] = s.qpStage ∧ 0 = bitsOf (BitVec.toNat
      ([0#64, 0#64, 0#64, 0#64, 0#64, 0#64, 0#64, 0#64].getD 0 0)) 2 0 ∧ qpFieldsOk [0#64, 0#64, 0#64, 0#64, 0#64, 0#64, 0#64, 0#64] =
      false) ∧
    -- next clause
    (∃ s ∈ (sts2)[0]?, Reaches s Reg.HOST_QP_CMD ∧ (s.qp (5#14).toNat).ctx.length = 8 ∧ s.fld Reg.RES_CK_STAT_PHASE ≠ 2) ∧
    -- next clause
    (∃ s ∈ (sts2)[9]?, Reaches s Reg.HOST_QP_CMD ∧ qpFieldsOk s.qpStage = true ∧ bitsOf (s.qpStage.getD 0 0).toNat 2 0 = 4) ∧
    -- next clause
    (∃ s ∈ (sts2)[0]?, Reaches s Reg.HOST_MR_CMD ∧ s.flag Reg.HOST_MR_STAT_DONE = true ∧ 2097152 = BitVec.toNat (s.reg Reg.HOST_MR_STAGE0) ∧
      4096 = s.fld Reg.HOST_MR_STAGE1_LEN ∧ 4096 ≠ 0 ∧ (2097152 + 4096 ≤ hbmEnd ∨ ctlBase ≤ 2097152 ∧ 2097152 + 4096 ≤ ctlBase + 2 ^ 28 ∧
      2097152 % 8 = 0 ∧ 4096 % 8 = 0)) ∧
    -- next clause
    (∃ s ∈ (sts2)[0]?, Reaches s Reg.HOST_MR_CMD ∧ s.flag Reg.HOST_MR_STAT_DONE = true ∧ 2097152 = BitVec.toNat (s.reg Reg.HOST_MR_STAGE0) ∧
      4096 = s.fld Reg.HOST_MR_STAGE1_LEN ∧ (∀ x ∈ s.host.qps, ∀ y ∈ x.2.cur, y.2.1 % 256 ≠ (3#8).toNat) ∧ s.res.stalled = []) ∧
    -- next clause
    (∃ s ∈ (sts2)[1]?, Reaches s Reg.HOST_MR_CMD ∧ s.flag Reg.HOST_MR_STAT_DONE = true ∧ 2097152 = BitVec.toNat (s.reg Reg.HOST_MR_STAGE0) ∧
      0 = s.fld Reg.HOST_MR_STAGE1_LEN ∧ (0 = 0 ∨ hbmEnd < 2097152 + 0 ∧ 2097152 < ctlBase)) ∧
    -- next clause
    (∃ s ∈ (sts2)[5]?, Reaches s Reg.HOST_MR_CMD ∧ s.flag Reg.HOST_MR_STAT_DONE = true ∧ 1 = BitVec.toNat (s.reg Reg.HOST_MR_STAGE0) ∧ 1 =
      s.fld Reg.HOST_MR_STAGE1_LEN ∧ (∃ x ∈ s.host.qps, ∃ y ∈ x.2.cur, y.2.1 % 256 = (3#8).toNat)) ∧
    -- next clause
    (∃ s ∈ (sts2)[6]?, Reaches s Reg.HOST_QP_CMD ∧ [2657#64, 0#64, 6710886700#64, 0#64, 0#64, 0#64, 0#64, 0#64] = s.qpStage ∧ 1 = bitsOf
      (BitVec.toNat ([2657#64, 0#64, 6710886700#64, 0#64, 0#64, 0#64, 0#64, 0#64].getD 0 0)) 2 0 ∧ qpFieldsOk [2657#64, 0#64, 6710886700#64,
      0#64, 0#64, 0#64, 0#64, 0#64] = true ∧ qpMoveOk (s.qp (5#14).toNat).state 1 = true ∧ 1 ≠ 4) ∧
    -- next clause
    ∃ s ∈ (sts2)[7]?, Reaches s Reg.HOST_QP_CMD ∧ [2658#64, 0#64, 6710886700#64, 0#64, 0#64, 0#64, 0#64, 0#64] = s.qpStage ∧ 2 = bitsOf
      (BitVec.toNat ([2658#64, 0#64, 6710886700#64, 0#64, 0#64, 0#64, 0#64, 0#64].getD 0 0)) 2 0 ∧ qpFieldsOk [2658#64, 0#64, 6710886700#64,
      0#64, 0#64, 0#64, 0#64, 0#64] = true ∧ qpMoveOk (s.qp (5#14).toNat).state 2 = false := by
  decide +kernel

end HostPorts

/-! ### Votes -/

namespace Votes

def vs : State := withStream (((fab.setFlds [(Reg.RES_VOTE_CFG_NREP, 3), (Reg.RES_VOTE_CFG_REP_RANK, 1), (Reg.RES_VOTE_CFG_VFLOW, 7)]).setReg
  (Reg.FUL_TALLY_ACC_LO 0) 0x55).setReg (Reg.FUL_TALLY_ACC_LO 2) 0xF0) { st0 with ctrs := [(4, 0), (5, 990), (6, 1100)] }

def vs1 : State := vs.setFld Reg.RES_VOTE_CFG_NREP 1

def f1 : CkptF := { ch := 4, cl := 5, list := 0 }

def f2 : CkptF := { ch := 4, cl := 6, list := 0 }

def lat (s : State) : State := after s [.ckptVote src0 f1]

def mcmd : Cmd := {
  id := 4, loom := 0, stream := 0, slot := 3, tag := 1, bno := 1, iters := [], c := .move 16 18, issuePick := 5, budget := some 9, dsts := [16],
  names := [16,18], wrote := [16], entries := [1] }

def heldS (c : SlotCmd) (i : IssueCtx) : StreamSt := { st0 with
  ctrs := [(4,0),(5,990)], state := .held, hold := some (.ckpt, 850),
  queue := [
    .slot i c, .fin { tag := 1, le := false, pb := false, endloop := false, scalar := none, snap := [], cmps := 0, next := 2, ring := true } 3],
  bno := 3, pending := 1, bundles := [{bno := 3, tag := 1, signal := 0, issued := false, ring := true, endOff := 2, running := false}] }

def hv : State := { withStream vs (heldS (.ckptVote f1) (directCtx src0 (.ckptVote f1) vs)) with cmds := [mcmd] }

def rej (s : State) (r : Bool) : State := { s.setFld Reg.RES_RES_STAT_EXPELLED 1 with res := { s.res with restored := r } }

def lo : Nat := 0xA5

def voteRun1 : VoteRun := ((lat vs).res.votes[0]?).getD
  { cmd := 9, vstep := 0, lo := 165, hi := 0, invalid := false, gather := { start := 0, deadline := 0, rank := 0, members := [], record := [] } }

/-- A vote whose gather runs; one past its DEADLINE; one whose tally was INVALID. -/
def gath : State := atPick (lat vs) 1030

def lateV : State := atPick (lat vs) 1100

def badTally : State := let s := gath; { s with res := { s.res with votes := [{ voteRun1 with invalid := true, gather := {
  voteRun1.gather with record := voteBytes (0, 165, 0, true) } }] } }

/-- Two, or three, records that agree with this one, and three that differ. -/
def all3 : List VoteRec := [(0, 165, 0, false), (0, 165, 0, false), (0, 165, 0, false)]

def two3 : List VoteRec := [(0, 165, 0, false), (0, 165, 0, false), (0, 3, 4, false)]

def odd3 : List VoteRec := [(0, 3, 4, false), (0, 165, 0, false), (0, 3, 4, false)]

def none3 : List VoteRec := [(0, 3, 4, false), (0, 165, 0, false), (0, 3, 5, false)]

/-- A vote can decide here. -/
@[reducible] def mayDecide (s : State) (v : VoteRun) (recs : List VoteRec) : Prop :=
  InFlight s (cmd0 s) ∧ s.res.votes.find? (voteMeets s recs) = some v ∧ v.cmd = (cmd0 s).id ∧ (cmd0 s).plan = {} ∧ s.pick ≤ v.gather.deadline

/-- A vote can issue here, with its tally as it stands. -/
@[reducible] def mayVote (s : State) : Prop :=
  Takes src0 (.ckptVote f1) s ∧ ckptPick (directCtx src0 (.ckptVote f1) s) f1 ≤ s.pick ∧ s.cmdsOf src0.loom src0.stream = [] ∧
  s.fld Reg.RES_CK_STAT_PHASE ≠ 1

theorem witness_VotesAreLatchedAndDecided :
    Takes src0 (.ckptVote f2) vs ∧ vs.pick < ckptPick (directCtx src0 (.ckptVote f2) vs) f2 ∧
    -- next clause
    mayVote vs1 ∧ vs1.fld Reg.RES_VOTE_CFG_NREP = 1 ∧
    -- next clause
    mayVote vs ∧ vs.fld Reg.RES_VOTE_CFG_NREP ≠ 1 ∧ vs.fld Reg.RES_VOTE_CFG_REP_RANK < vs.fld Reg.RES_VOTE_CFG_NREP ∧ voteDeadline vs (ckptPick (directCtx src0 (.ckptVote f1) vs) f1) = some 1072 ∧
    vs.pick ≤ ckptPick (directCtx src0 (.ckptVote f1) vs) f1 + 16 ∧
    -- next clause
    mayVote (vs.setFld Reg.RES_VOTE_CFG_REP_RANK 3) ∧ (vs.setFld Reg.RES_VOTE_CFG_REP_RANK 3).fld Reg.RES_VOTE_CFG_NREP ≤ 3 ∧
    -- next clause
    HeldAt 0 0 (directCtx src0 (.ckptVote f1) vs) (.ckptVote f1) hv ∧ ckptPick (directCtx src0 (.ckptVote f1) vs) f1 ≤ hv.pick ∧
    hv.cmdsOf 0 0 ≠ [] ∧
    -- next clause
    (lat vs).boot.on = true ∧ (lat vs).fpWait = none ∧ (lat vs).res.cap = none ∧ (lat vs).res.votes = [voteRun1] ∧
    (lat vs).pick < voteRun1.gather.start ∧
    -- next clause
    InFlight lateV (cmd0 lateV) ∧ lateV.res.votes.find? (voteMeets lateV []) = some voteRun1 ∧ voteRun1.cmd = (cmd0 lateV).id ∧ (lateV.stream 0 0).state ≠ .faulted ∧
    (cmd0 lateV).loom = 0 ∧ (cmd0 lateV).stream = 0 ∧ voteRun1.gather.deadline < lateV.pick ∧
    (cmd0 lateV).phase = .own ∧
    lateV.res.votes.find? (fun w => w.cmd == (cmd0 lateV).id && decide (w.gather.deadline ≤ lateV.pick)) = some voteRun1 ∧
    -- next clause
    mayDecide badTally { voteRun1 with invalid := true, gather := { voteRun1.gather with record := voteBytes (0, 165, 0, true) } }
      [(0, 165, 0, false), (0, 165, 0, true), (0, 165, 0, false)] ∧
    -- next clause
    mayDecide gath voteRun1 two3 ∧ voteRun1.invalid = false ∧
    decideVote two3 (gath.fld Reg.RES_VOTE_CFG_NREP) = (2, [2]) ∧ gath.fld Reg.RES_VOTE_CFG_REP_RANK ∉ [2] ∧
    -- next clause
    mayDecide gath voteRun1 all3 ∧ decideVote all3 (gath.fld Reg.RES_VOTE_CFG_NREP) = (1, []) ∧
    -- next clause
    mayDecide gath voteRun1 odd3 ∧ decideVote odd3 (gath.fld Reg.RES_VOTE_CFG_NREP) = (2, [1]) ∧
    gath.fld Reg.RES_VOTE_CFG_REP_RANK ∈ [1] ∧
    -- next clause
    mayDecide gath voteRun1 none3 ∧ decideVote none3 (gath.fld Reg.RES_VOTE_CFG_NREP) = (5, []) ∧
    -- next clause
    (gath.stream 0 0).state ≠ .faulted ∧ gath.res.votes.find? (voteBreaks gath 0x0401 5) = some voteRun1 ∧
    (atPick gath 1072).res.votes.find? (voteBreaks (atPick gath 1072) 0x0402 3) = some voteRun1 ∧
    -- next clause
    Reaches vs Reg.RES_VOTE_CTL ∧ vs.flag Reg.RES_RES_STAT_EXPELLED = false ∧ vs.flag Reg.RES_RES_STAT_VOTE_HOLD = false ∧
    -- next clause
    Reaches (rej vs true) Reg.RES_VOTE_CTL ∧ (rej vs true).flag Reg.RES_RES_STAT_EXPELLED = true ∧ (rej vs true).res.restored = true := by
  decide +kernel

end Votes

/-! ### Checkpoint -/

namespace Checkpoint

def f1 : CkptF := { ch := 4, cl := 5, list := 50 }

def cw : State :=
  let s := State.withTensor fab 50 (bob 50) (tensor 50 5 [2] [1])
  let s := State.withTensor s 51 0x400000 (tensor 51 5 [4] [1])
  let s := (s.storeBytes (bob 50) [51,0,0,0,2,0,0,0]).storeBytes 0x400000 [9,8,7]
  withStream (s.setFlds [(Reg.RES_SHADOW_LEN_GRANULES, 4)]) { st0 with ctrs := [(4, 0), (5, 900), (6, 1100)] }

def cut : State := after cw [.ckptCut src0 f1]

def dr0 : State := after cut [.captureEnd]

def qx : QpSt := { ctx := [BitVec.ofNat 64 (96 + 512 + 2048 + 3),0,0,0,0,0,0,0], spsn := 7 }

def dr : State := (dr0.setQp 5 qx).setFlds [(Reg.HOST_DR_QP_VALID 0, 1), (Reg.HOST_DR_QP_QP 0, 5), (Reg.HOST_DR_LEN_LEN 0, 2^24),
  (Reg.HOST_DR_ADDR_ADDR 0, 0x80000000), (Reg.HOST_DR_KEY_RKEY 0, 99)]

def noSh : State := cut.setFld Reg.RES_SHADOW_LEN_GRANULES 0

def cls : State := match dr.res.ckpt with | some r => { dr with res := { dr.res with ckpt := some { r with closing := true } } } | none => dr

def flowB : FlowEntry := { flowE with flow := 9, srcLoom := 127 }

/-- A state with a flow of the checkpoint engine, to one buddy, that holds these credits. -/
def buddyFlow (s : State) (credits : List Credit) : State :=
  { s with wvn := { s.wvn with active := some { sched with flows := [flowB], slots := (List.range 20).map fun k => (1010 + 2 * k, 37) }, flows := [(9, { credits := credits })] } }

def credit1 : Credit := { cidx := 0, len := 2097152, arrived := 990 }

def credit64 : Credit := { cidx := 0, len := 64, arrived := 990 }

def f2 : CkptF := { ch := 4, cl := 6, list := 50 }

/-- A stream is held by a VOTE of this pick, before the CUT of another. -/
def votes : State := cw.setStream 0 1 { st0 with
  ctrs := [(4, 0), (5, 900)], state := .held, hold := some (.ckpt, 850), queue := [.slot (directCtx src0 (.ckptVote f1) cw) (.ckptVote f1)] }

/-- The drain after its last granule; with every one acknowledged. -/
def drLast : State := dr.setFld Reg.RES_CK_PROG_SENT (dr.res.ckpt.map (·.total)).get!

def drAll : State := { drLast with host := { drLast.host with acked := (List.range (dr.res.ckpt.map (·.total)).get!).map (·, true) } }

/-- A drain to a buddy, with a credit. -/
def drB : State := buddyFlow (dr0.setFlds [(Reg.RES_CK_TARGET_KIND, 1), (Reg.RES_CK_TARGET_BFLOW, 9)]) [credit1]

def runB : CkptRun := drB.res.ckpt.getD { cmd := 0, bufs := [], total := 0 }

/-- Its end, with a credit for the closing record; in UNSYNC. -/
def drBLast : State := buddyFlow (drB.setFld Reg.RES_CK_PROG_SENT (dr.res.ckpt.map (·.total)).get!) [credit64]

def drBUnsync : State := drB.setFld Reg.TIME_SYNC_STAT_STATE 4

/-- A held image of some granules. -/
def held (n : Nat) : State := buddyFlow (cw.setFlds [(Reg.RES_BUDDY_STAT_IMAGE, 1), (Reg.RES_BUDDY_STAT_GRANULES, n)]) [credit1]

/-- A SEND of a held image of two granules, with granule `g` next. -/
def sends (g : Nat) : State := { held 2 with res := { (held 2).res with sending := some { flow := 9, next := g } } }

/-- The closing records are on their way: of a drain, and of a SEND. -/
def endB : State := after drBLast [.drainGranuleSend]

def endS : State := after (buddyFlow (sends 2) [credit64]) [.drainGranuleSend]

def rst : State :=
  let s := cw.setReg Reg.RES_RST_ADDR 0x600000
  let s := s.setFld Reg.RES_RST_STAT_BUSY 1
  s.storeBytes 0x600000 (leBytes 8 42 ++ leBytes 8 900 ++ List.replicate 32 0 ++ [0,0,1,0] ++ List.replicate 12 0 ++ leBytes 8 77 ++
    List.replicate 184 0 ++ [0, 3, 0, 0] ++ List.replicate 200 1)

/-- A state that holds a partner's receiving region at 0x600000 and receives nothing yet. -/
def buddy : State := (live.setReg Reg.RES_BUDDY_BASE 0x600000).setFlds [(Reg.RES_BUDDY_LEN_LEN, 2 ^ 21 + 64)]

def run0 : CkptRun := cut.res.ckpt.getD { cmd := 0, bufs := [], total := 0 }

def run1 : CkptRun := dr.res.ckpt.getD run0

def run2 : CkptRun := cls.res.ckpt.getD run0

theorem witness_CheckpointsCaptureDrainAndRestore :
    Takes src0 (.ckptCut f2) cw ∧ cw.pick < ckptPick (directCtx src0 (.ckptCut f2) cw) f2 ∧ Takes src0 (.ckptCut f1) votes ∧
    voteDue votes (0, 0) = true ∧
    -- next clause
    Takes src0 (.ckptCut f1) cw ∧ ckptPick (directCtx src0 (.ckptCut f1) cw) f1 ≤ cw.pick ∧ voteDue cw (0, 0) = false ∧
    cw.cmdsOf 0 0 = [] ∧ (checkCut cw (directCtx src0 (.ckptCut f1) cw) f1.list).toOption.isSome = true ∧ cw.enabledStreams.length ≤ 1280 ∧
    -- next clause
    cut.boot.on = true ∧ cut.fpWait = none ∧ cut.res.cap = none ∧ cmd0 cut ∈ cut.cmds ∧ (cmd0 cut).loom < 80 ∧ (cmd0 cut).c = .ckptCut f1 ∧
    (∀ y ∈ cut.cmds, y = cmd0 cut) ∧ (cmd0 cut).draining = false ∧ (cmd0 cut).digest = none ∧ (cmd0 cut).plan = {} ∧
    cut.fld Reg.RES_CK_STAT_PHASE = 1 ∧
    -- next clause
    cut.res.ckpt = some run0 ∧ (∃ b ∈ run0.bufs[0]?, needsCopy run0 (cut.fld Reg.RES_CK_PROG_SENT) b 0 = true) ∧
    run0.used < cut.fld Reg.RES_SHADOW_LEN_GRANULES ∧
    -- next clause
    noSh.boot.on = true ∧ noSh.res.ckpt = some run0 ∧ (∃ b ∈ run0.bufs[0]?, needsCopy run0 (noSh.fld Reg.RES_CK_PROG_SENT) b 0 = true) ∧
    noSh.fld Reg.RES_SHADOW_LEN_GRANULES ≤ run0.used ∧
    -- next clause
    dr.boot.on = true ∧ dr.res.ckpt = some run1 ∧ dr.fld Reg.RES_CK_STAT_PHASE = 2 ∧ run1.closing = false ∧ 0 = dr.fld Reg.RES_CK_PROG_SENT ∧
    0 < run1.total ∧ dr.flag Reg.RES_CK_TARGET_KIND = false ∧ 1 = dr.fld Reg.RES_CK_TARGET_NTM1 + 1 ∧
    (0 / 1 + 1) * 2 ^ 21 ≤ dr.fld (Reg.HOST_DR_LEN_LEN (0 % 1)) ∧ drainQp dr (0 % 1) = some 5 ∧ pfcHolds dr 5 = false ∧
    dr.res.sending = none ∧
    -- next clause
    drLast.boot.on = true ∧ drLast.res.ckpt = some run1 ∧ drLast.fld Reg.RES_CK_STAT_PHASE = 2 ∧
    run1.total ≤ drLast.fld Reg.RES_CK_PROG_SENT ∧ drLast.flag Reg.RES_CK_TARGET_KIND = false ∧ drLast.res.sending = none ∧
    allAcked drLast run1.total = false ∧ drAll.res.ckpt = some run1 ∧ run1.total ≤ drAll.fld Reg.RES_CK_PROG_SENT ∧
    allAcked drAll run1.total = true ∧ drainQp drAll 0 = some 5 ∧ pfcHolds drAll 5 = false ∧
    -- next clause
    drB.boot.on = true ∧ drB.res.ckpt = some runB ∧ drB.fld Reg.RES_CK_STAT_PHASE = 2 ∧ runB.closing = false ∧
    0 = drB.fld Reg.RES_CK_PROG_SENT ∧ 0 < runB.total ∧ drB.flag Reg.RES_CK_TARGET_KIND = true ∧
    flowB.flow = drB.fld Reg.RES_CK_TARGET_BFLOW ∧ drB.res.sending = none ∧ runB.since = none ∧ EngineMay drB flowB false (2 ^ 21) none ∧
    -- next clause
    drBLast.boot.on = true ∧ drBLast.res.ckpt = some runB ∧ drBLast.fld Reg.RES_CK_STAT_PHASE = 2 ∧
    runB.total ≤ drBLast.fld Reg.RES_CK_PROG_SENT ∧ drBLast.flag Reg.RES_CK_TARGET_KIND = true ∧ EngineMay drBLast flowB false 64 none ∧
    -- next clause
    (buddyFlow drB []).res.ckpt = some runB ∧ (buddyFlow drB []).sync ≠ 4 ∧ windowShut (buddyFlow drB []) = false ∧
    engineSending (buddyFlow drB []) false = false ∧ flowEntry (buddyFlow drB []) 9 = some flowB ∧
    creditsReady ((buddyFlow drB []).flowSt 9) flowB (buddyFlow drB []).pick = false ∧
    -- next clause
    drBUnsync.res.ckpt = some runB ∧ drBUnsync.fld Reg.RES_CK_STAT_PHASE = 2 ∧ flowEntry drBUnsync 9 = some flowB ∧ drBUnsync.sync = 4 ∧
    -- next clause
    cls.boot.on = true ∧ cls.res.ckpt = some run2 ∧ run2.closing = true ∧
    -- next clause
    dr0.boot.on = true ∧ dr0.fld Reg.RES_CK_STAT_PHASE = 2 ∧ dr0.res.ckpt = some run1 ∧ drainCause dr0 run1 2 = true ∧
    drainCause dr run1 2 = false ∧
    -- next clause
    endB.boot.on = true ∧ endB.fpWait = none ∧ endB.res.cap = none ∧ endB.cmds = [] ∧
    (∃ r ∈ (endB.flowSt 9).throws.find? (fun r => r.tseq == (0 : W32).toNat), ∃ e ∈ r.engine,
      endB.pick ≤ e.deadline ∧ e.need.filter (· != 0) = [] ∧ e.closing = true ∧ e.send = false) ∧
    -- next clause
    endS.boot.on = true ∧ endS.fpWait = none ∧ endS.res.cap = none ∧ endS.cmds = [] ∧
    (∃ r ∈ (endS.flowSt 9).throws.find? (fun r => r.tseq == (0 : W32).toNat), ∃ e ∈ r.engine,
      endS.pick ≤ e.deadline ∧ e.need.filter (· != 0) = [] ∧ e.closing = true ∧ e.send = true) ∧
    -- next clause
    caughtFlow cw [] = none ∧
    -- next clause
    Reaches (held 2) Reg.RES_BUDDY_CTL ∧ (held 2).flag Reg.RES_BUDDY_STAT_IMAGE = true ∧ (held 2).res.sending = none ∧
    2 = (held 2).fld Reg.RES_BUDDY_STAT_GRANULES ∧ EngineMay (held 2) flowB true (2 ^ 21) none ∧
    0 = (held 0).fld Reg.RES_BUDDY_STAT_GRANULES ∧ EngineMay (buddyFlow (held 0) [credit64]) flowB true 64 none ∧
    (buddyFlow (held 2) []).sync ≠ 4 ∧ windowShut (buddyFlow (held 2) []) = false ∧ engineSending (buddyFlow (held 2) []) true = false ∧
    creditsReady ((buddyFlow (held 2) []).flowSt 9) flowB (held 2).pick = false ∧
    -- next clause
    Reaches cw Reg.RES_BUDDY_CTL ∧ cw.flag Reg.RES_BUDDY_STAT_IMAGE = false ∧ (sends 1).res.sending.isSome = true ∧
    -- next clause
    (sends 1).boot.on = true ∧ (sends 1).res.ckpt = none ∧ (sends 1).res.sending = some { flow := 9, next := 1 } ∧
    2 = (sends 1).fld Reg.RES_BUDDY_STAT_GRANULES ∧ EngineMay (sends 1) flowB true (2 ^ 21) none ∧
    (sends 2).res.sending = some { flow := 9, next := 2 } ∧ EngineMay (buddyFlow (sends 2) [credit64]) flowB true 64 none ∧
    (sends 3).res.sending = some { flow := 9, next := 3 } ∧
    -- next clause
    Reaches ready Reg.RES_RST_CTL ∧ (restoreRules ready).find? (·.2) = some (1, true) ∧ ready.jobActive = false ∧
    -- next clause
    rst.boot.on = true ∧ rst.nLooms ≤ 80 ∧ rst.flag Reg.RES_RST_STAT_BUSY = true := by
  decide +kernel

/-- What a partner's region receives: a granule of zeros, or the closing record after one. -/
def flowK : FlowEntry := { flowB with source := false, catcher := true, catchLoom := 127 }

def caught (len granules : Nat) : State :=
  let s := buddy.setFlds [(Reg.RES_BUDDY_STAT_GRANULES, granules), (Reg.RES_BUDDY_STAT_RECEIVING, granules)]
  { s with wvn := { s.wvn with
      active := some { sched with flows := [flowK] }
      flows := [(9, { eng := some { tseq := 4, len := len, cdl := 2000, got := len } })] } }

theorem sparse_zero (n : Nat) : sparseBytes [] 0 n = List.replicate n 0 := by
  simp [sparseBytes, smGet, List.map_const']

theorem caught_flow (len granules : Nat) (h : (caught len granules).pick ≤ 2000) :
    caughtFlow (caught len granules) (List.replicate len 0) = some flowK := by
  have a : (caught len granules).wvn.active = some { sched with flows := [flowK] } := rfl
  have e : ((caught len granules).flowSt flowK.flow).eng = some { tseq := 4, len := len, cdl := 2000, got := len } := rfl
  have k : flowK.catcher = true ∧ flowK.catchLoom = 127 := ⟨rfl, rfl⟩
  simp [caughtFlow, a, e, k, sparse_zero, h]

/-- A granule for a partner's region. -/
theorem witness_CheckpointsCaptureDrainAndRestore_buddy :
    caughtFlow (caught (2 ^ 21) 0) (List.replicate (2 ^ 21) 0) = some flowK ∧ (List.replicate (2 ^ 21) (0 : Byte)).length = 2 ^ 21 ∧
    (caught (2 ^ 21) 0).boot.on = true ∧ (caught (2 ^ 21) 0).res.ckpt = none ∧ ((caught (2 ^ 21) 0).flowSt 9).eng.isSome = true ∧
    flowK.revPort < (caught (2 ^ 21) 0).nPorts ∧ 0 = (caught (2 ^ 21) 0).fld Reg.RES_BUDDY_STAT_GRANULES ∧
    0x600000 = ((caught (2 ^ 21) 0).reg Reg.RES_BUDDY_BASE).toNat ∧ 2 ^ 21 ≤ (caught (2 ^ 21) 0).fld Reg.RES_BUDDY_LEN_LEN - 64 ∧
    0x600000 + 2 ^ 21 ≤ hbmEnd ∧
    -- next clause
    caughtFlow (caught 64 1) (List.replicate 64 0) = some flowK ∧ (caught 64 1).boot.on = true ∧ (caught 64 1).res.ckpt = none ∧
    ((caught 64 1).flowSt 9).eng.isSome = true ∧ 1 = (caught 64 1).fld Reg.RES_BUDDY_STAT_GRANULES ∧
    (caught 64 1).flag Reg.RES_BUDDY_STAT_RECEIVING = true ∧ 0x600000 + 2 ^ 21 + 64 ≤ hbmEnd := by
  and_intros
  all_goals first | exact caught_flow _ _ (by decide +kernel) | exact List.length_replicate | decide +kernel

/-! An image that RST_CTL may restore: one granule without streams or handles, and a closing record that holds its digest. -/

/-- The image without its digest, at 0x600000. -/
def image0 : State :=
  (((live.setReg Reg.RES_RST_ADDR 0x600000).poke 0x60002C 1).poke 0x800010 1).poke 0x800014 1

/-- The digest of its only granule. -/
def imageDigest : List Byte := shake256 32 (image0.bytes 0x600000 granuleSize)

/-- Bytes `l` written one by one from `a` on. -/
def pokes (m : List Host.Cell) (a : Nat) (l : List Byte) : Nat → List Host.Cell
  | 0 => m
  | n + 1 => smSet (fun _ => (0 : Byte)) (pokes m a l n) (a + n) (l.getD n 0)

/-- A state with another memory. -/
def withMem (s : State) (m : List Host.Cell) : State := { s with mem := m }

/-- The image with its digest. -/
def image1 : State := withMem image0 (pokes image0.mem 0x800018 imageDigest 32)

theorem withMem_reg (s : State) (m : List Host.Cell) (o : Nat) : (withMem s m).reg o = s.reg o := rfl

theorem withMem_byte (s : State) (m : List Host.Cell) (b : Nat) : (withMem s m).byte b = smGet (fun _ => 0) m b := rfl

theorem get_pokes (m : List Host.Cell) (a : Nat) (l : List Byte) (n b : Nat) :
    smGet (fun _ => (0 : Byte)) (pokes m a l n) b = if a ≤ b ∧ b < a + n then l.getD (b - a) 0 else smGet (fun _ => 0) m b := by
  induction n with
  | zero => simp only [pokes, Nat.add_zero]; rw [if_neg (by omega)]
  | succ n ih =>
    simp only [pokes, smGet_smSet, ih]
    by_cases h : b = a + n
    · subst h; simp
    · rw [if_neg h]; by_cases h2 : a ≤ b ∧ b < a + n
      · rw [if_pos h2, if_pos (by omega)]
      · rw [if_neg h2, if_neg (by omega)]

theorem image1_byte (b : Nat) (h : b < 0x800018) : image1.byte b = image0.byte b := by
  rw [image1, withMem_byte, get_pokes, if_neg (by omega), State.byte]

theorem image1_readOut (a n : Nat) (h : a + n ≤ hbmEnd) : image1.readOut a n = image1.bytes a n := by
  have none_ : image1.badWords = [] := rfl
  refine List.map_congr_left fun i hi => ?_
  have hbm : a + i < hbmEnd := by have := List.mem_range.1 hi; omega
  simp [State.served, State.isBad, State.shut, State.absent, tierOf, hbm, none_, smGet]

theorem image1_bytes (a n : Nat) (h : a + n ≤ 0x800018) : image1.bytes a n = image0.bytes a n := by
  refine List.map_congr_left fun i hi => image1_byte _ ?_
  have := List.mem_range.1 hi; omega

theorem image1_reg (o : Nat) : image1.reg o = image0.reg o := withMem_reg _ _ _

theorem image1_field (o n : Nat) (h : o + n ≤ 0x200018) : imgField image1 o n = leValue (image0.bytes (0x600000 + o) n) := by
  have r : (image1.reg Reg.RES_RST_ADDR).toNat = 0x600000 := by rw [image1_reg]; decide +kernel
  rw [imgField, r, image1_readOut _ _ (by have : hbmEnd ≥ 0x1000000 := by decide
                                          omega), image1_bytes _ _ (by omega)]

theorem digest_length : imageDigest.length = 32 := by
  unfold imageDigest shake256
  simp only [List.length_take, List.length_flatMap]
  have e (v : Nat) : (leBytes 8 v).length = 8 := by simp [leBytes]
  simp only [e]
  decide

theorem image1_digest : image1.bytes 0x800018 32 = imageDigest := by
  refine List.ext_getElem (by simp [State.bytes, digest_length]) fun i h h2 => ?_
  have hi : i < 32 := by simpa [State.bytes] using h
  simp only [State.bytes, List.getElem_map, List.getElem_range]
  rw [image1, withMem_byte, get_pokes, if_pos (by omega), Nat.add_sub_cancel_left]
  simp [List.getD, List.getElem?_eq_getElem h2]

/-- No REASON applies to that image. -/
theorem witness_CheckpointsCaptureDrainAndRestore_restore :
    Reaches image1 Reg.RES_RST_CTL ∧ ∀ p ∈ restoreRules image1, p.2 = false := by
  refine ⟨by decide +kernel, ?_⟩
  have f44 : imgField image1 44 4 = 1 := by rw [image1_field _ _ (by omega)]; decide +kernel
  have f48 : imgField image1 48 2 = 0 := by rw [image1_field _ _ (by omega)]; decide +kernel
  have f50 : imgField image1 50 2 = 0 := by rw [image1_field _ _ (by omega)]; decide +kernel
  have f0 : imgField image1 0 8 = 0 := by rw [image1_field _ _ (by omega)]; decide +kernel
  have f8 : imgField image1 8 8 = 0 := by rw [image1_field _ _ (by omega)]; decide +kernel
  have f16 : imgField image1 16 8 = 0 := by rw [image1_field _ _ (by omega)]; decide +kernel
  have c0 : imgField image1 0x200000 8 = 0 := by rw [image1_field _ _ (by omega)]; decide +kernel
  have c8 : imgField image1 0x200008 8 = 0 := by rw [image1_field _ _ (by omega)]; decide +kernel
  have c16 : imgField image1 0x200010 4 = 1 := by rw [image1_field _ _ (by omega)]; decide +kernel
  have c20 : imgField image1 0x200014 4 = 1 := by rw [image1_field _ _ (by omega)]; decide +kernel
  have r : (image1.reg Reg.RES_RST_ADDR).toNat = 0x600000 := by rw [image1_reg]; decide +kernel
  have dg : image1.readOut 0x800018 32 = shake256 32 (image1.readOut 0x600000 granuleSize) := by
    rw [image1_readOut _ _ (by decide), image1_readOut _ _ (by decide), image1_digest, image1_bytes 0x600000 granuleSize (by decide)]; rfl
  have r1 : (!image1.jobActive || image1.enabledStreams.any (fun p => !(image1.stream p.1 p.2).atRest) || image1.ckptBusy) = false := by
    decide +kernel
  have job : (image1.reg Reg.GCTL_JOB_ID).toNat = 0 := by rw [image1_reg]; decide +kernel
  have hs : imgHandles image1 = [] := by simp [imgHandles, f48]
  have g : granuleSize = 0x200000 := rfl
  simp [restoreRules, f44, f50, f0, f8, f16, r, r1, job, hs, g, c0, c8, c16, c20, dg]

end Checkpoint

/-! ### Swatch -/

namespace Swatch

def sp (v : Nat) (s : State) : State := s.setFld Reg.GCTL_SPARE_STAT_STATE v

def rm (s : State) : State := atPick (
  { (s.storeBytes (bob 3) [1,2,3]).setFlds [(Reg.RES_SPARE_RES_PENDING, 1)] with res := { s.res with remap := some 0 } }) 16384

/-- A die without a spare, whose loom 0 runs a stream. -/
def busyL : State := withStream (sp 21845 live) { st0 with state := .running }

def wnd : State := let sc := { sched with windows := [{start := 900, length := 200, kind := 1}] }
  let s := { fab with wvn := { fab.wvn with active := some sc } }
  let s := State.withTensor s 60 (bob 60) (tensor 60 5 [32] [1])
  let s := (s.setReg (Reg.RES_SWS_ADDR 3) 0x500000).setFld (Reg.RES_SWS_CTL_STATE 3) 1
  let s := ((s.setReg Reg.RES_SWR_BASE 0x700000).setFld Reg.RES_SWR_CTL_LOG2N 4).setFld Reg.RES_SWR_CTL_WPTR 17
  withStream (s.storeBytes 0x500000 (leBytes 8 5 ++ leBytes 4 0 ++ leBytes 4 0 ++ leBytes 8 0 ++ leBytes 8 64 ++ leBytes 8 4)) st0

def busyW : State := wnd.setLoom 0 { own0 := some 2 }

def run1 : State := after wnd [.swatch src0 3 60]

def ended (s : State) : State := { s with res := { s.res with swatches := s.res.swatches.map fun r => { r with st := { r.st with prog := none } } } }

def run2 : State := ended run1

def run3 : State := { run2 with
  res := { run2.res with swatches := run2.res.swatches.map fun r => { r with expect := gdigest r.skey 0 (orderedWords r.words) } } }

def heldCtx (c : SlotCmd) : IssueCtx := { loom := 0, stream := 0, slot := slotOf c, tag := 1, snap := [], iters := [], bno := 3, inProg := false }

def heldS (c : SlotCmd) : StreamSt := { st0 with
  state := .held, hold := some (.swatchWait, 850),
  queue := [
    .slot (heldCtx c) c,
    .fin { tag := 1, le := false, pb := false, endloop := false, scalar := none, snap := [], cmps := 0, next := 2, ring := true } 3],
  bno := 3, pending := 1, bundles := [{bno := 3, tag := 1, signal := 0, issued := false, ring := true, endOff := 2, running := false}] }

def hw : State := withStream wnd (heldS (.swatch 3 60))

def arm (a b : Nat) : State := live.setFlds [(Reg.RES_CAP_STAT_ARMED, a), (Reg.RES_CAP_STAT_ACTIVE, b)]

def ctx1 : IssueCtx := { loom := 0, stream := 0, slot := 7, tag := 1#24, snap := [], iters := [], bno := 3, inProg := false }

theorem witness_SparesAndSwatches :
    Reaches live Reg.RES_SPARE_CMD ∧
    (0#7).toNat < live.nLooms ∧
    (∀ (k : Nat), k < 16 → (live.stream (0#7).toNat k).atRest = true) ∧
    (∀ (x : Cmd), x ∈ live.cmds → x.loom ≠ (0#7).toNat) ∧
    live.ckptBusy = false ∧
    (freeSpare live (live.dieOf (0#7).toNat)).isSome = true ∧
    -- next clause
    live.nLooms ≤ (80#7).toNat ∧
    -- next clause
    Reaches live Reg.RES_HEALTH ∧
    live.flag Reg.RES_HEALTH_SUSPECT = false ∧
    -- next clause
    Reaches live Reg.RES_CAP_START ∧
    live.flag Reg.RES_CAP_STAT_ARMED = false ∧
    live.flag Reg.RES_CAP_STAT_ACTIVE = false ∧
    -- next clause
    Reaches live (Reg.RES_SWS_CTL (0#8).toNat) ∧
    -- next clause
    Reaches (sp 21845 live) Reg.RES_SPARE_CMD ∧
    (0#7).toNat < (sp 21845 live).nLooms ∧
    (∀ (k : Nat), k < 16 → ((sp 21845 live).stream (0#7).toNat k).atRest = true) ∧
    (∀ (x : Cmd), x ∈ (sp 21845 live).cmds → x.loom ≠ (0#7).toNat) ∧
    (sp 21845 live).ckptBusy = false ∧
    freeSpare (sp 21845 live) ((sp 21845 live).dieOf (0#7).toNat) = none ∧
    -- next clause
    (0#7).toNat < busyL.nLooms ∧ (busyL.stream (0#7).toNat 0).atRest = false ∧ freeSpare busyL (busyL.dieOf (0#7).toNat) = none ∧
    busyL.ringOn = true ∧ (busyL.queue 4).length < 512 ∧ Reaches busyL Reg.RES_SPARE_CMD ∧
    -- next clause
    (rm live).boot.on = true ∧
    (rm live).atShed = true ∧
    (rm live).res.remap = some 0 ∧
    (rm live).dieOf 0 < 4 ∧
    (rm live).res.stalled = [] ∧
    freeSpare (rm live) ((rm live).dieOf 0) = some 0 ∧
    -- next clause
    Reaches (arm 1 0) Reg.RES_CAP_START ∧
    ((arm 1 0).flag Reg.RES_CAP_STAT_ARMED = true ∨ (arm 1 0).flag Reg.RES_CAP_STAT_ACTIVE = true) ∧
    -- next clause
    directCtx src0 (SlotCmd.swatch 3 60) wnd = directCtx src0 (SlotCmd.swatch 3#16 60#16) wnd ∧
    src0.loom < 80 ∧
    Takes src0 (SlotCmd.swatch 3#16 60#16) wnd ∧
    HandlesFree src0 (SlotCmd.swatch 3#16 60#16) wnd ∧
    windowLeft wnd 1 ≠ 0 ∧
    (∃ o ∈ (checkSwatch wnd (directCtx src0 (SlotCmd.swatch 3 60) wnd) (3#16).toNat 60#16).toOption, othersQuiet wnd src0.loom (src0.stream
      % 4) = true) ∧
    -- next clause
    directCtx src0 (SlotCmd.swatch 3 60) wnd = directCtx src0 (SlotCmd.swatch 3#16 60#16) busyW ∧
    Takes src0 (SlotCmd.swatch 3#16 60#16) busyW ∧
    HandlesFree src0 (SlotCmd.swatch 3#16 60#16) busyW ∧
    windowLeft busyW 1 ≠ 0 ∧
    othersQuiet busyW src0.loom (src0.stream % 4) = false ∧
    -- next clause
    (∃ o ∈ (checkSwatch hw ctx1 (3#16).toNat 60#16).toOption, HeldAt 0 0 ctx1 (SlotCmd.swatch 3#16 60#16) hw ∧ windowLeft hw 1 ≠ 0 ∧
      othersQuiet hw 0 (0 % 4) = true) ∧
    -- next clause
    ∃ r ∈ (List.flatMap (fun s => s.res.swatches) [run2, run3])[0]?, ∃ x ∈ (run2.cmds)[0]?, ∃ v ∈ (List.flatMap (fun s => List.map (fun r o
      => (Option.map (fun x => x.snd) (List.find? (fun x => x.fst == o) r.saved)).getD 0) s.res.swatches) [run2, run3])[0]?, InFlight run2 x
      ∧ run2.swRun 0 = some r ∧ r.stream = 0 ∧ r.cmd = x.id ∧ r.ended run2 = true ∧ r.st.fault = none ∧ x.plan = {} ∧ r.saved = List.map
      (fun o => (o, v o)) (swatchRegs 0 (0 % 4)) ∧ 17 = run2.fld Reg.RES_SWR_CTL_WPTR ∧ 4 = run2.fld Reg.RES_SWR_CTL_LOG2N ∧
      (run2.reg Reg.RES_SWR_BASE).toNat + 64 * 2 ^ 4 ≤ hbmEnd := by
  decide +kernel

end Swatch

/-! ### Records -/

namespace Records

def cn : CmdName := { loom := 0, stream := 0, slot := 3, tag := 9, iters := [1,2] }

def r1 : FaultRec := { pick := 990, code := 0x0103, sev := .context, cmd := some cn, loom := some 0, handle := some 5 }

def fq (l : List FaultRec) : State := { withStream live { st0 with state := .faulted } with faults := { live.faults with queues := [(1, l)] } }

def off (b : Nat) (l : List FaultRec) : State :=
  let s := (live.setFld Reg.FAULT_FR_CTL_EN 0).setReg Reg.FAULT_FR_BASE (BitVec.ofNat 64 b)
  { s with faults := { s.faults with held := l } }

def le : LogEntry := { pick := 5, code := 3, sev := 0xFF, data := [1,2,3] }

def lg (s : State) (l : List LogEntry) (lost : Nat) (seq : Option Nat) : State := { s with
  mgmt := { s.mgmt with logBuf := l, logLost := lost, logSeq := seq, logChain := List.replicate 32 7 } }

/-- Before HBM is trained. -/
def early (s : State) : State := { s with boot := { s.boot with trainDone := false } }

theorem witness_FaultRecordsReachTheRing :
    (fq [r1]).boot.on = true ∧
    (fq [r1]).res.ckpt = none ∧
    (fq [r1]).ringOn = true ∧
    (fq [r1]).queue 1 = [r1] ∧
    (fq [r1]).faults.written < 8 ∧
    (fq [r1]).ringSlot + 64 ≤ hbmEnd ∧
    -- next clause
    Reaches (off 4097 []) Reg.FAULT_FR_CTL ∧ (off 4097 []).flag Reg.FAULT_FR_CTL_EN = false ∧
    ((off 4097 []).reg Reg.FAULT_FR_BASE).toNat % 64 ≠ 0 ∧ hbmEnd < ((off hbmEnd []).reg Reg.FAULT_FR_BASE).toNat + 64 * 2 ^ (4#5).toNat ∧
    -- next clause
    Reaches (early (off 4096 [])) Reg.FAULT_FR_CTL ∧ (early (off 4096 [])).flag Reg.FAULT_FR_CTL_EN = false ∧
    (early (off 4096 [])).boot.trainDone = false ∧ ((early (off 4096 [])).reg Reg.FAULT_FR_BASE).toNat = 4096 ∧
    -- next clause
    Reaches (fq [r1]) Reg.FAULT_FR_CTL ∧
    (fq [r1]).flag Reg.FAULT_FR_CTL_EN = true ∧
    (7#5).toNat ≠ (fq [r1]).fld Reg.FAULT_FR_CTL_LOG2N ∧
    (6#5).toNat = (fq [r1]).fld Reg.FAULT_FR_CTL_LOG2N ∧
    -- next clause
    (fq [r1]).jobActive = true ∧
    -- next clause
    (off 4096 []).boot.on = true ∧
    (off 4096 []).res.ckpt = none ∧
    Reaches (off 4096 []) Reg.FAULT_FR_CTL ∧
    (off 4096 []).flag Reg.FAULT_FR_CTL_EN = false ∧
    (off 4096 []).boot.trainDone = true ∧
    BitVec.toNat ((off 4096 []).reg Reg.FAULT_FR_BASE) % 64 = 0 ∧
    BitVec.toNat ((off 4096 []).reg Reg.FAULT_FR_BASE) + 64 * 2 ^ (0#5).toNat ≤ hbmEnd ∧
    -- next clause
    (live.setFld Reg.GCTL_DEV_STATE_JOB_ACTIVE 0).boot.on = true ∧
    (live.setFld Reg.GCTL_DEV_STATE_JOB_ACTIVE 0).res.ckpt = none ∧
    Reaches (live.setFld Reg.GCTL_DEV_STATE_JOB_ACTIVE 0) Reg.FAULT_FR_CTL ∧
    (live.setFld Reg.GCTL_DEV_STATE_JOB_ACTIVE 0).flag Reg.FAULT_FR_CTL_EN = true ∧
    (6#5).toNat = (live.setFld Reg.GCTL_DEV_STATE_JOB_ACTIVE 0).fld Reg.FAULT_FR_CTL_LOG2N ∧
    (live.setFld Reg.GCTL_DEV_STATE_JOB_ACTIVE 0).jobActive = false := by
  decide +kernel

theorem witness_LogEntriesAreChained :
    (lg live [le] 0 none).boot.on = true ∧
    (lg live [le] 0 none).boot.configEnded = true ∧
    (lg live [le] 0 none).mgmt.heldReset = false ∧
    (lg live [le] 0 none).mgmt.logBuf = [le] := by
  decide +kernel

end Records

/-! ### Counters -/

namespace Counters

def sn (s : State) : State := (s.setFlds [(Reg.CNT_CNT_CTL_RUN, 1), (Reg.CNT_SNAP_CTL_LOG2N, 2)]).setReg Reg.CNT_SNAP_BASE 0x800000

def b0 : State := { atPick (sn live) 16384 with cnt := { live.cnt with vals := [(0,5),(9, 77),(17, 3)], seq := 6 } }

def b3 : State := { b0 with cnt := { b0.cnt with latched := some (6, 2, List.replicate 2048 0), lastShed := some 2, seq := 6 } }

def b4 : State := atPick b3 (3*8192)

def tr : TraceRec := {
  pick := 990, frac := 4, issue := 3, first := 1, last := 2, retire := 7, tag := 9, loom := 0, stream := 0, mask := 1, forced := false,
  nodata := false, held := false, iters := [] }

def trs : State := { (live.setFlds [(Reg.CNT_TR_CTL_EN, 1), (Reg.CNT_TR_RING_LOG2N, 3)]).setReg Reg.CNT_TR_BASE 0x900000 with
  cnt := { live.cnt with traces := [(1, [tr, tr])], traceSeq := 13 } }

def map1 (s : State) : State := (s.setReg (Reg.HTAB_ENTRY_W0 0 0) (BitVec.ofNat 64 (0x800000 + 2 ^ 63))).setReg (Reg.HTAB_ENTRY_W1 0 0) 0x10000

def traceRec1 : TraceRec := {
  pick := 990, frac := 4, issue := 3, first := 1, last := 2, retire := 7, tag := 9, loom := 0, stream := 0, mask := 1, forced := false,
  nodata := false, held := false, iters := [] }

def mapped : State := map1 ((sn live).setFld Reg.CNT_CNT_ACCESS_USER 1)

theorem witness_CountersSnapshotsAndTraces :
    b0.boot.on = true ∧
    b0.res.ckpt = none ∧
    b0.atShed = true ∧
    b0.cnt.lastShed ≠ some (shedOf b0.pick) ∧
    b0.snapshotsOn = true ∧
    -- next clause
    1 ≤ (1#8).toNat ∧
    Reaches b0 (Reg.CNT_CFG ((1#8).toNat - 1) (0#3).toNat) ∧
    maxEvent (1#8).toNat < bitsOf (261#64).toNat 7 0 ∧
    -- next clause
    bitsOf (9223372036854775809#64).toNat 7 0 ≤ maxEvent (1#8).toNat ∧
    -- next clause
    (1 ≤ 1 ∧ 1 ≤ 255 ∧ 0 < 8) ∧
    -- next clause
    Reaches b0 Reg.CNT_CNT_CTL ∧
    -- next clause
    Reaches b0 Reg.CNT_CNT_ACCESS ∧
    (false = true ∨ b0.flag Reg.CNT_CNT_ACCESS_USER = false ∨ ringsMapped b0 = false) ∧
    -- next clause
    b3.boot.on = true ∧
    b3.res.ckpt = none ∧
    (∃ l ∈ b3.cnt.latched, (b3.atShed = false ∨ b3.cnt.lastShed = some (shedOf b3.pick)) ∧ l.1 = 6 ∧ l.2.1 = shedOf b3.pick ∧
      l.2.2.length = 2048) ∧
    4 = 2 ^ b3.fld Reg.CNT_SNAP_CTL_LOG2N ∧ 8388608 = (b3.reg Reg.CNT_SNAP_BASE).toNat ∧ 8388608 + 16384 * 4 ≤ hbmEnd ∧
    -- next clause
    b4.boot.on = true ∧
    b4.res.ckpt = none ∧
    (∃ l ∈ b4.cnt.latched, l.1 = 6 ∧ l.2.1 = 2 ∧ 2 < shedOf b4.pick) ∧
    -- next clause
    trs.boot.on = true ∧
    trs.res.ckpt = none ∧
    smGet (fun _ => []) trs.cnt.traces 1 = [tr, traceRec1] ∧
    trs.flag Reg.CNT_TR_CTL_EN = true ∧
    8 = 2 ^ trs.fld Reg.CNT_TR_RING_LOG2N ∧
    BitVec.toNat (trs.reg Reg.CNT_TR_BASE) + 64 * 8 ≤ hbmEnd ∧
    9437504 = BitVec.toNat (trs.reg Reg.CNT_TR_BASE) + 64 * (trs.cnt.traceSeq % 8) ∧
    -- next clause
    mapped.boot.on = true ∧
    mapped.res.ckpt = none ∧
    Reaches mapped Reg.CNT_CNT_ACCESS ∧
    mapped.flag Reg.CNT_CNT_ACCESS_USER = true ∧
    ringsMapped mapped = true := by
  decide +kernel

end Counters

/-! ### BringUp -/

namespace BringUp

def ph (n : Nat) (s : State) : State := { s.setFld Reg.GCTL_DEV_STATE_PHASE n with boot := { s.boot with running := true } }

def flashW (s : State) (a : Nat) (bs : List Byte) : State := { s with
  flash := bs.zipIdx.foldl (fun m (b, k) => smSet (fun _ => (0xFF : Byte)) m (a + k) b) s.flash }

def fw0 : State := ph 0 State.reset

def g2 (s : State) : State := { s with fuses := { s.fuses with grade := FuseField.whole 2 } }

def fw1 : State := ph 1 (State.reset.setFlds [(Reg.GCTL_GRADE_ACTIVE_LOOMS, 80), (Reg.GCTL_GRADE_PORTS, 18)])

def fwGood (s : State) : State := flashW s fwRegion.1 (leBytes 8 0x3157465944425346 ++ leBytes 4 29900 ++ leBytes 4 3 ++ leBytes 1 2)

def owner : Nat := leValue (shake256 32 (List.replicate 64 5))

def cfgGood (s : State) : State :=
  let s := { s with fuses := { s.fuses with owner := .whole owner } }
  let dir := [1,2,3,5,6,4].zipIdx.flatMap fun (t, i) => leBytes 4 t ++ leBytes 4 (128 + 96 + 4 * i) ++ leBytes 4 4 ++ leBytes 4 0
  flashW s cfgRegion.1 (leBytes 8 0x3130474643594442 ++ leBytes 2 1 ++ leBytes 2 6 ++ leBytes 4 (29792 + 128 + 96 + 24) ++ List.replicate 48 0 ++
    List.replicate 64 5 ++ dir)

/-- A schedule whose flows name ports of the grade alone. -/
def sched1 : Schedule := { sched with flows := [flowE, { flowC with altOut := 1 }, flowX] }

def cfg1 : ConfigData := {
  bootHold := false, soakSkip := false, capW := 2000, slack := 5, waitLimit := 6, forcePaced := false, beamMode := [0,0,0,0], ownPriority := 9,
  holdoverLimit := 1000, asym := [], trainTimeout := 1200, laneBerLimit := 0, encrypt := true, injAllow := false, selBoot := 0,
  schedules := [sched1], anchors := [1], swatchKeys := [], hostPorts := [], rate := 3, allow := [7, 8],
  spareThreshold := none, watch := [], rangeOk := true }

def c2 : State := ph 2 (cfgGood fw1)

def c3 : State := ph 3 live

def c4 : State := ph 4 live

def linked : State := { c4 with wvn := { c4.wvn with schedules := [{ sched1 with neighbours := [(0, 1, 1)] }] } }

def noRing : State := c3.setFld Reg.FAULT_FR_CTL_EN 0

def c5 : State := ph 5 live

def c6 : State := ph 6 live

def c7 : State :=
  { ph 7 live with boot := { live.boot with running := true, cfg := some cfg1 }, wvn := { live.wvn with schedules := cfg1.schedules } }

/-- A port that has passed the handshake and knows its partner's bolt hash. -/
def auth7 (hash : BitVec 256) : State :=
  (c7.setFld (Reg.WVN_PSTAT_STATE 0) 2).setPort 0 { c7.port 0 with keyed := true, pendingCheck := true, partnerHash := some hash }

def c8 : State := ph 8 live

def offS (a b : Bool) : State := { live with boot := { live.boot with on := false, pwrGood := a, railsOk := b } }

theorem witness_BringUpRunsItsPhases :
    (offS true true).boot.on = false ∧
    (offS true true).boot.railsOk = true ∧
    -- next clause
    (offS true true).boot.pwrGood = true ∧
    -- next clause
    (offS false true).boot.on = false ∧
    (offS false true).boot.pwrGood = false ∧
    -- next clause
    (offS true false).boot.on = false ∧
    (offS true false).boot.railsOk = false ∧
    -- next clause
    fw0.inPhase 0 = true ∧
    fw0.fuses.grade.value? = some 0 ∧
    fw0.fuses.roles.value? = some 29931553532538593176646070163060858684766488855838720 ∧
    fw0.fuses.uid.value? = some 1 ∧
    0 ≤ 1 ∧
    rolesMatch 0 29931553532538593176646070163060858684766488855838720 = true ∧
    fw0.fuses.seed.value?.isSome = true ∧
    -- next clause
    (g2 fw0).inPhase 0 = true ∧
    (g2 fw0).fuses.grade.value? = some 2 ∧
    (g2 fw0).fuses.roles.value? = some 29931553532538593176646070163060858684766488855838720 ∧
    (g2 fw0).fuses.uid.value? = some 1 ∧
    (1 < 2 ∨ rolesMatch 2 29931553532538593176646070163060858684766488855838720 = false) ∧
    -- next clause
    fw1.inPhase 1 = true ∧
    ((fwHeaderFault fw1.fuses (fw1.flashBytes 0 64)).isSome = true ∨ false = false) ∧
    -- next clause
    (fwGood fw1).inPhase 1 = true ∧
    fwHeaderFault (fwGood fw1).fuses ((fwGood fw1).flashBytes 0 64) = none ∧
    ¬1 ∈ (fwGood fw1).mgmt.badRegion ∧
    -- next clause
    c2.inPhase 2 = true ∧
    c2.boot.configEnded = false ∧
    c2.nLooms ≤ 80 ∧
    c2.nPorts ≤ 18 ∧
    (cfgFault c2 (seated c2 cfg1) false).isSome = true ∧
    -- next clause
    cfgFault c2 (seated c2 cfg1) true = none ∧
    (seated c2 cfg1).bootHold = false ∧
    -- next clause
    cfgFault c2 (seated c2 { cfg1 with bootHold := true }) true = none ∧
    (seated c2 { cfg1 with bootHold := true }).bootHold = true ∧
    -- next clause
    (c3.storeBytes 4096 [1, 2]).inPhase 3 = true ∧
    (c3.storeBytes 4096 [1, 2]).nLooms ≤ 80 ∧
    (c3.storeBytes 4096 [1, 2]).faults.held = [] ∧
    -- next clause
    (∃ k, k ∈ [0] ∧ k < 12) ∧
    -- next clause
    c4.inPhase 4 = true ∧
    c4.nPorts ≤ 18 ∧ c4.boot.soakSkip = false ∧ linked.inPhase 4 = true ∧
    0 < linked.nPorts ∧ hasNeighbour linked 0 = true ∧
    -- next clause
    fw0.ringOn = false ∧ fw1.ringOn = false ∧ c2.ringOn = false ∧ noRing.inPhase 3 = true ∧ noRing.ringOn = false ∧
    -- next clause
    c5.inPhase 5 = true ∧
    (∀ (p : Nat), p < c5.nPorts → linkSettled c5 p = true) ∧
    -- next clause
    c6.inPhase 6 = true ∧
    (c6.sync = 2 ∨ c6.sync = 5) ∧
    -- next clause
    c7.inPhase 7 = true ∧
    c7.boot.cfg = some cfg1 ∧
    List.find? (fun x => x.index == cfg1.selBoot) c7.wvn.schedules = some sched1 ∧ c7.nPorts ≤ 18 ∧
    -- next clause
    (auth7 77).inPhase 7 = true ∧ 0 < (auth7 77).nPorts ∧ (auth7 77).portState 0 = 2 ∧ ((auth7 77).port 0).keyed = true ∧
    ((auth7 77).port 0).pendingCheck = true ∧ ((auth7 77).port 0).partnerHash = some sched1.hash ∧ neighbourOk (auth7 77) sched1 0 = true ∧
    hopoffOk (auth7 77) sched1 0 = true ∧ ((auth7 78).port 0).partnerHash = some 78 ∧ 78 ≠ sched1.hash ∧ (auth7 78).portState 0 = 2 ∧
    -- next clause
    c8.inPhase 8 = true := by
  decide +kernel

end BringUp

/-! ### Power -/

namespace Power

def base : State := live.setFlds [(Reg.PWR_PWR_STAT_DONE, 1)]

def todoW (s : State) (k st : Nat) (t : List Nat) : State := { s.setFlds [(Reg.PWR_PWR_STAT_DONE, 0)] with
  pwr := { s.pwr with run := some { kind := k, state := st, todo := t } } }

def dev (s : State) (st : Nat) : State := s.setFlds [(Reg.GCTL_DEV_STATE_STATE, st), (Reg.GCTL_DEV_STATE_JOB_ACTIVE, 0)]

/-- The management cores are held in reset. -/
def held : State := { base with mgmt := { base.mgmt with heldReset := true } }

theorem witness_PowerCommandsMoveTheirTargets :
    Reaches held Reg.PWR_PWR_CMD ∧
    held.mgmt.heldReset = true ∧
    -- next clause
    Reaches base Reg.PWR_PWR_CMD ∧
    base.mgmt.heldReset = false ∧
    base.flag Reg.PWR_PWR_STAT_DONE = true ∧
    base.releasing = false ∧
    1#9 ≠ 0 ∧
    (0#9).toNat + (1#9).toNat ≤ 512 ∧
    (Instr.pwrLoomOn 0#9 1#9 = Instr.pwrLoomOn 0#9 1#9 ∧ 1 = 1 ∧ 0 = 0 ∨ Instr.pwrLoomOn 0#9 1#9 = Instr.pwrLoomGated 0#9 1#9 ∧ 1 = 1 ∧ 0 =
      1 ∨ Instr.pwrLoomOn 0#9 1#9 = Instr.pwrLoomDark 0#9 1#9 ∧ 1 = 1 ∧ 0 = 2 ∨ Instr.pwrLoomOn 0#9 1#9 = Instr.pwrBankOn 0#9 1#9 ∧ 1 = 2 ∧
      0 = 0 ∨ Instr.pwrLoomOn 0#9 1#9 = Instr.pwrBankRetain 0#9 1#9 ∧ 1 = 2 ∧ 0 = 1 ∨ Instr.pwrLoomOn 0#9 1#9 = Instr.pwrBankDark 0#9 1#9 ∧
      1 = 2 ∧ 0 = 2) ∧
    firstRefused base 1 0 (0#9).toNat (1#9).toNat = none ∧
    [] = List.filter (fun k => (if 1 = 1 then base.loomPower k else base.bank k) != 0) (List.map (fun x => x + (0#9).toNat) (List.range
      (1#9).toNat)) ∧
    -- next clause
    (Instr.pwrLoomGated 0#9 1#9 = Instr.pwrLoomOn 0#9 1#9 ∧ 1 = 1 ∧ 1 = 0 ∨ Instr.pwrLoomGated 0#9 1#9 = Instr.pwrLoomGated 0#9 1#9 ∧ 1 = 1
      ∧ 1 = 1 ∨ Instr.pwrLoomGated 0#9 1#9 = Instr.pwrLoomDark 0#9 1#9 ∧ 1 = 1 ∧ 1 = 2 ∨ Instr.pwrLoomGated 0#9 1#9 = Instr.pwrBankOn 0#9
      1#9 ∧ 1 = 2 ∧ 1 = 0 ∨ Instr.pwrLoomGated 0#9 1#9 = Instr.pwrBankRetain 0#9 1#9 ∧ 1 = 2 ∧ 1 = 1 ∨ Instr.pwrLoomGated 0#9 1#9 =
      Instr.pwrBankDark 0#9 1#9 ∧ 1 = 2 ∧ 1 = 2) ∧
    firstRefused base 1 1 (0#9).toNat (1#9).toNat = none ∧
    [0] = List.filter (fun k => (if 1 = 1 then base.loomPower k else base.bank k) != 1) (List.map (fun x => x + (0#9).toNat) (List.range
      (1#9).toNat)) ∧
    [0] ≠ [] ∧
    -- next clause
    2#9 ≠ 0 ∧
    (79#9).toNat + (2#9).toNat ≤ 512 ∧
    (Instr.pwrLoomOn 79#9 2#9 = Instr.pwrLoomOn 79#9 2#9 ∧ 1 = 1 ∧ 0 = 0 ∨ Instr.pwrLoomOn 79#9 2#9 = Instr.pwrLoomGated 79#9 2#9 ∧ 1 = 1 ∧
      0 = 1 ∨ Instr.pwrLoomOn 79#9 2#9 = Instr.pwrLoomDark 79#9 2#9 ∧ 1 = 1 ∧ 0 = 2 ∨ Instr.pwrLoomOn 79#9 2#9 = Instr.pwrBankOn 79#9 2#9 ∧
      1 = 2 ∧ 0 = 0 ∨ Instr.pwrLoomOn 79#9 2#9 = Instr.pwrBankRetain 79#9 2#9 ∧ 1 = 2 ∧ 0 = 1 ∨ Instr.pwrLoomOn 79#9 2#9 = Instr.pwrBankDark
      79#9 2#9 ∧ 1 = 2 ∧ 0 = 2) ∧
    firstRefused base 1 0 (79#9).toNat (2#9).toNat = some (80, 1) ∧
    -- next clause
    (Instr.pwrDeviceMgmt 1#9 = Instr.pwrDeviceMgmt 1#9 ∧ 0 = 0 ∨ Instr.pwrDeviceMgmt 1#9 = Instr.pwrDeviceParked 1#9 ∧ 0 = 1 ∨
      Instr.pwrDeviceMgmt 1#9 = Instr.pwrDeviceReady 1#9 ∧ 0 = 2 ∨ Instr.pwrDeviceMgmt 1#9 = Instr.pwrDeviceShutdown 1#9 ∧ 0 = 3) ∧
    deviceCmdOk base 0 = false ∧
    -- next clause
    Reaches (dev base 1) Reg.PWR_PWR_CMD ∧
    (dev base 1).flag Reg.PWR_PWR_STAT_DONE = true ∧
    (dev base 1).releasing = false ∧
    (dev base 1).mgmt.heldReset = false ∧
    (dev base 1).fld Reg.GCTL_DEV_STATE_STATE = 1 ∧
    (dev base 1).boot.configEnded = true ∧
    -- next clause
    Reaches (dev base 3) Reg.PWR_PWR_CMD ∧
    (dev base 3).flag Reg.PWR_PWR_STAT_DONE = true ∧
    (dev base 3).releasing = false ∧
    (dev base 3).mgmt.heldReset = false ∧
    (dev base 3).fld Reg.GCTL_DEV_STATE_STATE = 3 ∧
    (dev base 3).jobActive = false ∧
    (dev base 3).nLooms ≤ 80 ∧
    -- next clause
    ((dev base 3).fld Reg.GCTL_DEV_STATE_STATE = 2 ∨ (dev base 3).fld Reg.GCTL_DEV_STATE_STATE = 3) ∧
    -- next clause
    Reaches { dev base 2 with pwr := { base.pwr with servicePark := true } } Reg.PWR_PWR_CMD ∧
    { dev base 2 with pwr := { base.pwr with servicePark := true } }.flag Reg.PWR_PWR_STAT_DONE = true ∧
    { dev base 2 with pwr := { base.pwr with servicePark := true } }.releasing = false ∧
    { dev base 2 with pwr := { base.pwr with servicePark := true } }.fld Reg.GCTL_DEV_STATE_STATE = 2 ∧
    { dev base 2 with pwr := { base.pwr with servicePark := true } }.pwr.servicePark = true ∧
    { dev base 2 with pwr := { base.pwr with servicePark := true } }.mgmt.heldReset = false ∧
    { dev base 2 with pwr := { base.pwr with servicePark := true } }.nLooms ≤ 80 ∧
    -- next clause
    (todoW base 1 1 [0, 1]).boot.on = true ∧
    (todoW base 1 1 [0, 1]).pwr.run = some { kind := 1, state := 1, todo := [0, 1] } ∧
    1 ≠ 0 ∧
    1 ≤ 2 ∧
    0 ∈ [0, 1] ∧
    (∀ (x : Cmd), x ∈ (todoW base 1 1 [0, 1]).cmds → x.loom ≠ 0) ∧
    (∀ (k : Nat), k < 16 → ((todoW base 1 1 [0, 1]).stream 0 k).stopReq = false) ∧
    -- next clause
    (todoW base 1 0 [0, 1]).boot.on = true ∧
    (todoW base 1 0 [0, 1]).pwr.run = some { kind := 1, state := 0, todo := [0, 1] } ∧
    (∀ (l : Nat), l ∈ [0, 1] → l < 80) ∧
    -- next clause
    (todoW base 2 0 [0, 1]).boot.on = true ∧
    (todoW base 2 0 [0, 1]).pwr.run = some { kind := 2, state := 0, todo := [0, 1] } ∧
    (∀ (b : Nat), b ∈ [0, 1] → b < 384) ∧
    -- next clause
    (todoW base 0 3 []).boot.on = true ∧
    (todoW base 0 3 []).pwr.run = some { kind := 0, state := 3, todo := [] } ∧
    (todoW base 0 3 []).mgmt.logBuf = [] ∧
    (todoW base 0 3 []).mgmt.logLost = 0 ∧
    -- next clause
    (todoW (dev base 1) 0 0 []).boot.on = true ∧
    (todoW (dev base 1) 0 0 []).pwr.run = some { kind := 0, state := 0, todo := [] } := by
  decide +kernel

end Power

/-! ### Heat -/

namespace Heat

def base : State := atPick (live.setFlds [(Reg.PWR_PWR_STAT_DONE, 1), (Reg.PWR_CAP_CAP_W, 2000)]) 16384

def hot (n : Nat) : State := base.setFld (Reg.PWR_TEMP_LEVEL n) 2

/-- A power command runs. -/
def running : State := { base.setFld Reg.PWR_PWR_STAT_DONE 0 with pwr := { base.pwr with run := some { kind := 1, state := 1, todo := [0] } } }

def tl (x : Int) : List Int := List.replicate 96 x

/-- A sensor that has tripped once, in a device that runs again; a device whose management cores hold their image; the same after
two lockstep mismatches. -/
def tripped : State := { base with boot := { base.boot with thermTrip := [0] } }

def identified : State :=
  { base with
    boot := { base.boot with identity := some ([], []), sramDigest := leValue (shake256 32 [1, 2]) }
    mgmt := { base.mgmt with sram := [1, 2] } }

def thrice : State := { identified with mgmt := { identified.mgmt with mismatches := [identified.pick, identified.pick] } }

theorem witness_CapsDroopAndHeat :
    base.boot.on = true ∧
    base.nLooms ≤ 80 ∧
    base.boot.configEnded = true ∧
    base.mgmt.heldReset = false ∧ base.boundaryDue base.pwr.capAt = true ∧ (hot 3).boundaryDue (hot 3).pwr.thermAt = true ∧
    -- next clause
    0 < base.nLooms ∧
    -- next clause
    0 ≤ 1023 ∧
    smGet (fun _ => 0) base.pwr.excessShed 0 ≠ shedOf base.pick + 1 ∧
    -- next clause
    768 ≤ 1023 ∧
    768 ≤ 768 ∧
    -- next clause
    (tl 0).length = 96 ∧
    (∀ x ∈ tl 0, -2 ^ 15 ≤ x ∧ x < 2 ^ 15) ∧
    (∀ p ∈ (tl 0).zipIdx, p.1 < 16 * (sensorLimits p.2).2.2) ∧
    -- next clause
    (tl (16 * 105)).length = 96 ∧
    (∀ x ∈ tl (16 * 105), -2 ^ 15 ≤ x ∧ x < 2 ^ 15) ∧
    (∃ p ∈ (tl (16 * 105)).zipIdx, 16 * (sensorLimits p.2).2.2 ≤ p.1) ∧
    (∃ x ∈ (tl (16 * 110))[70]?, 16 * (sensorLimits 70).2.2 ≤ x) ∧ (tl (16 * 110)).length = 96 ∧
    (∀ x ∈ tl (16 * 110), -2 ^ 15 ≤ x ∧ x < 2 ^ 15) ∧
    base.boot.thermTrip = [] ∧ base.flag Reg.PWR_PWR_STAT_DONE = true ∧ running.pwr.run.isSome = true ∧ running.mgmt.heldReset = false ∧
    -- next clause
    tripped.boot.on = true ∧ tripped.nLooms ≤ 80 ∧ 0 ∈ tripped.boot.thermTrip ∧ 2 ≤ tripped.fld Reg.GCTL_DEV_STATE_STATE ∧
    -- next clause
    ({ base with pwr := { base.pwr with capAt := some (shedOf base.pick) } } : State).boundaryDue (some (shedOf base.pick)) = false ∧
    ({ base with boot := { base.boot with configEnded := false } } : State).boot.configEnded = false ∧
    ({ base with mgmt := { base.mgmt with heldReset := true } } : State).mgmt.heldReset = true ∧
    smGet (fun _ => 0) ({ base with pwr := { base.pwr with excessShed := [(0, shedOf base.pick + 1)] } } : State).pwr.excessShed 0 =
      shedOf base.pick + 1 ∧
    800 < min (hot 3).clockLimit ((hot 3).thermalMhz 0) ∧
    -- next clause
    0 ≠ 70 ∧
    0 ≠ 71 ∧
    -- next clause
    base.service ≠ Service.silent ∧
    identified.service ≠ .silent ∧ identified.boot.identity.isSome = true ∧ identified.mgmt.sram = [1, 2] ∧
    (identified.mgmt.mismatches.filter fun p => decide (identified.pick < p + 468750000)).length < 2 ∧
    leValue (shake256 32 [1, 2]) = identified.boot.sramDigest ∧
    -- next clause
    ([(0, 9)] : List (Nat × Byte)).foldl (fun (bs : List Byte) p => bs.set p.1 p.2) identified.mgmt.sram = [9, 2] ∧
    leValue (shake256 32 [9, 2]) ≠ identified.boot.sramDigest ∧ flashSame identified false = false ∧
    -- next clause
    thrice.service ≠ .silent ∧ thrice.boot.identity.isSome = true ∧
    2 ≤ (thrice.mgmt.mismatches.filter fun p => decide (thrice.pick < p + 468750000)).length ∧
    -- next clause
    (hot 3).boot.on = true ∧
    (hot 3).nLooms ≤ 80 ∧
    (hot 3).mgmt.heldReset = false ∧
    sensorOf 3 0 = true ∧
    (hot 3).fld (Reg.PWR_TEMP_LEVEL 3) = 2 := by
  decide +kernel

end Heat

/-! ### Mgmt -/

namespace Mgmt

def le0 : LogEntry := { pick := 5, code := 3, sev := 0xFF, data := [1, 2, 3] }

/-- A state whose log holds one entry, its chain value zeros. -/
def lg (s : State) : State :=
  { s with mgmt := { s.mgmt with logSeq := some 1 }
           flash := ((logHeadBytes le0 0 ++ List.replicate 32 0).zipIdx.map fun (p : Byte × Nat) => (logAt 0 + p.2, p.1)).filter fun p => p.2 !=
             0xFF }

def atts (l : List Attest) (s : State) : State := { s with mgmt := { s.mgmt with attests := l, nextHandle := 9 } }

def a1 : Attest := { handle := 1, nonce := 77 }

def a2 : Attest := { handle := 2, nonce := 78, report := some [4] }

def sws (s : State) (u st : Nat) : State := s.setFlds [(Reg.RES_SWS_CTL_UNIT 3, u), (Reg.RES_SWS_CTL_STATE 3, st)]

def parked : State := live.setFlds [(Reg.GCTL_DEV_STATE_STATE, 1), (Reg.GCTL_DEV_STATE_JOB_ACTIVE, 0)]

def owned : State := { parked with fuses := { live.fuses with owner := .whole 5 } }

def captured : State := live.setFld Reg.RES_CAP_STAT_DONE 1

def stored : State := sws live 3 3

/-- A release runs. -/
def leaving : State := live.setFld Reg.GCTL_DEV_STATE_RELEASING 1

/-- A frame of the sideband port with a request, and one whose header has another VERSION. -/
def frame : SidebandFrame :=
  { udp := true, mac := 0x020000000001, ip := linkLocal 0x020000000001, fromPort := 9, toPort := 8013, version := 1, length := 3, packet := 3 }

def frame2 : SidebandFrame := { frame with version := 2 }

theorem witness_ManagementAnswersItsRequests :
    viaOf (.logHead (.sideband frame2)) = some (.sideband frame2) ∧ frame2.version ≠ 1 ∧
    -- next clause
    unpoweredReg parked (BitVec.ofNat 28 (Reg.LOOM_LOOM_ID 0)).toNat = true ∧
    -- next clause
    live.takes .i3c = true ∧ live.takes (.sideband frame) = true ∧
    -- next clause
    (lg live).takes .i3c = true ∧
    (lg live).service = Service.full ∧
    -- next clause
    5#7 ≠ 58 ∧
    -- next clause
    (0#8 = 0 ∨ 0#8 = 255) ∧
    -- next clause
    9#8 ≠ 0 ∧
    9#8 ≠ 255 ∧
    -- next clause
    0 ∈ [0, 2, 5, 63] ∧
    -- next clause
    ¬1#6 ∈ [0, 2, 5, 63] ∧
    -- next clause
    sensorValue (lg live) (0#16).toNat = none ∧
    -- next clause
    sensorValue (lg live) (1#16).toNat = some [0#8, 0#8, 0#8, 0#8] ∧
    -- next clause
    Reaches (lg live) (64#28).toNat ∧
    unpoweredReg (lg live) (64#28).toNat = false ∧
    -- next clause
    storeReg (64#28).toNat = false ∧
    -- next clause
    (rowOf (64#28).toNat).any (fun x => 0 < x.2.2.2.fields.length) = true ∧
    -- next clause
    Reaches live (0x30078#28).toNat ∧ unpoweredReg live (0x30078#28).toNat = false ∧
    (rowOf (0x30078#28).toNat).any (fun x => x.2.2.2.fields.any (·.acc == .rc)) = true ∧
    -- next clause
    (1#32).toNat - 1 = 0 ∧ pdrRepository[0]?.isSome = true ∧ pdrRepository[(109#32).toNat - 1]?.isSome = true ∧ 109 < (110#32).toNat ∧
    -- next clause
    Reaches (lg live) (15794272#28).toNat ∧
    unpoweredReg (lg live) (15794272#28).toNat = false ∧
    storeReg (15794272#28).toNat = true ∧
    -- next clause
    ((lg live).logHeld (0#64).toNat).isSome = true ∧
    -- next clause
    (lg live).logHeld (7#64).toNat = none ∧
    -- next clause
    (lg live).mgmt.logSeq = some 1 ∧
    -- next clause
    (lg live).readyOrRun = true ∧
    (List.filter (fun x => x.report.isNone) (lg live).mgmt.attests).length < 4 ∧
    -- next clause
    (lg live).fld (Reg.RES_SWS_CTL_STATE (0#8).toNat) ≠ 3 ∧
    -- next clause
    (lg live).ringOn = true ∧
    -- next clause
    (atts [a1] live).service = Service.full ∧
    List.find? (fun x => x.report.isNone) (atts [a1] live).mgmt.attests = some a1 ∧
    -- next clause
    List.find? (fun x => x.handle == 1) (atts [a1] live).mgmt.attests = some a1 ∧
    a1.report = none ∧
    -- next clause
    (atts [a2, a1] live).service = Service.full ∧
    List.find? (fun x => x.handle == 2) (atts [a2, a1] live).mgmt.attests = some a2 ∧
    a2.report = some [4] ∧ 0 < reportBytes ∧
    -- next clause
    (atts [a1, a1, a1, a1] live).service = Service.full ∧
    (atts [a1, a1, a1, a1] live).readyOrRun = true ∧
    4 ≤ (List.filter (fun x => x.report.isNone) (atts [a1, a1, a1, a1] live).mgmt.attests).length ∧
    -- next clause
    parked.service = Service.full ∧
    Reaches parked (64#28).toNat ∧
    unpoweredReg parked (64#28).toNat = false ∧
    (64#28).toNat = Reg.GCTL_JOB_SEED ∧
    parked.jobActive = false ∧
    -- next clause
    parked.fld Reg.GCTL_DEV_STATE_STATE = 1 ∧
    parked.fuses.ownerHash = 0 ∧
    -- next clause
    owned.service = .full ∧
    owned.fld Reg.GCTL_DEV_STATE_STATE = 1 ∧
    owned.fuses.ownerHash ≠ 0 ∧
    -- next clause
    captured.service = Service.full ∧
    captured.storeFree = some 0 ∧
    captured.readyOrRun = true ∧
    captured.flag Reg.RES_CAP_STAT_DONE = true ∧
    captured.releasing = false ∧
    -- next clause
    leaving.service = Service.full ∧
    leaving.takes .i3c = true ∧
    leaving.releasing = true ∧
    leaving.readyOrRun = true ∧
    -- next clause
    (lg live).releasing = false ∧
    stored.releasing = false ∧
    -- next clause
    stored.service = Service.full ∧
    stored.readyOrRun = true ∧
    stored.fld (Reg.RES_SWS_CTL_STATE (3#8).toNat) = 3 ∧
    stored.fld (Reg.RES_SWS_CTL_UNIT (3#8).toNat) ≠ 0 := by
  decide +kernel

end Mgmt

/-! ### Transfer -/

namespace Transfer

def xf (s : State) (k : XferKind) (len : Nat) (bs : List (Nat × List Byte)) (a : Nat := 900) : State :=
  { s with
    mgmt := { s.mgmt with
      nextHandle := 9,
      xfer := some {
        kind := k, len := len, handle := 8, at_ := a,
        bytes := bs.foldl (fun m p => p.2.zipIdx.foldl (fun (m : SMap Byte) (b, k) => smSet (fun _ => (0:Byte)) m (p.1 + k) b) m) [] } } }

def anch (s : State) : State := { s with wvn := { s.wvn with anchors := [5] } }

def iss : List Byte := shake256 32 (leBytes 64 5)

def cert1 : State := xf (anch live) .cert 30048 [(0, leBytes 4 1 ++ leBytes 4 1 ++ leBytes 16 1), (88, iss)]

def cert2 : State := xf (anch live) .cert 60096 [(0, leBytes 4 1 ++ leBytes 4 1 ++ leBytes 16 1), (88, shake256 32 (List.replicate 64 0)),
  (30048, leBytes 4 1 ++ leBytes 4 2), (30048+88, iss)]

def certB : State := xf live .cert 30048 []

def sk (s : State) : State := { s with boot := { s.boot with swatchKeys := [5] } }

def swx : State := xf (sk live) (.swatch 0x500000) (512 + 128 + 8 + 16 + 29792) [(0, leBytes 8 77 ++ leBytes 2 1 ++ [3, 0] ++ leBytes 4 1 ++
  leBytes 8 8 ++ leBytes 8 0 ++ leBytes 8 16)]

def auth (op arg : Nat) : State := xf { live with
  boot := { live.boot with configEnded := true, svn := 7, keyIdx := 2 }, fuses := {live.fuses with svnMin := 1} } .auth
  (64 + 29792) [(0, leBytes 16 1 ++ leBytes 8 op ++ leBytes 8 arg)]

def ups (s : State) (u : Update) : State := { s with mgmt := { s.mgmt with update := some u } }

def fwh : List Byte := leBytes 8 0x3157465944425346 ++ leBytes 4 29860 ++ leBytes 4 3 ++ leBytes 1 2 ++ List.replicate 60 9

def u0 : Update := { ep := .i3c }

def u1 : Update := { ep := .i3c, component := some 1 }

def u2 : Update := { ep := .i3c, component := some 1, head := fwh.take 64, got := 77, erased := true }

def u3 : Update := { u2 with got := 29860 }

def u4 : Update := { ep := .i3c, verified := true }

def u5 : Update := { ep := .i3c, component := some 2 }

def rec_ (s : State) : State := { s.setFld Reg.GCTL_DEV_STATE_PHASE 1 with
  flash := (fwh.zipIdx.map fun (b, k) => (k, b)), boot := { s.boot with recovery := true, running := false } }

def ph2 (s : State) : State := { s.setFld Reg.GCTL_DEV_STATE_PHASE 2 with boot := { s.boot with configEnded := false, running := false } }

def vfy (s : State) : State := { s.setFld Reg.GCTL_DEV_STATE_PHASE 2 with boot := { s.boot with configEnded := false, running := true } }

def dirty (s : State) : State := { s with flash := [(3, 0), (77, 0), (78, 1), (0x1C00005, 3), (0x17FFFFF, 3)] }

def sts : List State := [live, cert1, cert2, certB, swx, auth 1 5, auth 1 0, auth 2 1, auth 2 2, auth 3 1, xf (atPick live 78126000) .cert 5 [],
  ups live u0, ups live u1, dirty (ups live u1), ups live u2, dirty (ups live u2), ups live u3, ups live u4, ups live u5, rec_ (ups live u4),
  rec_ (ups live u0), ph2 (ups live u4), vfy live, vfy (ups live u4)]

def xfer1 : Xfer := {
  kind := XferKind.swatch 5242880#64, len := 30456, handle := 8, at_ := 900,
  bytes := [(0, 77#8), (8, 1#8), (10, 3#8), (12, 1#8), (16, 8#8), (32, 16#8)] }

/-- A key under which the staged swatch verifies, and a device that trusts it. -/
def body : List Byte := xfer1.slice 0 (xfer1.len - sigBytes)

def signature : List Byte := xfer1.slice (xfer1.len - sigBytes) sigBytes

def goodKey : BitVec 512 := Config.slhRoot 7 body signature ++ (7 : BitVec 256)

def trusted : State := { swx with boot := { swx.boot with swatchKeys := [goodKey] } }

def xfer2 : Xfer := { kind := XferKind.auth, len := 29856, handle := 8, at_ := 900, bytes := [(0, 1#8), (16, 1#8), (24, 5#8)] }

def xfer3 : Xfer := { kind := XferKind.auth, len := 29856, handle := 8, at_ := 900, bytes := [(0, 1#8), (16, 2#8), (24, 1#8)] }

def xfer4 : Xfer := { kind := XferKind.cert, len := 5, handle := 8, at_ := 900 }

def oldCert : State := xf (atPick live 78126000) .cert 5 []

theorem witness_TransfersAndUpdates :
    live.takes .i3c = true ∧ (rec_ (ups live u4)).takes .i3c = true ∧ (vfy live).takes .i3c = true ∧
    -- next clause
    (rec_ (ups live u4)).service = Service.recovery ∧
    (rec_ (ups live u4)).mgmt.update = some u4 ∧
    u4.ep = Endpoint.i3c ∧
    u4.verified = true ∧ u4.component = none ∧ 1 ∉ (rec_ (ups live u4)).mgmt.badRegion ∧
    (rec_ (ups live u4)).fld Reg.GCTL_DEV_STATE_PHASE = 1 ∧
    -- next clause
    (rec_ (ups live u0)).service = Service.recovery ∧
    (rec_ (ups live u0)).mgmt.update = some u0 ∧
    u0.ep = Endpoint.i3c ∧
    u0.verified = false ∧
    -- next clause
    live.service = Service.full ∧
    live.mgmt.xfer = none ∧
    0 ≤ 8388608 ∧
    -- next clause
    live.verifying = false ∧
    live.mgmt.update = none ∧
    -- next clause
    cert1.service = Service.full ∧
    cert1.mgmt.xfer.isSome = true ∧
    -- next clause
    (∃ x ∈ (List.filterMap (fun s => s.mgmt.xfer) sts)[0]?, cert1.mgmt.xfer = some x ∧ ([] : List Byte).length ≤ 1024 ∧ 0 + ([] : List
      Byte).length ≤ x.len) ∧
    -- next clause
    (∃ x ∈ (List.filterMap (fun s => s.mgmt.xfer) sts)[0]?, cert1.mgmt.xfer = some x ∧ x.kind = XferKind.cert ∧ (x.len = 30048 ∨ x.len =
      60096) ∧ chainGood cert1 x false = false) ∧
    -- next clause
    (∃ x ∈ (List.filterMap (fun s => s.mgmt.xfer) sts)[0]?, cert1.mgmt.xfer = some x ∧ x.kind = XferKind.cert ∧ (x.len = 30048 ∨ x.len =
      60096) ∧ chainGood cert1 x true = true) ∧
    -- next clause
    swx.service = Service.full ∧
    swx.mgmt.xfer = some xfer1 ∧
    xfer1.kind = XferKind.swatch 5242880#64 ∧
    swatchForm xfer1 = true ∧
    trusted.service = Service.full ∧
    trusted.takes .i3c = true ∧
    trusted.mgmt.xfer = some xfer1 ∧
    trusted.storeFree = some 0 ∧
    trusted.releasing = false ∧
    storeFits trusted (5242880#64).toNat xfer1.len (xfer1.val 0 8) = true ∧
    -- next clause
    (6 : BitVec 512) ∉ swx.boot.swatchKeys ∧
    -- next clause
    (auth 1 5).service = Service.full ∧
    (auth 1 5).mgmt.xfer = some xfer2 ∧
    xfer2.kind = XferKind.auth ∧
    xfer2.len = 64 + sigBytes ∧
    (auth 1 5).boot.configEnded = true ∧
    xfer2.val 0 16 = (auth 1 5).fuses.uid.value?.getD 0 ∧
    xfer2.val 32 32 = 0 ∧
    xfer2.val 16 8 = 1 ∧
    (auth 1 5).fuses.svnCount ≤ xfer2.val 24 8 ∧
    xfer2.val 24 8 ≤ (auth 1 5).boot.svn ∧
    xfer2.val 24 8 ≤ 64 ∧
    -- next clause
    (auth 2 1).service = Service.full ∧
    (auth 2 1).mgmt.xfer = some xfer3 ∧
    xfer3.kind = XferKind.auth ∧
    xfer3.len = 64 + sigBytes ∧
    (auth 2 1).boot.configEnded = true ∧
    xfer3.val 0 16 = (auth 2 1).fuses.uid.value?.getD 0 ∧
    xfer3.val 32 32 = 0 ∧
    xfer3.val 16 8 = 2 ∧
    xfer3.val 24 8 < 4 ∧
    xfer3.val 24 8 ≠ (auth 2 1).boot.keyIdx ∧
    (auth 2 1).fuses.revoked ||| 2 ^ xfer3.val 24 8 ≠ 15 ∧
    -- next clause
    oldCert.service = Service.full ∧
    oldCert.mgmt.xfer = some xfer4 ∧
    xfer4.at_ + 78125000 ≤ oldCert.pick ∧
    -- next clause
    (ups live u0).service = Service.full ∧
    (ups live u0).verifying = false ∧
    (ups live u0).mgmt.update.isSome = true ∧
    -- next clause
    (ups live u0).mgmt.update = some u0 ∧
    -- next clause
    (ups live u1).service = Service.full ∧
    (ups live u1).mgmt.update = some u1 ∧
    u1.ep = Endpoint.i3c ∧
    (1#16 = 1 ∨ 1#16 = 2) ∧
    u1.component = some (1#16).toNat ∧
    u1.failed = false ∧
    (0, 25165824) = regionOf (1#16).toNat ∧
    u1.erased = false ∧
    u1.got = 0 ∧
    u1.head = [] ∧
    headSize (1#16).toNat ≤ fwh.length ∧
    headOk (ups live u1).fuses (1#16).toNat (List.take (headSize (1#16).toNat) fwh) = true ∧
    fwh.length ≤ (0, 25165824).snd ∧
    -- next clause
    headSize (1#16).toNat ≤ (List.replicate 200 3).length ∧
    headOk (ups live u1).fuses (1#16).toNat (List.take (headSize (1#16).toNat) (List.replicate 200 3)) = false ∧
    -- next clause
    u1.component = some 1 ∧
    false = (u1.erased && !u1.failed && decide (leValue (List.take 4 (List.drop (if 1 = 1 then 8 else 12) u1.head)) ≤ u1.got)) ∧
    -- next clause
    (ups live u2).service = Service.full ∧
    (ups live u2).mgmt.update = some u2 ∧
    u2.ep = Endpoint.i3c ∧
    u2.component = some (1#16).toNat ∧
    u2.failed = false ∧
    u2.erased = true ∧
    u2.got + ([] : List Byte).length ≤ (0, 25165824).snd ∧
    -- next clause
    (ups live u4).service = Service.full ∧
    (ups live u4).mgmt.update = some u4 ∧
    ((ups live u4).fld Reg.GCTL_DEV_STATE_PHASE ≠ 2 ∨ (ups live u4).boot.configEnded = true) ∧
    -- next clause
    (ph2 (ups live u4)).service = Service.full ∧
    (ph2 (ups live u4)).mgmt.update = some u4 ∧
    (ph2 (ups live u4)).fld Reg.GCTL_DEV_STATE_PHASE = 2 ∧
    (ph2 (ups live u4)).boot.configEnded = false ∧
    2 ∉ (ph2 (ups live u4)).mgmt.badRegion ∧
    -- next clause
    u2.verified = false ∧
    -- next clause
    (vfy live).service = Service.full ∧
    (vfy live).verifying = true := by
  decide +kernel

theorem halves {n m : Nat} (a : BitVec n) (b : BitVec m) : (a ++ b).extractLsb' 0 m = b ∧ (a ++ b).extractLsb' m n = a := by
  constructor <;> (apply BitVec.eq_of_getLsbD_eq; intro i hi; simp [BitVec.getLsbD_append, hi])

/-- The staged swatch verifies under its key. -/
theorem witness_TransfersAndUpdates_key : goodKey ∈ trusted.boot.swatchKeys ∧ slhVerifies goodKey body signature = true := by
  have h : goodKey.extractLsb' 0 256 = 7 ∧ goodKey.extractLsb' 256 256 = Config.slhRoot 7 body signature := halves _ _
  refine ⟨List.mem_singleton_self _, ?_⟩
  unfold slhVerifies
  rw [h.1, h.2]
  exact beq_self_eq_true _

end Transfer

/-! ### Statements about every state or every word -/

/-- The front command of a queue, with another behind it. -/
theorem witness_StepRunsTheFrontCommand :
    step { live with pending := [.jobRelease, .jobStart] } = exec .jobRelease { live with pending := [.jobStart] } :=
  by simp only [step]

theorem witness_EveryCommandAnswersANextState : (match exec (.fill src0 1 7) work with | .next t => t.pending == work.pending | _ => false) = true := by
  decide +kernel

theorem witness_ResetStateCanonical : State.reset.canonical := by unfold State.canonical; decide +kernel

theorem witness_ResetStateValues : State.reset.pick = 0 ∧ State.reset.pending = [] := by decide +kernel

/-- The first and the last function code. -/
theorem witness_VintComputesOnWords : 0 < 10 ∧ 9 < 10 ∧ vintVal 0 0x7FFFFFFF 1 = 2 ^ 31 := by decide +kernel

/-- A command with a word, and its word. -/
theorem witness_SlotWordsRoundTrip :
    slotIllegal (.cadd { cd := 4, cs := 4, ct := 0, usect := false, imm := 1 }) = false ∧
    decodeSlot 4 0x0000000000020442 = some (.cadd { cd := 4, cs := 4, ct := 0, usect := false, imm := 1 }) := by decide +kernel

/-- A step from a state in canonical form that stores two bytes on its way. -/
theorem witness_EveryStepKeepsTheCanonicalForm :
    (live.storeBytes 0x1000 [1, 2]).canonical ∧ (match step (live.storeBytes 0x1000 [1, 2]) with | .next _ => true | _ => false) = true := by
  unfold State.canonical; decide +kernel

/-! ### Ill-formed commands, one for each check of WellFormed -/

def badSrc : Src := { src0 with loom := 80 }
def pkt0 : RocePkt := { qpn := 5, psn := 0, op := .writeOnly, va := 0, rkey := 0, len := 0, payload := [], icrcOk := true, ecn := false }
def cell0 : RxSlot := { hdr := emptyHdr, payload := [], lack := 0, recs := [], tag := 0, hash := none }

theorem test_wf_sources :
    (Instr.endloop src0).wf = true ∧ (Instr.endloop badSrc).wf = false ∧ (Instr.endloop { src0 with stream := 16 }).wf = false ∧
    (Instr.fill badSrc 1 0).wf = false ∧ (Instr.fence badSrc true).wf = false ∧ (Instr.throwTo badSrc 1 0 8).wf = false ∧
    (Instr.timeBudgetExpiry (.hold 80 0)).wf = false ∧ (Instr.timeBudgetExpiry (.hold 0 16)).wf = false ∧
    (Instr.memoryReadError (.fetch 80 0) 0 { line := false, correctable := true }).wf = false ∧ (Instr.creditLifeExpiry (.waiting 0 16)).wf = false := by decide

/-- Dimensions out of range or equal, reserved codes and reserved ACT values (R213). -/
theorem test_wf_slots :
    (Instr.mload src0 { w := 1, wkdim := 1, wndim := 1, kt := 0, nt := 0, cm1 := 3, bc := true }).wf = false ∧
    (Instr.mstream src0 { a := 1, d := 2, akdim := 0, amdim := 1, dndim := 0, dmdim := 1, m0 := 0, mrows := 0, accm := 5, epi := 0, sat := false }).wf
      = false ∧
    (Instr.mdrain src0 { d := 1, dndim := 6, dmdim := 1, m0 := 0, mode := 0, epi := 0, sat := false }).wf = false ∧
    (Instr.vint src0 { slotB := false, fn := 10, d := 1, a := 2, b := 3, x := 0 }).wf = false ∧
    (Instr.xpose src0 { dst := 1, src := 2, da := 6, db := 0, rb := false, sid := 0 }).wf = false ∧
    (Instr.cmp src0 { kd := 0, cs := 0, ct := 0, usect := false, imm := 0, rel := 7 }).wf = false ∧
    (Instr.cmp src0 { kd := 0, cs := 0, ct := 0, usect := true, imm := 1, rel := 0 }).wf = false ∧
    (Instr.cadd src0 { cd := 0, cs := 0, ct := 1, usect := false, imm := 0 }).wf = false ∧
    (Instr.loop src0 0 1 false).wf = false ∧ (Instr.loop src0 0 1 true).wf = true ∧
    (Instr.full src0 { prog := 0, p := 1, g := 2, s := 3, pass := 3 }).wf = false := by decide

theorem test_wf_numbers :
    (Instr.announceCellReceive 18 0 0 0).wf = false ∧ (Instr.unsyncResync 18 0).wf = false ∧ (Instr.portRestore 18).wf = false ∧
    (Instr.laneFail 0 9 0).wf = false ∧ (Instr.bundleIssue 80 0).wf = false ∧ (Instr.doorbell 0 16 0 0).wf = false ∧
    (Instr.imemLoadGo 80).wf = false ∧ (Instr.streamSlice 0 4).wf = false ∧ (Instr.watchPartialMerge 80 0).wf = false ∧
    (Instr.fullStart 4).wf = false ∧ (Instr.htInstallDone 4).wf = false ∧ (Instr.tallyClear 4).wf = false ∧ (Instr.stop 320).wf = false ∧
    (Instr.descCommit 320 0).wf = false ∧ (Instr.bankClose 384).wf = false ∧ (Instr.channelSpare 12 0).wf = false ∧
    (Instr.channelSpare 0 32).wf = false ∧ (Instr.hbmRetrain 0 0 256).wf = false ∧ (Instr.hostPortLinkUp 4 true).wf = false ∧
    (Instr.faultRecordWrite 6).wf = false ∧ (Instr.thermalBackstop 96).wf = false ∧ (Instr.loomQuiet 80).wf = false ∧
    (Instr.copyOnWrite 0 122880).wf = false ∧ (Instr.setdasa 0x3B 9).wf = false ∧ (Instr.counterCfgWrite 0 0 0).wf = false ∧
    (Instr.scrubPass 4 { line := false, correctable := true }).wf = false := by decide

theorem test_wf_lengths :
    (Instr.registerWrite true 0 0 0).wf = false ∧ (Instr.registerWrite true 0 9 0).wf = false ∧ (Instr.sensorRead [0]).wf = false ∧
    (Instr.logRead .i3c 0 5).wf = false ∧ (Instr.xferOpen .i3c .cert 0x800001).wf = false ∧ (Instr.xferData .i3c 1 0x800000 [0]).wf = false ∧
    (Instr.collectiveComplete 0 [] [0]).wf = false ∧ (Instr.rekey { port := 18, kem := [], secret := 0, shed := 0 }).wf = false ∧
    (Instr.frameDrop { port := 4, pause := none }).wf = false ∧
    (Instr.slotReceive 0 { cell0 with payload := [1] }).wf = false ∧ (Instr.slotReceive 18 cell0).wf = false ∧
    (Instr.roceWriteReceive 0 { pkt0 with op := .readRequest }).wf = false ∧ (Instr.roceReadRequest 0 pkt0).wf = false ∧
    (Instr.roceWriteReceive 4 pkt0).wf = false ∧ (Instr.trainPhase [12] { temps := [] }).wf = false ∧ (Instr.soakPhase none { droop := List.replicate 81 (0, 0) }).wf = false ∧
    (Instr.releasePhase (List.replicate 10 0)).wf = false ∧ (Instr.voteDecide (List.replicate 9 (0, 0, 0, true)) none).wf = false ∧
    (Instr.counterSnapshot [{ slot := 256, code := 0, ctx := 0, n := 1 }]).wf = false := by decide

/-! ### Words written out from R214 -/

/-- The worked bundle of spec/08: its header and its two slot words. -/
theorem test_worked_bundle :
    headerOk 0x2A000100001A3F11 = true ∧ hMask 0x2A000100001A3F11 = 0x11 ∧ hTag 0x2A000100001A3F11 = 0x1A3F ∧ hWait 0x2A000100001A3F11 = 1 ∧
    bundleLen 0x2A000100001A3F11 = 3 ∧
    decodeSlot 0 0x19322082B1012042 = some (.mstream { a := 0x1204, d := 0x2B10, akdim := 0, amdim := 1, dndim := 0, dmdim := 1, m0 := 2
                                                       mrows := 3, accm := 1, epi := 3, sat := false }) ∧
    decodeSlot 4 0x0000000000020442 = some (.cadd { cd := 4, cs := 4, ct := 0, usect := false, imm := 1 }) := by decide +kernel

/-- One word for each other slot, and a word with a reserved bit set. -/
theorem test_slot_words :
    decodeSlot 3 0x000DEADBEEF01022 = some (.fill 0x0102 0xDEADBEEF) ∧ decodeSlot 4 0x0000000000000931 = some (.cset 3 9) ∧
    decodeSlot 5 0x0000000000E63052 = some (.signal 5 12 3 7) ∧ decodeSlot 6 0x0000001002000101 = some (.statcfg 0x10 0x20 true) ∧
    decodeSlot 7 0x1003200310030021 = some (.full { prog := 2, p := 0x30, g := 0x31, s := 0x32, pass := 1 }) ∧
    decodeSlot 4 0x0000010000000931 = none ∧ headerOk 0x2B000100001A3F11 = false := by decide +kernel

theorem test_table_spells_no_word : decodeTableWord 64 5 = none ∧ live.withFetchWord 64 5 = live := ⟨rfl, rfl⟩

/-! ### Worked examples of the spec -/

/-- The worked fault record of spec/19. -/
theorem test_worked_fault_record :
    recordBytes { pick := 0xC00000B0, code := 0x0402, sev := .context, loom := some 5, handle := some 0x1C30, dw0 := 2,
                  cmd := some { loom := 5, stream := 1, slot := 3, tag := 0x2C40, iters := [] } } 5000 12 =
      [0xB0, 0, 0, 0xC0, 0, 0, 0, 0, 0x02, 0x04, 0x01, 0x3B, 0x05, 0x05, 0x30, 0x1C, 0x40, 0x2C, 0, 0, 0x88, 0x13, 0, 0, 2] ++
        List.replicate 39 0 := by decide +kernel

/-- The worked exchange of spec/02: OFFSET 1,536 and PATH_DELAY 43,520. -/
theorem test_worked_delay_exchange :
    let t := after (Time.regain.setPort 3 { Time.regain.port 3 with reqAt := some 0, ansAt := some 8 }) [.delayExchange 0 45056 (8 * 65536 + 32768) (9 * 65536 + 9216) true]
    t.fld Reg.TIME_OFFSET_OFFSET = 1536 ∧ t.fld Reg.TIME_PATH_DELAY_DELAY = 43520 := by decide +kernel

/-- The worked frame of spec/03: the header word of frame 2 of handle 0x3A47. -/
theorem test_worked_mordant_header : frameHeader 0x3A47 2 = 0x7D00003C := by decide +kernel

/-! ### Single steps -/

/-- A job starts in READY: the device is in RUN with a job (R38). -/
theorem test_step_job_start :
    (match step { ready with pending := [.jobStart] } with
      | .next t => (t.fld Reg.GCTL_DEV_STATE_STATE, t.jobActive, t.pending)
      | _ => (0, false, [.jobStart])) = (4, true, []) := by decide +kernel

/-- On an empty queue one pick passes. -/
theorem test_step_idle : (match step live with | .next t => t.pick | _ => 0) = 1001 := by decide +kernel

/-- CADD wraps modulo 2^32 (R221). -/
theorem test_cadd_wraps :
    ((after (withStream live { st0 with ctrs := [(4, 0xFFFFFFFF)] })
      [.cadd src0 { cd := 4, cs := 4, ct := 0, usect := false, imm := 2 }]).stream 0 0).ctr 4 = 1 := by decide +kernel

/-- A write of the read-only count of lost records is discarded, and raises a record (R14, R31). -/
theorem test_write_unaligned : ((after live [.registerWrite true 0x3C 8 5]).queue 4).length = 1 := by decide +kernel

end Sys2Proof.Tests
end

section
/-! SUPPORT. Rules of fault records: what a record that is raised changes, and where it stands after. -/
namespace Sys2Proof.Machine

/-! What is as before: the relation holds of a state and itself, and composes. -/

theorem SameWork.refl (s : State) : SameWork s s := ⟨fun _ => rfl, rfl, rfl, rfl, rfl, rfl⟩

theorem SameWork.trans {s t u : State} (h : SameWork s t) (k : SameWork t u) : SameWork s u := by
  obtain ⟨hmem, himem, hstreams, hcmds, hdescs, hlooms⟩ := h
  obtain ⟨kmem, kimem, kstreams, kcmds, kdescs, klooms⟩ := k
  exact ⟨fun a => (kmem a).trans (hmem a), kimem.trans himem, kstreams.trans hstreams, kcmds.trans hcmds, kdescs.trans hdescs,
    klooms.trans hlooms⟩

theorem setFld_work (s : State) (f : Fld) (v : Nat) : SameWork s (s.setFld f v) := ⟨fun _ => rfl, rfl, rfl, rfl, rfl, rfl⟩

/-- What raising an ADVISORY record leaves as it was: the work of a job, the waiting commands, and every register but the count of
lost records (R413, R506, R509). -/
structure RecordFrame (s t : State) : Prop where
  pending : t.pending = s.pending
  work : SameWork s t
  regs : SameRegsBut [Reg.FAULT_FR_STAT] s t

theorem RecordFrame.refl (s : State) : RecordFrame s s := ⟨rfl, .refl s, fun _ _ => rfl⟩

/-- The outbox, the event log and the records are no part of the frame. -/
theorem RecordFrame.told (s : State) (o : List OutMsg) (m : MgmtSt) (f : FaultSt) :
    RecordFrame s { s with outbox := o, mgmt := m, faults := f } :=
  ⟨rfl, ⟨fun _ => rfl, rfl, rfl, rfl, rfl, rfl⟩, fun _ _ => rfl⟩

theorem RecordFrame.trans {s t u : State} (h : RecordFrame s t) (k : RecordFrame t u) : RecordFrame s u :=
  ⟨k.pending.trans h.pending, h.work.trans k.work, fun o ho => (k.regs o ho).trans (h.regs o ho)⟩

variable (s : State)

/-! Messages sent change the outbox alone. -/

theorem foldl_out_eq {α : Type} (f : State → α → OutMsg) (l : List α) :
    ∃ o, l.foldl (fun s a => s.out (f s a)) s = { s with outbox := o } := by
  induction l generalizing s with
  | nil => exact ⟨s.outbox, rfl⟩
  | cons a l ih =>
    obtain ⟨o, ho⟩ := ih (s.out (f s a))
    exact ⟨o, ho⟩

theorem transmitMsg_eq (ep : Endpoint) (kind : Nat) (data : List Byte) (m : OutMsg) :
    ∃ o, s.transmitMsg ep kind data m = { s with outbox := o } := by
  cases ep with
  | i3c =>
    obtain ⟨o, ho⟩ := foldl_out_eq (s.out m) (fun _ u => .i3cPacket (Config.mctpPacket kind u)) (msgUnits 64 data)
    refine ⟨o ++ [.inBand], ?_⟩
    change State.out _ .inBand = _
    rw [ho]
    rfl
  | sideband =>
    exact foldl_out_eq (s.out m)
      (fun s u => .datagram s.sidebandMac s.sidebandIp 8013 (sidebandPayload (Config.mctpPacket kind u))) (msgUnits 1024 data)

theorem platformEvent_eq (cls : Nat) (data : List Byte) : ∃ o, s.platformEvent cls data = { s with outbox := o } := by
  unfold State.platformEvent
  split
  · exact ⟨s.outbox, rfl⟩
  · split
    · exact transmitMsg_eq ..
    · exact ⟨s.outbox, rfl⟩

theorem setDevState_sets (v : Nat) (h : s.fld Reg.GCTL_DEV_STATE_STATE ≠ v) :
    (s.setDevState v).pending = s.pending ∧ OnlyFields [(Reg.GCTL_DEV_STATE_STATE, v)] s (s.setDevState v) := by
  obtain ⟨o, ho⟩ := platformEvent_eq (s.setFld Reg.GCTL_DEV_STATE_STATE v) 0 (leBytes 2 131 ++ leBytes 1 v)
  unfold State.setDevState State.stateEvent
  rw [if_neg h, ho]
  exact ⟨rfl, fun _ => rfl, fun _ => rfl, rfl, rfl, rfl, rfl, rfl⟩

/-! An ADVISORY record raised: its frame, and its place in its queue. -/

theorem platformEvent_frame (cls : Nat) (data : List Byte) : RecordFrame s (s.platformEvent cls data) := by
  obtain ⟨o, ho⟩ := platformEvent_eq s cls data
  rw [ho]
  exact .told s _ _ _

theorem logEvent_frame (code sev : Nat) (data : List Byte) : RecordFrame s (s.logEvent code sev data) := by
  unfold State.logEvent
  split
  · exact .refl s
  · dsimp only
    split <;> exact .told s _ _ _

theorem addSat_lost_frame (n : Nat) : RecordFrame s (s.addSat Reg.FAULT_FR_STAT_LOST n) :=
  ⟨rfl, .refl s, fun _ ho => reg_setFld_ne s _ (List.ne_of_not_mem_cons ho)⟩

theorem holdRecord_frame (r : FaultRec) : RecordFrame s (s.holdRecord r) := by
  have logged : RecordFrame s
      (if !s.boot.trainDone || decide (2 ≤ r.sev.code) then s.logEvent 0x0002 r.sev.code (recordBytes r 0 0) else s) := by
    split
    · exact logEvent_frame ..
    · exact .refl s
  refine (logged.trans (platformEvent_frame _ 0xF0 (recordBytes r 0 0))).trans ?_
  unfold State.holdRecord
  dsimp only
  generalize State.platformEvent _ 0xF0 (recordBytes r 0 0) = u
  split
  · exact (RecordFrame.told u _ _ _).trans ((addSat_lost_frame _ 1).trans (logEvent_frame ..))
  · exact .told u _ _ _

theorem raiseQ_frame (q : Nat) (r : FaultRec) (h : r.sev = .advisory) : RecordFrame s (s.raiseQ q r) := by
  unfold State.raiseQ
  simp only [h, if_true]
  split
  · split
    · exact addSat_lost_frame s 1
    · exact .told s _ _ _
  · exact holdRecord_frame s r

/-- With the ring on, a record goes to the end of its queue while that has room. -/
theorem raiseQ_queue (q : Nat) (r : FaultRec) (h : r.sev = .advisory) (hon : s.ringOn = true) (hroom : (s.queue q).length < 512) :
    (s.raiseQ q r).queue q = s.queue q ++ [r] := by
  unfold State.raiseQ
  simp only [h, if_true, hon, Nat.not_le.2 hroom, decide_false, Bool.and_false, Bool.false_eq_true, if_false]
  exact smGet_smSet_same ..

theorem advise_frame (code dw0 dw1 dw2 : Nat) (loom q : Option Nat) : RecordFrame s (s.advise code dw0 dw1 dw2 loom q) :=
  raiseQ_frame s _ _ rfl

theorem advise_queue (code dw0 dw1 dw2 : Nat) (loom q : Option Nat) (hon : s.ringOn = true)
    (hroom : (s.queue (s.queueOf loom q)).length < 512) :
    (s.advise code dw0 dw1 dw2 loom q).queue (s.queueOf loom q) = s.queue (s.queueOf loom q) ++
      [{ pick := s.pick, code := code, sev := .advisory, loom := loom, dw0 := dw0, dw1 := dw1, dw2 := dw2 }] :=
  raiseQ_queue s _ _ rfl hon hroom

theorem ignored_frame (loom : Option Nat) : RecordFrame s (s.ignored loom) := advise_frame ..

theorem denied_frame (addr : Nat) : RecordFrame s (s.denied addr) := advise_frame ..

end Sys2Proof.Machine
end

section
/-! SUPPORT. Rules of register accesses: how a command answers, what fields set one after another read, which writes pass the gate (R14,
R23, R31, R510), and where the registers of a CTX slot lie. -/
namespace Sys2Proof.Machine

variable {s t : State}

theorem act_on (hon : s.boot.on = true) (hp : t.pending = s.pending) : act s t = .next t := by
  unfold act outcome
  rw [if_pos hon, ← hp]

/-! Fields set one after another. -/

@[simp] theorem setFlds_cons (p : Fld × Nat) (l : List (Fld × Nat)) : s.setFlds (p :: l) = (s.setFld p.1 p.2).setFlds l := rfl

theorem reg_setFlds_congr (h : t.regs = s.regs) (l : List (Fld × Nat)) (o : Nat) :
    (t.setFlds l).reg o = (s.setFlds l).reg o := by
  induction l generalizing s t with
  | nil => exact congrArg (smGet regReset · o) h
  | cons p l ih =>
    refine ih ?_
    simp only [State.setFld, State.setReg, State.reg, h]

theorem OnlyFields.fld {l : List (Fld × Nat)} (h : OnlyFields l s t) (f : Fld) : t.fld f = (s.setFlds l).fld f := by
  unfold State.fld
  rw [h.1]

theorem OnlyFields.flag {l : List (Fld × Nat)} (h : OnlyFields l s t) (f : Fld) : t.flag f = (s.setFlds l).flag f := by
  unfold State.flag
  rw [h.fld]

/-! The gate, case by case. -/

theorem gate_passes {off : Nat} (h : Reaches s off) (priv : Bool) (v : Nat) (op : State → State) : gate s priv off 8 v op = op s := by
  obtain ⟨-, haligned, hrow, hunlocked, hremap⟩ := h
  have hserved : (loomOfReg off).any s.remapPending = false := by
    cases loomOfReg off <;> simp [State.remapPending, hremap]
  simp [gate, haligned, hrow, hunlocked, hserved]

/-- During a release a write of a locked register raises a record in its place: of a doorbell STATE_ILLEGAL, of any other one
HOST_ACCESS_DENIED (R510). -/
theorem gate_locked {off : Nat} (haligned : off % 8 = 0) (hrow : holeReg s off = false) (hrel : s.releasing = true)
    (hlock : releaseLocks off = true) (priv : Bool) (v : Nat) (op : State → State) :
    gate s priv off 8 v op = if isDoorbell off then s.ignored (loomOfReg off) else s.denied (ctlBase + off) := by
  simp [gate, haligned, hrow, hrel, hlock]

/-! The CTX block (R32, R33). -/

theorem blockAt_ctx {slot l : Nat} (hs : slot < 512) (hl : l < 0x1000) :
    blockAt (0x100000 + 0x1000 * slot + l) = some (.ctx, slot, l) := by
  have hidx : (0x100000 + 0x1000 * slot + l - 0x100000) / 0x1000 = slot := by omega
  have hloc : (0x100000 + 0x1000 * slot + l - 0x100000) % 0x1000 = l := by omega
  unfold blockAt
  simp only [hidx, hloc]
  repeat rw [if_neg (by omega)]
  rw [if_pos (by omega)]

theorem loomOfReg_ctx {off slot l : Nat} (h : blockAt off = some (.ctx, slot, l)) : loomOfReg off = some (slot / 4) := by
  simp [loomOfReg, h]

theorem holeReg_ctx {off slot l : Nat} (h : blockAt off = some (.ctx, slot, l)) (hrow : (Blk.ctx.rowAt l).isSome = true)
    (hs : slot < 4 * s.nLooms) : holeReg s off = false := by
  simp [holeReg, h, Option.isNone_eq_false_iff, hrow, hs]

theorem releaseLocks_ctx {off slot l : Nat} (h : blockAt off = some (.ctx, slot, l)) : releaseLocks off = true := by
  simp [releaseLocks, h]

theorem isDoorbell_ctx {off slot l : Nat} (h : blockAt off = some (.ctx, slot, l)) :
    isDoorbell off = (decide (0x410 ≤ l) && (l - 0x410) % 0x300 == 0) := by
  simp [isDoorbell, h]

theorem blockAt_doorbell {slot e : Nat} (hs : slot < 512) (he : e < 4) :
    blockAt (Reg.CTX_DOORBELL slot e) = some (.ctx, slot, 0x410 + 0x300 * e) := by
  rw [← blockAt_ctx hs (show 0x410 + 0x300 * e < 0x1000 by omega)]
  congr 1
  unfold Reg.CTX_DOORBELL
  omega

theorem blockAt_descCommit {slot : Nat} (hs : slot < 512) : blockAt (Reg.CTX_DESC_COMMIT slot) = some (.ctx, slot, 0x40) := by
  rw [← blockAt_ctx hs (show 0x40 < 0x1000 by omega)]
  congr 1
  unfold Reg.CTX_DESC_COMMIT
  omega

theorem rowAt_doorbell : ∀ e < 4, (Blk.ctx.rowAt (0x410 + 0x300 * e)).isSome = true := by decide

theorem rowAt_descCommit : (Blk.ctx.rowAt 0x40).isSome = true := by decide

/-- The logical loom of a refused access to a CTX slot that the grade has. -/
theorem loomAt_ctx {off slot l : Nat} (h : blockAt off = some (.ctx, slot, l)) (hs : slot < 4 * s.nLooms) :
    s.loomAt (ctlBase + off) = some (slot / 4) := by
  have hloom : slot / 4 < s.nLooms := by omega
  simp [State.loomAt, loomOfReg_ctx h, Option.filter_some, hloom]

end Sys2Proof.Machine
end

section
/-! SUPPORT. Jobs: JOB_START and the registers that a job or a release locks. -/
namespace Sys2Proof.Machine

variable {s : State}

/-- An ignored command leaves the work and the registers, and with room in its queue one ADVISORY STATE_ILLEGAL more (R507). -/
theorem answers_ignored {i : Instr} {loom : Option Nat} {q : Nat} (h : exec i s = .next (s.ignored loom)) (hq : s.queueOf loom none = q) :
    Answers i s fun t => SameRegsBut [Reg.FAULT_FR_STAT] s t ∧ SameWork s t ∧
      (s.ringOn = true → (s.queue q).length < 512 →
        ∃ r, t.queue q = s.queue q ++ [r] ∧ r.code = 0x0103 ∧ r.sev = .advisory ∧ r.pick = s.pick) := by
  subst hq
  exact ⟨_, h, (ignored_frame s loom).regs, (ignored_frame s loom).work, fun hon hroom =>
    ⟨_, advise_queue s _ _ _ _ loom none hon hroom, rfl, rfl, rfl⟩⟩

/-! JOB_START (R35). -/

/-- What JOB_START needs. -/
@[reducible] def MayStart (s : State) : Prop :=
  s.fld Reg.GCTL_DEV_STATE_STATE = 3 ∧ s.jobActive = false ∧ s.releasing = false ∧ s.ringOn = true

theorem jobStarts_refused (h : ¬ MayStart s) : jobStarts s = s.ignored := by
  unfold jobStarts
  rw [if_neg (by simpa [MayStart] using h)]

/-- JOB_ACTIVE and STATE as a job's start sets them. -/
theorem startFields_set (h : s.fld Reg.GCTL_DEV_STATE_STATE = 3) :
    ((s.setFld Reg.GCTL_DEV_STATE_JOB_ACTIVE 1).setDevState 4).pending = s.pending ∧
    OnlyFields [(Reg.GCTL_DEV_STATE_JOB_ACTIVE, 1), (Reg.GCTL_DEV_STATE_STATE, 4)] s
      ((s.setFld Reg.GCTL_DEV_STATE_JOB_ACTIVE 1).setDevState 4) := by
  have hready : (s.setFld Reg.GCTL_DEV_STATE_JOB_ACTIVE 1).fld Reg.GCTL_DEV_STATE_STATE ≠ 4 := by
    rw [fld_setFld_other _ _ _ _ (by decide), h]
    decide
  obtain ⟨hp, hregs, hwork⟩ := setDevState_sets _ 4 hready
  exact ⟨hp.trans (setFld_pending ..), fun o => by rw [setFlds_cons]; exact hregs o, (setFld_work ..).trans hwork⟩

theorem jobStarts_accepted (h : MayStart s) : (jobStarts s).pending = s.pending ∧
    OnlyFields [(Reg.GCTL_DEV_STATE_JOB_ACTIVE, 1), (Reg.GCTL_DEV_STATE_STATE, 4)] s (jobStarts s) := by
  unfold jobStarts
  rw [if_pos (by simpa [MayStart] using h)]
  obtain ⟨hp, hregs, hwork⟩ := startFields_set (s := { s with res := { s.res with invalidSeen := false } }) h.1
  exact ⟨hp, fun o => (hregs o).trans (reg_setFlds_congr rfl _ o), hwork⟩

theorem exec_jobStart (h : Reaches s Reg.GCTL_JOB_CTL) (hp : (jobStarts s).pending = s.pending) :
    exec .jobStart s = .next (jobStarts s) := by
  change act s (gate s false Reg.GCTL_JOB_CTL 8 1 fun s => jobStarts s) = _
  rw [gate_passes h, act_on h.1 hp]

/-- Settles O9: an accepted start sets the two fields, and any other one is ignored, as a JOB_CTL write of both bits is. -/
theorem jobStartMovesReadyToRun : Obligations.JobStartMovesReadyToRun := by
  intro s hreach
  refine ⟨fun h => ?_, fun h => ?_, ?_⟩
  · obtain ⟨hp, honly⟩ := jobStarts_accepted h
    refine ⟨_, exec_jobStart hreach hp, ?_, ?_, honly⟩
    · rw [honly.fld]
      exact fld_setFld_same _ Reg.GCTL_DEV_STATE_STATE 4 (by decide)
    · unfold State.jobActive
      rw [honly.flag]
      exact (flag_setFld_other _ _ Reg.GCTL_DEV_STATE_JOB_ACTIVE 4 (by decide)).trans
        (flag_setFld_same _ Reg.GCTL_DEV_STATE_JOB_ACTIVE 1 (by decide))
  · have hstart := jobStarts_refused h
    refine answers_ignored (loom := none) ?_ rfl
    rw [← hstart]
    exact exec_jobStart hreach (by rw [hstart]; exact (ignored_frame s none).pending)
  · change act s (gate s false Reg.GCTL_JOB_CTL 8 3 fun s => s.ignored) = _
    rw [gate_passes hreach]
    exact act_on hreach.1 (ignored_frame s none).pending

/-! The registers that a release or a job locks (R38, R510). -/

theorem exec_doorbell_releasing {loom stream : Nat} (tail : W32) (added : BitVec 16) (hon : s.boot.on = true) (hrel : s.releasing = true)
    (hl : loom < s.nLooms) (hl80 : loom < 80) (hs : stream < 16) :
    exec (.doorbell loom stream tail added) s = .next (s.ignored (some loom)) := by
  have hslot : ctxSlot loom stream < 4 * s.nLooms ∧ ctxSlot loom stream < 320 ∧ ctxSlot loom stream / 4 = loom := by
    unfold ctxSlot; omega
  obtain ⟨hgrade, hmax, hloom⟩ := hslot
  have he : stream / 4 < 4 := by omega
  have hblk := blockAt_doorbell (show ctxSlot loom stream < 512 by omega) he
  have hbell : isDoorbell (Reg.CTX_DOORBELL (ctxSlot loom stream) (stream / 4)) = true := by
    rw [isDoorbell_ctx hblk]; simp
  change act s (gate s false (Reg.CTX_DOORBELL (ctxSlot loom stream) (stream / 4)) 8 _ _) = _
  rw [gate_locked (by unfold Reg.CTX_DOORBELL; omega) (holeReg_ctx hblk (rowAt_doorbell _ he) hgrade) hrel (releaseLocks_ctx hblk),
    if_pos hbell, loomOfReg_ctx hblk, hloom]
  exact act_on hon (ignored_frame s _).pending

theorem exec_descCommit_releasing {slot : Nat} (index : BitVec 12) (hon : s.boot.on = true) (hrel : s.releasing = true)
    (hs : slot < 4 * s.nLooms) (hmax : slot < 320) :
    exec (.descCommit slot index) s = .next (s.denied (ctlBase + Reg.CTX_DESC_COMMIT slot)) := by
  have hblk := blockAt_descCommit (show slot < 512 by omega)
  have hbell : isDoorbell (Reg.CTX_DESC_COMMIT slot) = false := isDoorbell_ctx hblk
  change act s (gate s false (Reg.CTX_DESC_COMMIT slot) 8 _ _) = _
  rw [gate_locked (by unfold Reg.CTX_DESC_COMMIT; omega) (holeReg_ctx hblk rowAt_descCommit hs) hrel (releaseLocks_ctx hblk), hbell]
  exact act_on hon (denied_frame s _).pending

/-- JOB_SEED and JOB_ID. -/
@[reducible] def JobReg (off : Nat) : Prop := off = Reg.GCTL_JOB_SEED ∨ off = Reg.GCTL_JOB_ID

theorem holeReg_jobReg {off : Nat} (h : JobReg off) : holeReg s off = false := by
  obtain rfl | rfl := h <;> rfl

theorem writeReg_jobReg {off : Nat} (h : JobReg off) (priv : Bool) (v : Nat) : writeReg s priv off v = writeUnlessJob s off v := by
  obtain rfl | rfl := h <;> rfl

theorem writeWindow_jobReg {off : Nat} (h : JobReg off) (hon : s.boot.on = true) (hremap : s.res.remap = none) (priv : Bool) (v : W64) :
    writeWindow s priv off 8 v.toNat = if s.releasing || s.jobActive then s.denied (ctlBase + off) else s.setReg off v := by
  have haligned : off % 8 = 0 := by obtain rfl | rfl := h <;> rfl
  unfold writeWindow
  cases hrel : s.releasing with
  | true =>
    have hlock : releaseLocks off = true := by obtain rfl | rfl := h <;> rfl
    have hbell : isDoorbell off = false := by obtain rfl | rfl := h <;> rfl
    rw [gate_locked haligned (holeReg_jobReg h) hrel hlock, hbell]
    rfl
  | false =>
    have hreach : Reaches s off := ⟨hon, haligned, holeReg_jobReg h, by rw [hrel, Bool.false_and], hremap⟩
    rw [gate_passes hreach, writeReg_jobReg h, writeUnlessJob, BitVec.ofNat_toNat, BitVec.setWidth_eq, Bool.false_or]

theorem exec_registerWrite_jobReg {off : BitVec 28} (h : JobReg off.toNat) (hon : s.boot.on = true) (hremap : s.res.remap = none)
    (priv : Bool) (v : W64) : exec (.registerWrite priv off 8 v) s =
      .next (if s.releasing || s.jobActive then s.denied (ctlBase + off.toNat) else s.setReg off.toNat v) := by
  change act s (writeWindow s priv off.toNat 8 v.toNat) = _
  rw [writeWindow_jobReg h hon hremap]
  refine act_on hon ?_
  split
  · exact (denied_frame s _).pending
  · rfl

/-- Settles O11: during a release the gate refuses all four writes, and without one JOB_ACTIVE locks JOB_SEED and JOB_ID. -/
theorem lockedJobRegisters : Obligations.LockedJobRegisters := by
  intro s v hon
  refine ⟨fun hrel loom stream tail added hl hl80 hs => ?_, fun hrel slot index hs hmax => ?_, fun hlock hremap priv => ?_,
    fun hrel hjob hremap priv => ?_⟩
  · exact answers_ignored (exec_doorbell_releasing tail added hon hrel hl hl80 hs) rfl
  · have hloom := loomAt_ctx (s := s) (blockAt_descCommit (show slot < 512 by omega)) hs
    have hqueue : s.queueOf (s.loomAt (ctlBase + Reg.CTX_DESC_COMMIT slot)) none = s.dieOf (slot / 4) := by rw [hloom]; rfl
    have hframe := denied_frame s (ctlBase + Reg.CTX_DESC_COMMIT slot)
    refine ⟨_, exec_descCommit_releasing index hon hrel hs hmax, hframe.regs, hframe.work, fun hring hroom => ?_⟩
    rw [← hqueue] at hroom ⊢
    exact ⟨_, advise_queue s _ _ _ _ _ none hring hroom, rfl, rfl, rfl, rfl, rfl⟩
  · have hlocked : (s.releasing || s.jobActive) = true := by simpa using hlock
    have hseed := exec_registerWrite_jobReg (off := 0x40) (.inl rfl) hon hremap priv v
    have hid := exec_registerWrite_jobReg (off := 0x48) (.inr rfl) hon hremap priv v
    rw [if_pos hlocked] at hseed hid
    exact ⟨hseed, hid⟩
  · have hseed := exec_registerWrite_jobReg (off := 0x40) (.inl rfl) hon hremap priv v
    have hid := exec_registerWrite_jobReg (off := 0x48) (.inr rfl) hon hremap priv v
    rw [hrel, hjob] at hseed hid
    exact ⟨hseed, hid⟩

end Sys2Proof.Machine
end


section
/-! SUPPORT. Scalar commands (R221) in a bundle that starts an armed capture range (R392, R393). -/
namespace Sys2Proof.Machine

/-- A device in RUN with a job, whose stream 0 of loom 0 is enabled and on its context, with a capture range armed from that stream's first
bundle of TAG 0 on, with room for an image of 64 KiB. -/
def captureArmed : State :=
  { (State.reset.setFlds [(Reg.GCTL_GRADE_ACTIVE_LOOMS, 80), (Reg.GCTL_DEV_STATE_STATE, 4), (Reg.GCTL_DEV_STATE_JOB_ACTIVE, 1),
      (Reg.RES_CAP_LEN_LEN, 0x10000), (Reg.RES_CAP_STAT_ARMED, 1)]).setStream 0 0 { enabled := true, log2 := 12 } with
    resident := [(0, some (0, 0))] }

/-- The source of a command in the bundle that starts the range. -/
def captureSrc : Src := { loom := 0, stream := 0, tag := 0 }

theorem takes_captureArmed : Takes captureSrc (.cset 0 1) captureArmed := by decide +kernel

/-- The bundle starts the range: ACTIVE joins ARMED in CAP_STAT. -/
theorem directSlot_captureArmed_capStat :
    (directSlot captureSrc (.cset 0 1) captureArmed).reg Reg.RES_CAP_STAT = 3 := by decide +kernel

theorem captureArmed_capStat : captureArmed.reg Reg.RES_CAP_STAT = 1 := by decide +kernel

theorem exec_cset_captureArmed :
    exec (.cset captureSrc 0 1) captureArmed = .next (directSlot captureSrc (.cset 0 1) captureArmed) :=
  act_on rfl (by decide +kernel)

/-- Refutes O17: the one bundle of a CSET can start an armed capture range, and ACTIVE then sets in CAP_STAT, a register that
`IssueFrame` says stands (R392, R393). `Takes` asks for no capture under way; it does not ask for none to be armed. -/
theorem not_scalarCommandsWriteTheirTargets : ¬ Obligations.ScalarCommandsWriteTheirTargets := by
  intro ⟨_, _, hall⟩
  obtain ⟨hcset, _⟩ := hall captureSrc captureArmed
  obtain ⟨t, hexec, _, _, _, _, _, _, _, _, _, hregs⟩ := hcset 0 1 takes_captureArmed
  obtain rfl := Host.Outcome.next.inj (exec_cset_captureArmed.symm.trans hexec)
  have hstands : (directSlot captureSrc (.cset 0 1) captureArmed).reg Reg.RES_CAP_STAT = captureArmed.reg Reg.RES_CAP_STAT :=
    hregs Reg.RES_CAP_STAT (by decide)
  rw [directSlot_captureArmed_capStat, captureArmed_capStat] at hstands
  exact absurd hstands (by decide)

end Sys2Proof.Machine
end

section
/-! SUPPORT. The event log: what LOG_ENTRY_WRITE does to the count of lost entries (R467). -/
namespace Sys2Proof.Machine

variable (s : State)

@[simp] theorem writeEntry_mgmt (e : LogEntry) : (s.writeEntry e).mgmt =
    { s.mgmt with logSeq := some s.nextSeq, logChain := shake256 32 (s.chainBefore ++ logHeadBytes e s.nextSeq) } := by
  unfold State.writeEntry
  dsimp only
  split <;> rfl

@[simp] theorem renewChain_logLost : s.renewChain.mgmt.logLost = s.mgmt.logLost := by
  unfold State.renewChain
  split
  · split <;> rfl
  · rfl

/-- An entry that finds the buffer full displaces the oldest one, which is counted as lost. -/
theorem logEvent_logLost_of_full (code sev : Nat) (data : List Byte) (hrun : s.mgmt.heldReset = false)
    (hfull : 256 ≤ s.mgmt.logBuf.length) : (s.logEvent code sev data).mgmt.logLost = s.mgmt.logLost + 1 := by
  simp [State.logEvent, hrun, hfull]

/-- Where 256 entries are still buffered after the oldest is written, the LOST event of an earlier loss loses one itself. -/
theorem writeLog_logLost_of_overfull {e : LogEntry} {rest : List LogEntry} (hcfg : s.boot.configEnded = true)
    (hrun : s.mgmt.heldReset = false) (hbuf : s.mgmt.logBuf = e :: rest) (hfull : 256 ≤ rest.length) (hlost : s.mgmt.logLost ≠ 0) :
    (writeLog s).mgmt.logLost = 1 := by
  simp only [writeLog, hcfg, hrun, hbuf, Bool.not_true, Bool.false_eq_true, or_self, if_false, renewChain_logLost]
  rw [if_neg (by simpa using hlost), logEvent_logLost_of_full]
  · simp
  · simpa using hfull

theorem mgmt_of_exec_logEntryWrite {t : State} (hon : s.boot.on = true) (h : exec .logEntryWrite s = .next t) :
    t.mgmt = (writeLog s).mgmt := by
  change act s (writeLog s) = _ at h
  unfold act outcome at h
  rw [if_pos hon] at h
  rw [← Host.Outcome.next.inj h]

/-- Any entry. -/
def someEntry : LogEntry := { pick := 0, code := 0x0003, sev := 0xFF, data := [] }

/-- A device after CONFIG whose log buffer holds one entry more than the 256 of R467, with one entry counted as lost. -/
def logOverfull : State := { State.reset with
  boot := { State.reset.boot with on := true, configEnded := true }
  mgmt := { State.reset.mgmt with logBuf := someEntry :: List.replicate 256 someEntry, logLost := 1 } }

theorem logLost_writeLog_logOverfull : (writeLog logOverfull).mgmt.logLost = 1 :=
  writeLog_logLost_of_overfull logOverfull rfl rfl rfl (Nat.le_of_eq List.length_replicate.symm) (by decide)

/-- Refutes O52: it asks nothing of the size of the log buffer, and with 256 entries behind the oldest one the LOST event displaces
one more, so that `logLost` is 1 and not 0 (R467). The count of lost entries is the clause that fails, and only in a buffer above the
bound that `logEvent` keeps; the chain (R466) has no part in it. -/
theorem not_logEntriesAreChained : ¬ Obligations.LogEntriesAreChained := by
  intro ⟨_, _, hwrite⟩
  obtain ⟨t, hexec, _, _, _, _, _, hlost, _⟩ := hwrite logOverfull someEntry (List.replicate 256 someEntry) rfl rfl rfl rfl
  have hone : t.mgmt.logLost = 1 := by
    rw [mgmt_of_exec_logEntryWrite logOverfull rfl hexec, logLost_writeLog_logOverfull]
  have hzero : t.mgmt.logLost = 0 := (hlost Nat.one_ne_zero).1
  rw [hone] at hzero
  exact absurd hzero (by decide)

end Sys2Proof.Machine
end
